-- ==== Sys2Proof/Word.lean ====
section
/-! DEFINITION. The words of the part: bytes, 16-bit words, frame numbers, samples and sample pairs. -/

namespace Sys2Proof

/-- One byte of a block, a subcode record or a link frame. -/
abbrev Byte := BitVec 8

/-- A 16-bit word: a frame tag, a CRC, a program number or a take number (R2, R3, R11). -/
abbrev Word16 := BitVec 16

/-- A frame number, 0 to 16,777,215, counted modulo 16,777,216 (R1, R88). -/
abbrev FrameNo := BitVec 24

/-- A sample: a signed 24-bit two's complement value (00_scope.md, Samples). -/
abbrev Sample := BitVec 24

/-- A sample pair: one L sample and one R sample at the same index (00_scope.md, Samples). -/
structure Pair where
  l : Sample
  r : Sample
  deriving DecidableEq, Repr, Inhabited

/-- The pair of zero. -/
def Pair.zero : Pair := ⟨0, 0⟩

end Sys2Proof
end

