-- ==== Sys2Proof/Syntax.lean ====
section
/-! DEFINITION. The commands of the part, one constructor per row of spec/opcode_table.json, and the
operands they carry. -/

namespace Sys2Proof

/-- The two heads (R25). Each head feeds the stream of its own name (R51). -/
inductive Head where
  | advance
  | confidence
  deriving DecidableEq, Repr

/-- The two link ports: upstream faces the host, downstream the next part (00_scope.md, Terms). -/
inductive Side where
  | up
  | down
  deriving DecidableEq, Repr

/-- The transport state on the TSTATE pins (R26). -/
inductive Transport where
  | play
  | shuttle
  | stopped
  deriving DecidableEq, Repr

/-- The lineage marks, least to most restrictive (00_scope.md, Lineage marks). -/
inductive Mark where
  | free
  | once
  | never
  deriving DecidableEq, Repr

/-- The format of a status record (R20). -/
inductive Format where
  | pro
  | consumer
  deriving DecidableEq, Repr

/-- The rate a status arrival carries (R20). -/
inductive ArrivalRate where
  | rate48
  | rate44
  | other
  deriving DecidableEq, Repr

/-- A status arrival of the receiver port (R20). -/
structure StatusArrival where
  format : Format
  copy : Mark
  rate : ArrivalRate
  deriving DecidableEq, Repr

/-- The commands. An event carries what its rule says arrives with it. A request row carries no
operand: it is the service of the oldest request not yet served, whose TAG and payload stand in the
request queue, where FRAME_RECEIVED_UPSTREAM put them (R168, R169; log 2). -/
inductive Instr where
  /-- POWER_ON_RESET (R176): the RESET pin is asserted. -/
  | powerOnReset
  /-- PART_RESET (R176): service of a PART RESET request. -/
  | partReset
  /-- PART_RESET_EFFECT (R176): a PART RESET that has fallen due takes effect. -/
  | partResetEffect
  /-- SAMPLE_CLOCK (R18, R19): a WCLK edge; `p` is the pair the converter delivers. -/
  | sampleClock (p : Pair)
  /-- OUTPUT_BOUNDARY (R28): an output boundary that is due is taken. -/
  | outputBoundary
  /-- RECEIVER_PAIR_STROBE (R20): the receiver strobes the pair `p`. -/
  | receiverPairStrobe (p : Pair)
  /-- LOCK_INDICATION_CHANGE (R133): the receiver's lock indication takes the level `active`. -/
  | lockIndicationChange (active : Bool)
  /-- STATUS_ARRIVAL (R133): the receiver delivers a status record. -/
  | statusArrival (a : StatusArrival)
  /-- BLOCK_ARRIVAL (R53): the head reads the bytes of one block. -/
  | blockArrival (head : Head) (bytes : List Byte)
  /-- HEAD_FRAME_END (R55): the head's frame ends. -/
  | headFrameEnd (head : Head)
  /-- TRANSPORT_STATE (R26): the TSTATE pins present the state `t`. -/
  | transportState (t : Transport)
  /-- FRAME_TICK (R88): a frame tick; bit i of `gpiLow` is set when the pin of line i is low (log 5). -/
  | frameTick (gpiLow : BitVec 4)
  /-- ABSENCE_COUNT_EXPIRY (R134): the absence count stands at 6. -/
  | absenceCountExpiry
  /-- QUERY_WAIT_EXPIRY (R156): wait counts stand at the wait limit. -/
  | queryWaitExpiry
  /-- QUERY_DISCARD (R157): ages since completion stand at 300. -/
  | queryDiscard
  /-- FRAME_WRITTEN (R41): the 102nd block of the frame in emission is emitted. -/
  | frameWritten
  /-- GPI_FALLING_EDGE (R99): the pin of the line falls. -/
  | gpiFallingEdge (line : Fin 4)
  /-- FRAME_RECEIVED_UPSTREAM (R163, R165): these bytes come on the upstream port's line. -/
  | frameReceivedUpstream (bytes : List Byte)
  /-- LINK_BYTE_GAP_TIMEOUT (R163): more than 100 µs pass between bytes of a frame. -/
  | linkByteGapTimeout (side : Side)
  /-- FRAME_RECEIVED_DOWNSTREAM (R163, R164): these bytes come on the downstream port's line. -/
  | frameReceivedDownstream (bytes : List Byte)
  /-- ARBITER_CHOICE (R170): the upstream sender starts its next frame. -/
  | arbiterChoice
  /-- UPSTREAM_FRAME_SENT (R169): the last byte of the frame being sent upstream is sent. -/
  | upstreamFrameSent
  /-- DOWNSTREAM_SEND (R167): the downstream sender starts its next frame. -/
  | downstreamSend
  /-- DOWNSTREAM_FRAME_SENT (R167): the last byte of the frame being sent downstream is sent. -/
  | downstreamFrameSent
  /-- HOLD_INPUT_CHANGE (R162): UHLDI (`up`) or DHLDI (`down`) is asserted or released. -/
  | holdInputChange (side : Side) (asserted : Bool)
  /-- PRESENT_CHANGE (R167): the DPRES pin takes the level `high`. -/
  | presentChange (high : Bool)
  /-- PROBE (R175). -/
  | probe
  /-- ASSIGN (R174). -/
  | assign
  /-- LINK_STATUS (R172). -/
  | linkStatus
  /-- LINK_SETUP (R173). -/
  | linkSetup
  /-- NOTICE_SETUP (R180). -/
  | noticeSetup
  /-- NOTICE_CLEAR (R181). -/
  | noticeClear
  /-- NOTICE_READ (R180). -/
  | noticeRead
  /-- SOURCE_SELECT (R30). -/
  | sourceSelect
  /-- MONITOR_SELECT (R29). -/
  | monitorSelect
  /-- INPUT_STATUS_READ (R31). -/
  | inputStatusRead
  /-- RECORD_START (R34). -/
  | recordStart
  /-- RECORD_STOP (R42). -/
  | recordStop
  /-- RECORD_STATUS (R49). -/
  | recordStatus
  /-- LINEAGE_SETUP (R146). -/
  | lineageSetup
  /-- CONCEAL_SETUP (R86). -/
  | concealSetup
  /-- QUALITY_READ (R71). -/
  | qualityRead
  /-- QUALITY_TOTALS (R71). -/
  | qualityTotals
  /-- PREREAD_SETUP (R52). -/
  | prereadSetup
  /-- POSITION_READ (R97). -/
  | positionRead
  /-- GPI_SETUP (R98). -/
  | gpiSetup
  /-- MARK_READ (R102). -/
  | markRead
  /-- CUE_ADD (R106). -/
  | cueAdd
  /-- CUE_REMOVE (R107). -/
  | cueRemove
  /-- CUE_READ (R108). -/
  | cueRead
  /-- EDIT_ARM (R110). -/
  | editArm
  /-- EDIT_DISARM (R113). -/
  | editDisarm
  /-- EDIT_ABORT (R130). -/
  | editAbort
  /-- SPLICE_LOG_READ (R132). -/
  | spliceLogRead
  /-- EDIT_SETUP (R113). -/
  | editSetup
  /-- LINEAGE_STATUS (R147). -/
  | lineageStatus
  /-- REFUSAL_LIST_READ (R144). -/
  | refusalListRead
  /-- TAPE_QUERY (R150). -/
  | tapeQuery
  /-- QUERY_CANCEL (R158). -/
  | queryCancel
  /-- QUERY_SETUP (R159). -/
  | querySetup
  /-- BROKEN_FRAME (R163): these bytes come on the port's line, the last of them an ADDRESS byte
  above 31 or a LENGTH byte above 240. -/
  | brokenFrame (side : Side) (bytes : List Byte)
  deriving DecidableEq, Repr

end Sys2Proof
end

