-- ==== Sys2Proof/Decode.lean ====
section
/-! DEFINITION. The commands that a word spells. No row of spec/opcode_table.json gives bits (every row has
an empty list of fields), so no word spells a command (log 30). -/

namespace Sys2Proof

/-- The command that the low `nbits` bits of `w` spell: none, since the table gives no row any bits. -/
def decodeTableWord (_nbits _w : Nat) : Option Instr := none

end Sys2Proof
end

