-- ==== Sys2Proof/Config.lean ====
section
/-! DEFINITION. What is fixed for one part: sizes of tape and link, capacities, and the pin levels that the
model takes at the first power-up. The spec leaves no value open, so there is no free value here. -/

namespace Sys2Proof.Config

/-- Bytes in a block (R2). -/
def blockBytes : Nat := 126

/-- Positions on a track (R1). -/
def positions : Nat := 51

/-- Data blocks on a track (R1). -/
def dataBlocks : Nat := 40

/-- Parity groups on a track (R8). -/
def groups : Nat := 10

/-- Sample slots in a data block (R6). -/
def slotsPerBlock : Nat := 40

/-- Frame numbers: 0 to this minus 1 (R1). -/
def frameCount : Nat := 16777216

/-- The closed capture frames held (R23). -/
def closedFrames : Nat := 3

/-- The written-frame list's capacity (R47). -/
def writtenCap : Nat := 8

/-- The ring's capacity (R67). -/
def ringCap : Nat := 8

/-- A quality history's capacity (R63). -/
def historyCap : Nat := 16

/-- The cue list's capacity (R105). -/
def cueCap : Nat := 16

/-- The splice log's capacity (R132). -/
def spliceLogCap : Nat := 16

/-- The refused-span list's capacity (R143). -/
def refusalCap : Nat := 8

/-- The query table's capacity (R149). -/
def queryCap : Nat := 4

/-- The request queue's capacity (R169). -/
def requestCap : Nat := 4

/-- The hold store's capacity (R167). -/
def holdCap : Nat := 2

/-- The forward buffer's capacity (R164). -/
def forwardCap : Nat := 4

/-- The greatest value of a 32-bit count (00_scope.md, Counters). -/
def max32 : Nat := 4294967295

/-- The greatest value of a 16-bit count (00_scope.md, Counters). -/
def max16 : Nat := 65535

/-- The age at which an uncollected answer is discarded (R157). -/
def discardAge : Nat := 300

/-- The absence count at which the input status is ABSENT (R133). -/
def absenceLimit : Nat := 6

/-- DESIGN CHOICE (log 4), unsafe: the TSTATE pins read STOPPED at the first power-up. -/
def transportAtPowerUp : Transport := .stopped

/-- DESIGN CHOICE (log 4), unsafe: the lock indication is inactive at the first power-up. -/
def lockedAtPowerUp : Bool := false

/-- DESIGN CHOICE (log 4), unsafe: both HOLD inputs are released at the first power-up. -/
def holdAtPowerUp : Bool := false

/-- DESIGN CHOICE (log 4), unsafe: nothing is connected downstream, and DPRES reads low (R162). -/
def presentAtPowerUp : Bool := false

end Sys2Proof.Config
end

