-- ==== Sys2Proof/Machine/State.lean ====
section
/-! DEFINITION. The state of the part as plain data, block by block in the order of 00_scope.md's table, the
reasons a step can stop, and the state after reset. -/

namespace Sys2Proof.Machine

/-! ## Values shared by the blocks -/

/-- The session rate and the rate code of a subcode (R11, R30). -/
inductive Rate where
  | rate48
  | rate44
  deriving DecidableEq, Repr

/-- The two tracks of a frame (R1). -/
inductive Track where
  | a
  | b
  deriving DecidableEq, Repr

/-- The frame kind of a subcode (R11). -/
inductive FrameKind where
  | normal
  | inserted
  | splice
  deriving DecidableEq, Repr

/-- The subcode record (R11). -/
structure Subcode where
  number : FrameNo
  program : Word16
  take : Word16
  mark : Mark
  rate : Rate
  kind : FrameKind
  refused : Bool
  deriving DecidableEq, Repr

/-- One value for each head or stream. -/
structure PerHead (α : Type) where
  advance : α
  confidence : α
  deriving DecidableEq, Repr

/-- One value for each channel. -/
structure Stereo (α : Type) where
  l : α
  r : α
  deriving DecidableEq, Repr

/-! ## Pins -/

/-- The levels of the input pins that blocks read between events (R20, R26, R162). -/
structure Pins where
  transport : Transport
  locked : Bool
  upHold : Bool
  downHold : Bool
  present : Bool
  deriving DecidableEq, Repr

/-! ## Input unit -/

/-- The source selection (R30). -/
inductive Source where
  | converter
  | digital
  deriving DecidableEq, Repr

/-- The condition of a capture frame (R21). -/
inductive Condition where
  | normal
  | trimmed
  | filled
  | absent
  | standIn
  deriving DecidableEq, Repr

/-- The ruling on a capture frame, with the written mark when PERMIT (R137). -/
inductive Ruling where
  | permit (mark : Mark)
  | refuse
  deriving DecidableEq, Repr

/-- A closed capture frame, or a stand-in (R21, R23). -/
structure CaptureFrame where
  number : FrameNo
  source : Source
  pairs : List Pair
  condition : Condition
  received : Nat
  ruling : Ruling
  deriving DecidableEq, Repr

/-- The capture frame in gathering (R21, R22): the pairs that entered, up to spf of them, the count of all
that entered, and whether the current input status was ABSENT at a moment of the interval. -/
structure Gathering where
  number : FrameNo
  source : Source
  pairs : List Pair
  received : Nat
  absentSeen : Bool
  deriving DecidableEq, Repr

/-- The input unit (R21, R23, R30). The closed frames stand newest first. -/
structure InputUnit where
  source : Source
  rate : Rate
  gathering : Option Gathering
  closed : List CaptureFrame
  deriving DecidableEq, Repr

/-! ## Lineage guard -/

/-- The five classes of the current input status (R133). -/
inductive InputClass where
  | absent
  | pro
  | consumer (copy : Mark)
  deriving DecidableEq, Repr

/-- The refusal action (R139). -/
inductive RefusalAction where
  | silence
  | halt
  deriving DecidableEq, Repr

/-- The context of a refused span, with the entry id for EDIT (R141). -/
inductive SpanContext where
  | record
  | edit (id : Nat)
  deriving DecidableEq, Repr

/-- The open refused span (R141). -/
structure OpenSpan where
  start : FrameNo
  last : FrameNo
  context : SpanContext
  listed : Bool
  deriving DecidableEq, Repr

/-- An entry of the refused-span list; its end frame is absent while its span is open (R143). -/
structure RefusedEntry where
  start : FrameNo
  stop : Option FrameNo
  context : SpanContext
  deriving DecidableEq, Repr

/-- The last ruling made (R137). -/
structure LastRuling where
  number : FrameNo
  ruling : Ruling
  deriving DecidableEq, Repr

/-- The lineage guard (R133, R136, R141, R143, R148). The refused-span list stands oldest first. -/
structure Lineage where
  arrival : Option StatusArrival
  absence : Nat
  cls : InputClass
  interval : Option Mark
  lastRuling : Option LastRuling
  origin : Mark
  action : RefusalAction
  span : Option OpenSpan
  refusals : List RefusedEntry
  incomplete : Bool
  deriving DecidableEq, Repr

/-! ## Record formatter -/

/-- The formatter state (R32). -/
inductive FormatterState where
  | idle
  | recording
  | stopping
  deriving DecidableEq, Repr

/-- The mode of a recording (R34). -/
inductive RecordMode where
  | continuing
  | new
  deriving DecidableEq, Repr

/-- The end reason of a recording (R36). -/
inductive EndReason where
  | stopped
  | transport
  | refused
  deriving DecidableEq, Repr

/-- The recording record (R36). -/
structure RecordingRecord where
  mode : Option RecordMode
  program : Word16
  take : Word16
  first : Option FrameNo
  last : Option FrameNo
  framesWritten : Nat
  framesSilenced : Nat
  endReason : Option EndReason
  deriving DecidableEq, Repr

/-- What a frame in emission belongs to: the recording of the recording record (and whether it is written
as silence), an earlier recording (log 17), or the edit engine's entry (R41). -/
inductive EmissionOrigin where
  | recording (silenced : Bool)
  | earlier
  | splice
  deriving DecidableEq, Repr

/-- The frame assembly while a frame is in emission: its number and its 102 blocks in write order (R14,
R41). -/
structure Emission where
  number : FrameNo
  blocks : List (List Byte)
  origin : EmissionOrigin
  deriving DecidableEq, Repr

/-- The record formatter (R32, R36, R47, R50). The written-frame list stands oldest first. -/
structure Formatter where
  state : FormatterState
  record : RecordingRecord
  written : List FrameNo
  unconfirmed : Nat
  emission : Option Emission
  deriving DecidableEq, Repr

/-! ## Channel interface and frame decoder -/

/-- A block placed in a frame in assembly (R51, R53). -/
structure Placed where
  track : Track
  position : Nat
  payload : List Byte
  deriving DecidableEq, Repr

/-- A frame in assembly (R51): the tag, the filled places in order of arrival, the foreign count. -/
structure Assembly where
  tag : Option Word16
  places : List Placed
  foreign : Nat
  deriving DecidableEq, Repr

/-- The subcode source of a quality record (R57). -/
inductive SubcodeSource where
  | a
  | b
  | none
  deriving DecidableEq, Repr

/-- A quality record (R64). -/
structure QualityRecord where
  number : Option FrameNo
  head : Head
  erased : Nat
  recovered : Nat
  lost : Nat
  interpolated : Nat
  held : Nat
  lowest : Nat
  source : SubcodeSource
  foreign : Nat
  mismatch : Bool
  deriving DecidableEq, Repr

/-- The four totals of a head (R65). -/
structure Totals where
  decoded : Nat
  lossy : Nat
  interpolated : Nat
  held : Nat
  deriving DecidableEq, Repr

/-- The frame decoder (R51, R52, R63, R65). Histories stand newest first. -/
structure Decoder where
  preread : Nat
  assembly : PerHead Assembly
  history : PerHead (List QualityRecord)
  totals : PerHead Totals
  deriving DecidableEq, Repr

/-! ## Concealment unit and ring -/

/-- The previous-sample record of a channel state (R73). -/
structure PrevSample where
  value : Sample
  valid : Bool
  number : Option FrameNo
  deriving DecidableEq, Repr

/-- A channel state: hold count, gain in steps of 1/32, held base, previous-sample record (R73). -/
structure ChannelState where
  h : Nat
  g : Nat
  b : Sample
  prev : PrevSample
  deriving DecidableEq, Repr

/-- The concealment unit (R73). -/
structure Conceal where
  hlim : Nat
  chans : PerHead (Stereo ChannelState)
  deriving DecidableEq, Repr

/-- An entry of the decoded frame ring (R67). -/
structure RingEntry where
  number : FrameNo
  pairs : List Pair
  flags : List (Bool × Bool)
  subcode : Option Subcode
  deriving DecidableEq, Repr

/-! ## Position unit -/

/-- The lock state (R90). -/
inductive LockState where
  | unlocked
  | locked
  | slipped
  deriving DecidableEq, Repr

/-- The function of a GPI line (R98). -/
inductive GpiFunction where
  | off
  | mark
  | arm
  | abort
  deriving DecidableEq, Repr

/-- The detection of a GPI line (R98). -/
inductive GpiDetection where
  | edge
  | level
  deriving DecidableEq, Repr

/-- A GPI request: the sample position and the lock state at detection (R99). -/
structure GpiRequest where
  position : Nat
  lock : LockState
  deriving DecidableEq, Repr

/-- A GPI line: its configuration, request queue (oldest first) and overwrite flag (R98, R100). -/
structure GpiLine where
  function : GpiFunction
  detection : GpiDetection
  depth : Nat
  clearOnStop : Bool
  queue : List GpiRequest
  overwrite : Bool
  deriving DecidableEq, Repr

/-- The position unit (R88, R90, R98). -/
structure Position where
  w : FrameNo
  lock : LockState
  agree : Nat
  seq : Nat
  disagree : Nat
  last : Option FrameNo
  age : Nat
  gpi : Vector GpiLine 4
  deriving DecidableEq, Repr

/-! ## Edit engine -/

/-- The phase of the ACTIVE entry (R123). -/
inductive Phase where
  | fadeIn
  | insert
  | fadeOut
  deriving DecidableEq, Repr

/-- The state of a cue entry; the phase is present while ACTIVE (R104). -/
inductive CueState where
  | pending
  | active (phase : Phase)
  deriving DecidableEq, Repr

/-- A cue entry (R104). The in-point and the out-point are sample positions. -/
structure CueEntry where
  id : Nat
  inPoint : Nat
  outPoint : Nat
  fade : Nat
  program : Word16
  take : Word16
  state : CueState
  degraded : Nat
  deriving DecidableEq, Repr

/-- The engine state (R109). -/
inductive EngineState where
  | disarmed
  | armed
  | active
  deriving DecidableEq, Repr

/-- The engine's mode (R109). -/
inductive EngineMode where
  | execute
  | rehearse
  deriving DecidableEq, Repr

/-- A mode with its LOOP (R109). -/
structure ArmMode where
  mode : EngineMode
  loop : Bool
  deriving DecidableEq, Repr

/-- The cursor (R109, R111): absent, on the entry of an id, or passed the last entry. -/
inductive Cursor where
  | absent
  | entry (id : Nat)
  | passed
  deriving DecidableEq, Repr

/-- The outcome of an entry (R132). -/
inductive EntryOutcome where
  | completed
  | rehearsed
  | missed
  | refused
  | aborted
  deriving DecidableEq, Repr

/-- The reason of a splice log record (R132). -/
inductive Reason where
  | passed
  | noLock
  | lostLock
  | transport
  | refused
  | requested
  deriving DecidableEq, Repr

/-- A splice log record (R132). -/
structure SpliceRecord where
  id : Nat
  mode : EngineMode
  outcome : EntryOutcome
  reason : Option Reason
  first : Option FrameNo
  last : Option FrameNo
  framesWritten : Nat
  degraded : Nat
  openEnded : Bool
  deriving DecidableEq, Repr

/-- The end of the ACTIVE entry that the tick decided and that awaits the emission of its last frame
(R125, R129, R130). -/
inductive Ending where
  | complete
  | refusal
  | request
  deriving DecidableEq, Repr

/-- What the engine keeps of the ACTIVE entry's frames (R124, R126): first frame produced, last frame
written or produced, frames written, and of the last frame produced its last pair and its mark. -/
structure EntryRun where
  first : Option FrameNo
  last : Option FrameNo
  framesWritten : Nat
  endPair : Pair
  endMark : Mark
  ending : Option Ending
  deriving DecidableEq, Repr

/-- The edit engine (R105, R109, R132). The cue list is ordered by in-point, the splice log stands newest
first. The mode in force while armed is the last arm mode (R110; log 18). -/
structure Engine where
  cues : List CueEntry
  lastId : Option Nat
  state : EngineState
  arm : ArmMode
  cursor : Cursor
  pendingAbort : Bool
  lockAgeReq : Nat
  run : EntryRun
  log : List SpliceRecord
  recordsMade : Nat
  deriving DecidableEq, Repr

/-! ## Query table -/

/-- The kind of a query (R149). -/
inductive QueryKind where
  | subcode
  | quality
  deriving DecidableEq, Repr

/-- The record a FOUND query answers with: a subcode record for a SUBCODE query, a quality record for a
QUALITY query (R149, R154). -/
inductive QueryRecord where
  | subcode (r : Subcode)
  | quality (r : QualityRecord)
  deriving DecidableEq, Repr

/-- The outcome of a query; the record is present when FOUND (R149). -/
inductive QueryOutcome where
  | found (record : QueryRecord)
  | unreadable
  | expired
  deriving DecidableEq, Repr

/-- The state of a query entry, with what is present in that state (R149). -/
inductive QueryState where
  | held (id : Nat)
  | waiting
  | complete (age : Nat) (outcome : QueryOutcome)
  deriving DecidableEq, Repr

/-- An entry of the query table (R149). -/
structure QueryEntry where
  kind : QueryKind
  frame : FrameNo
  state : QueryState
  passes : Nat
  wait : Nat
  deriving DecidableEq, Repr

/-- The query table and its wait limit (R149, R156). `tickLimit` is the limit that the last tick taken in PLAY
found, 0 before the first one: a tick already taken keeps the limit it found (R159; log 7). -/
structure QueryTable where
  entries : List QueryEntry
  limit : Nat
  tickLimit : Nat
  deriving DecidableEq, Repr

/-! ## Output unit -/

/-- The monitor selection (R29). -/
inductive Monitor where
  | input
  | advance
  | confidence
  | auto
  deriving DecidableEq, Repr

/-- A frame that can be played, with the mark of R145. -/
structure PlayFrame where
  pairs : List Pair
  mark : Mark
  deriving DecidableEq, Repr

/-- The newest frame of each source that closed since the last boundary (R28, R29). -/
structure Fresh where
  input : Option PlayFrame
  advance : Option PlayFrame
  confidence : Option PlayFrame
  splice : Option PlayFrame
  deriving DecidableEq, Repr

/-- The record on the output status port (R29, R145). -/
structure OutputStatus where
  format : Format
  copy : Mark
  rate : Rate
  deriving DecidableEq, Repr

/-- The output unit (R28). `playPos` is the index of the next pair to play; `clocks` counts the sample clocks
of the interval, the boundary's own among them; `tickWaiting` says that a tick taken in PLAY awaits its
sample clock; `freeRun` that the count makes a boundary in PLAY too (after a reset or a rate change); and
`unstarted` that no boundary has fallen since the reset (log 8). -/
structure OutputUnit where
  monitor : Monitor
  playing : List Pair
  playPos : Nat
  status : OutputStatus
  port : Pair
  fresh : Fresh
  tickWaiting : Bool
  clocks : Nat
  freeRun : Bool
  unstarted : Bool
  deriving DecidableEq, Repr

/-! ## Notice unit -/

/-- The eighteen causes, in the order of their codes (R177). -/
inductive Cause where
  | inputSlip
  | inputStatusChange
  | copyRefused
  | copyResumed
  | confidenceFault
  | playMute
  | lockChange
  | editStarted
  | editFinished
  | editAborted
  | editMissed
  | markCaptured
  | markOverwrite
  | queryComplete
  | queryDiscarded
  | linkFault
  | rateMismatch
  | refusalListFull
  deriving DecidableEq, Repr

/-- The notice unit (R177 to R179). Cause c is bit c − 1 of the two sets; `lr` is −1 to 15. -/
structure NoticeUnit where
  pending : BitVec 24
  enabled : BitVec 24
  priority : Vector (BitVec 4) 18
  lr : Int
  deriving DecidableEq, Repr

/-! ## Link unit -/

/-- The request kinds, in the order of their codes (10, Request kinds). -/
inductive RequestKind where
  | probe
  | assign
  | linkStatus
  | partReset
  | linkSetup
  | noticeSetup
  | noticeClear
  | noticeRead
  | sourceSelect
  | monitorSelect
  | inputStatusRead
  | recordStart
  | recordStop
  | recordStatus
  | lineageSetup
  | concealSetup
  | qualityRead
  | qualityTotals
  | prereadSetup
  | positionRead
  | gpiSetup
  | markRead
  | cueAdd
  | cueRemove
  | cueRead
  | editArm
  | editDisarm
  | editAbort
  | spliceLogRead
  | editSetup
  | lineageStatus
  | refusalListRead
  | tapeQuery
  | queryCancel
  | querySetup
  deriving DecidableEq, Repr

/-- A whole link frame, less LEAD and LENGTH; LENGTH is the payload's (R15). -/
structure Frame where
  address : Byte
  kind : Byte
  tag : Byte
  payload : List Byte
  check : Byte
  deriving DecidableEq, Repr

/-- A link request in the request queue (R169). -/
structure LinkRequest where
  kind : RequestKind
  tag : Byte
  payload : List Byte
  served : Bool
  deriving DecidableEq, Repr

/-- A place of the hold store (R167): a frame to be forwarded downstream, or taken by a reply of the link
unit, whose bytes stand on the own side until they are sent. -/
inductive HoldSlot where
  | forward (f : Frame)
  | reply
  deriving DecidableEq, Repr

/-- The three kinds of frame on the own side (R169). -/
inductive OwnKind where
  | service
  | linkReply
  | notice
  deriving DecidableEq, Repr

/-- A frame ready to send on the own side (R169). -/
structure OwnFrame where
  kind : OwnKind
  frame : Frame
  deriving DecidableEq, Repr

/-- The side of the upstream sender (R170). -/
inductive ArbSide where
  | own
  | forward
  deriving DecidableEq, Repr

/-- What is being sent upstream: a frame of the own side or of the forward buffer. -/
inductive UpFrame where
  | own (o : OwnFrame)
  | forward (f : Frame)
  deriving DecidableEq, Repr

/-- A frame being sent on a port. `orphan` says that a PART RESET has emptied the place it came from, so
that nothing is freed when its last byte is sent (R176; log 12). -/
structure Sending (α : Type) where
  frame : α
  orphan : Bool
  deriving DecidableEq, Repr

/-- A port's receiver: hunting, or gathering with the bytes taken after LEAD (R163). -/
inductive Receiver where
  | hunting
  | gathering (bytes : List Byte)
  deriving DecidableEq, Repr

/-- The deck address A and the range last (R174). -/
structure Assignment where
  a : Nat
  last : Nat
  deriving DecidableEq, Repr

/-- The link unit (10, opening list; R163, R167 to R171). Every list stands oldest first. `paused` says that
a served PART RESET pauses service (R169); `resetDue` that a PART RESET has fallen due (R176; log 11). -/
structure LinkUnit where
  assigned : Option Assignment
  requests : List LinkRequest
  hold : List HoldSlot
  forward : List Frame
  own : List OwnFrame
  lastSide : ArbSide
  runCount : Nat
  slice : Nat
  flags : BitVec 8
  upReceiver : Receiver
  downReceiver : Receiver
  upSending : Option (Sending UpFrame)
  downSending : Option (Sending Frame)
  paused : Bool
  resetDue : Bool
  deriving DecidableEq, Repr

/-! ## The whole part -/

/-- The state of the part, and the queue of commands that wait (log 1). -/
structure State where
  pending : List Instr
  pins : Pins
  sampleCount : Nat
  input : InputUnit
  lineage : Lineage
  formatter : Formatter
  gathered : PerHead (List (List Byte))
  decoder : Decoder
  conceal : Conceal
  ring : List RingEntry
  position : Position
  engine : Engine
  query : QueryTable
  output : OutputUnit
  notice : NoticeUnit
  link : LinkUnit
  deriving DecidableEq, Repr

/-- The reasons the machine stops with a fault: none. What the spec calls a fault is a flag, a cause or a
reply status, after which the part goes on (INVENTORY.md, Faults). -/
inductive Fault where
  deriving DecidableEq, Repr

/-- The reasons a command has no meaning. -/
inductive Refusal where
  /-- Raised by the dispatcher alone, for a command without a meaning (none is left): safe, the machine
  stops where the hardware goes on. -/
  | notModelled (mnemonic : String)
  deriving DecidableEq, Repr

/-! ## Reset values -/

/-- The input unit after either reset (R23, R30). -/
def InputUnit.reset : InputUnit :=
  { source := .converter, rate := .rate48, gathering := none, closed := [] }

/-- The lineage guard after either reset (R148). -/
def Lineage.reset : Lineage :=
  { arrival := none, absence := 0, cls := .absent, interval := none, lastRuling := none,
    origin := .free, action := .silence, span := none, refusals := [], incomplete := false }

/-- The recording record after either reset (R36). -/
def RecordingRecord.reset : RecordingRecord :=
  { mode := none, program := 0, take := 0, first := none, last := none, framesWritten := 0,
    framesSilenced := 0, endReason := none }

/-- The record formatter after either reset (R50). -/
def Formatter.reset : Formatter :=
  { state := .idle, record := RecordingRecord.reset, written := [], unconfirmed := 0,
    emission := none }

/-- An empty frame in assembly (R51). -/
def Assembly.empty : Assembly := { tag := none, places := [], foreign := 0 }

/-- Totals of 0 (R65). -/
def Totals.zero : Totals := { decoded := 0, lossy := 0, interpolated := 0, held := 0 }

/-- The frame decoder after either reset (R72). -/
def Decoder.reset : Decoder :=
  { preread := 2, assembly := ⟨Assembly.empty, Assembly.empty⟩, history := ⟨[], []⟩,
    totals := ⟨Totals.zero, Totals.zero⟩ }

/-- A channel state after either reset (R73, R87). -/
def ChannelState.reset : ChannelState :=
  { h := 0, g := 32, b := 0, prev := { value := 0, valid := false, number := none } }

/-- The concealment unit after either reset (R73, R87). -/
def Conceal.reset : Conceal :=
  { hlim := 48,
    chans := ⟨⟨ChannelState.reset, ChannelState.reset⟩, ⟨ChannelState.reset, ChannelState.reset⟩⟩ }

/-- A GPI line after either reset (R98). -/
def GpiLine.reset : GpiLine :=
  { function := .off, detection := .edge, depth := 1, clearOnStop := false, queue := [],
    overwrite := false }

/-- The position unit after either reset (R88, R90, R98). -/
def Position.reset : Position :=
  { w := 0, lock := .unlocked, agree := 0, seq := 0, disagree := 0, last := none, age := 0,
    gpi := #v[GpiLine.reset, GpiLine.reset, GpiLine.reset, GpiLine.reset] }

/-- What the engine keeps of an ACTIVE entry's frames before the first of them. -/
def EntryRun.empty : EntryRun :=
  { first := none, last := none, framesWritten := 0, endPair := Pair.zero, endMark := .never,
    ending := none }

/-- The edit engine after either reset (R105, R109, R132). -/
def Engine.reset : Engine :=
  { cues := [], lastId := none, state := .disarmed, arm := { mode := .rehearse, loop := false },
    cursor := .absent, pendingAbort := false, lockAgeReq := 30, run := EntryRun.empty, log := [],
    recordsMade := 0 }

/-- The query table after either reset (R161). -/
def QueryTable.reset : QueryTable := { entries := [], limit := 9000, tickLimit := 0 }

/-- No frame closed since the last boundary. -/
def Fresh.none : Fresh :=
  { input := .none, advance := .none, confidence := .none, splice := .none }

/-- The output unit after either reset (R28, R29). The reset counts as a boundary's sample clock, so that the
first boundary falls spf sample clocks after it (log 8). -/
def OutputUnit.reset : OutputUnit :=
  { monitor := .auto, playing := [], playPos := 0,
    status := { format := .consumer, copy := .never, rate := .rate48 }, port := Pair.zero,
    fresh := Fresh.none, tickWaiting := false, clocks := 1, freeRun := true, unstarted := true }

/-- The notice unit after either reset (R177 to R179): the priorities are the table's defaults. -/
def NoticeUnit.reset : NoticeUnit :=
  { pending := 0, enabled := 0,
    priority := #v[4, 6, 12, 8, 10, 9, 7, 5, 5, 13, 11, 3, 4, 2, 3, 14, 6, 12], lr := -1 }

/-- The link unit after power-on reset (R162, R163, R170, R171, R176). -/
def LinkUnit.powerOn : LinkUnit :=
  { assigned := none, requests := [], hold := [], forward := [], own := [], lastSide := .own,
    runCount := 0, slice := 2, flags := 0, upReceiver := .hunting, downReceiver := .hunting,
    upSending := none, downSending := none, paused := false, resetDue := false }

/-- The state after power-on reset with these pin levels: TSTATE and the other input pins keep their present
value (R26), every block takes its reset values. -/
def State.powerOn (pins : Pins) (pending : List Instr) : State :=
  { pending := pending, pins := pins, sampleCount := 0, input := InputUnit.reset,
    lineage := Lineage.reset, formatter := Formatter.reset, gathered := ⟨[], []⟩,
    decoder := Decoder.reset, conceal := Conceal.reset, ring := [], position := Position.reset,
    engine := Engine.reset, query := QueryTable.reset, output := OutputUnit.reset,
    notice := NoticeUnit.reset, link := LinkUnit.powerOn }

/-- The pin levels at the first power-up (log 4). -/
def Pins.powerUp : Pins :=
  { transport := Config.transportAtPowerUp, locked := Config.lockedAtPowerUp,
    upHold := Config.holdAtPowerUp, downHold := Config.holdAtPowerUp,
    present := Config.presentAtPowerUp }

/-- The part right after power-on reset, with no command waiting. -/
def State.reset : State := State.powerOn Pins.powerUp []

end Sys2Proof.Machine
end

