-- ==== Sys2Proof/Machine/Ops.lean ====
section
/-! DEFINITION. Operations the blocks share: saturating counts, marks, rates, bytes and their order, the two
CRCs, and the setters of the blocks of the state. -/

namespace Sys2Proof.Machine

/-! ## Counts -/

/-- A count that rises by 1 and stops at `max` (00_scope.md, Counters). -/
def satInc (max n : Nat) : Nat := min (n + 1) max

/-- A count that rises by `k` and stops at `max` (00_scope.md, Counters). -/
def satAdd (max n k : Nat) : Nat := min (n + k) max

/-- The newest `cap` items of a list that stands newest first, after `x` has joined. -/
def pushNewest {α : Type} (cap : Nat) (x : α) (l : List α) : List α := (x :: l).take cap

/-! ## Rates, marks and rulings -/

/-- spf, the sample pairs per frame (00_scope.md, symbols). -/
def spf : Rate → Nat
  | .rate48 => 1600
  | .rate44 => 1470

/-- The place of a mark in the order FREE, ONCE, NEVER, which is also its code (R11). -/
def markCode : Mark → Nat
  | .free => 0
  | .once => 1
  | .never => 2

/-- The more restrictive of two marks (00_scope.md, Lineage marks). -/
def stricter (a b : Mark) : Mark := if markCode a < markCode b then b else a

/-- The rate code of a session rate (R11, R30). -/
def rateCode : Rate → Nat
  | .rate48 => 0
  | .rate44 => 1

/-- A status arrival's rate equals the session rate (R133). -/
def rateMatches : ArrivalRate → Rate → Bool
  | .rate48, .rate48 => true
  | .rate44, .rate44 => true
  | _, _ => false

/-! ## Samples -/

/-- A sample value as a sample. Every computation of the spec keeps its result in the sample range. -/
def sampleOf (v : Int) : Sample := BitVec.ofInt 24 v

/-- num / den rounded to the nearest integer, ties away from zero (00_scope.md, Samples). -/
def roundAway (num : Int) (den : Nat) : Int :=
  if num < 0 then -(((2 * num.natAbs + den) / (2 * den) : Nat) : Int)
  else (((2 * num.natAbs + den) / (2 * den) : Nat) : Int)

/-- The pair at index n, or the last pair when n lies beyond the frame; zero for no pairs (R28). -/
def pairAt (ps : List Pair) (n : Nat) : Pair :=
  match ps[n]? with
  | some p => p
  | none => (ps.getLast?).getD Pair.zero

/-- `n` pairs of zero. -/
def silence (n : Nat) : List Pair := List.replicate n Pair.zero

/-! ## Bytes -/

/-- The `k` bytes of `n`, most significant first (00_scope.md, Byte order). -/
def be : Nat → Nat → List Byte
  | 0, _ => []
  | k + 1, n => BitVec.ofNat 8 (n / 256 ^ k) :: be k n

/-- The number that big-endian bytes spell. -/
def ofBe (bs : List Byte) : Nat := bs.foldl (fun acc b => acc * 256 + b.toNat) 0

/-- A byte that is 1 for true and 0 for false. -/
def bit (b : Bool) : List Byte := [if b then 1 else 0]

/-- An optional field of `k` bytes: a presence byte, then the bytes, or zeros when absent (R17). -/
def optField (k : Nat) : Option (List Byte) → List Byte
  | some bs => 1 :: bs
  | none => 0 :: List.replicate k 0

/-- The bytewise exclusive OR (R8). -/
def xorBytes (a b : List Byte) : List Byte := List.zipWith (· ^^^ ·) a b

/-! ## CRCs -/

/-- One shift of the block CRC's register (R3). -/
def crc16Shift (r : BitVec 16) : BitVec 16 :=
  if r.msb then (r <<< 1) ^^^ 0x1021 else r <<< 1

/-- One byte through the block CRC's register: XOR into the upper eight bits, then eight shifts (R3). -/
def crc16Byte (r : BitVec 16) (b : Byte) : BitVec 16 :=
  (List.range 8).foldl (fun x _ => crc16Shift x) (r ^^^ (b.setWidth 16 <<< 8))

/-- The block CRC, from 0xFFFF (R3). -/
def crc16 (bs : List Byte) : BitVec 16 := bs.foldl crc16Byte 0xFFFF

/-- One shift of the CHECK register (R15). -/
def crc8Shift (r : BitVec 8) : BitVec 8 :=
  if r.msb then (r <<< 1) ^^^ 0x07 else r <<< 1

/-- One byte through the CHECK register (R15). -/
def crc8Byte (r : BitVec 8) (b : Byte) : BitVec 8 :=
  (List.range 8).foldl (fun x _ => crc8Shift x) (r ^^^ b)

/-- The CHECK of a link frame's bytes from ADDRESS to the last of the payload, from 0x00 (R15). -/
def crc8 (bs : List Byte) : BitVec 8 := bs.foldl crc8Byte 0

/-! ## Per-head values -/

/-- The value of a head. -/
def PerHead.get {α : Type} (p : PerHead α) : Head → α
  | .advance => p.advance
  | .confidence => p.confidence

/-- The values with one head's replaced. -/
def PerHead.set {α : Type} (p : PerHead α) (h : Head) (x : α) : PerHead α :=
  match h with
  | .advance => { p with advance := x }
  | .confidence => { p with confidence := x }

/-! ## Setters: one block of the state replaced, every other kept -/

/-- The state with this queue of waiting commands. -/
def State.setPending (s : State) (x : List Instr) : State := { s with pending := x }
/-- The state with these pin levels. -/
def State.setPins (s : State) (x : Pins) : State := { s with pins := x }
/-- The state with this tick-relative count. -/
def State.setSampleCount (s : State) (x : Nat) : State := { s with sampleCount := x }
/-- The state with this input unit. -/
def State.setInput (s : State) (x : InputUnit) : State := { s with input := x }
/-- The state with this lineage guard. -/
def State.setLineage (s : State) (x : Lineage) : State := { s with lineage := x }
/-- The state with this record formatter. -/
def State.setFormatter (s : State) (x : Formatter) : State := { s with formatter := x }
/-- The state with these gathered blocks. -/
def State.setGathered (s : State) (x : PerHead (List (List Byte))) : State := { s with gathered := x }
/-- The state with this frame decoder. -/
def State.setDecoder (s : State) (x : Decoder) : State := { s with decoder := x }
/-- The state with this concealment unit. -/
def State.setConceal (s : State) (x : Conceal) : State := { s with conceal := x }
/-- The state with this decoded frame ring. -/
def State.setRing (s : State) (x : List RingEntry) : State := { s with ring := x }
/-- The state with this position unit. -/
def State.setPosition (s : State) (x : Position) : State := { s with position := x }
/-- The state with this edit engine. -/
def State.setEngine (s : State) (x : Engine) : State := { s with engine := x }
/-- The state with this query table. -/
def State.setQuery (s : State) (x : QueryTable) : State := { s with query := x }
/-- The state with this output unit. -/
def State.setOutput (s : State) (x : OutputUnit) : State := { s with output := x }
/-- The state with this notice unit. -/
def State.setNotice (s : State) (x : NoticeUnit) : State := { s with notice := x }
/-- The state with this link unit. -/
def State.setLink (s : State) (x : LinkUnit) : State := { s with link := x }

end Sys2Proof.Machine
end

