-- ==== Sys2Proof/Machine/Flags.lean ====
section
/-! DEFINITION. Every flag and cause of the part: the pending set and its reporting (R177 to R179, R182), the
link fault flags (R171), and the pins computed from the state. -/

namespace Sys2Proof.Machine

/-! ## Link frames of the part's own (R15, R16) -/

/-- The bytes of a frame that CHECK covers: ADDRESS to the last of the payload (R15). -/
def coveredBytes (address kind tag : Byte) (payload : List Byte) : List Byte :=
  address :: kind :: tag :: BitVec.ofNat 8 payload.length :: payload

/-- A frame the part makes, with its CHECK (R15). -/
def makeFrame (address kind tag : Byte) (payload : List Byte) : Frame :=
  { address, kind, tag, payload, check := crc8 (coveredBytes address kind tag payload) }

/-- The bytes of a frame on the wire, LEAD to CHECK (R15). -/
def wireBytes (f : Frame) : List Byte :=
  0x5A :: coveredBytes f.address f.kind f.tag f.payload ++ [f.check]

/-- The ADDRESS of what the part sends: its own address, or 0 while unassigned (R16). -/
def partAddress (l : LinkUnit) : Byte :=
  match l.assigned with
  | some a => BitVec.ofNat 8 a.a
  | none => 0

/-! ## The notice unit -/

/-- The code of a cause, less 1 (R177). -/
def causeIndex : Cause → Fin 18
  | .inputSlip => 0
  | .inputStatusChange => 1
  | .copyRefused => 2
  | .copyResumed => 3
  | .confidenceFault => 4
  | .playMute => 5
  | .lockChange => 6
  | .editStarted => 7
  | .editFinished => 8
  | .editAborted => 9
  | .editMissed => 10
  | .markCaptured => 11
  | .markOverwrite => 12
  | .queryComplete => 13
  | .queryDiscarded => 14
  | .linkFault => 15
  | .rateMismatch => 16
  | .refusalListFull => 17

/-- The causes in the order of their codes. -/
def allCauses : List Cause :=
  [.inputSlip, .inputStatusChange, .copyRefused, .copyResumed, .confidenceFault, .playMute,
   .lockChange, .editStarted, .editFinished, .editAborted, .editMissed, .markCaptured,
   .markOverwrite, .queryComplete, .queryDiscarded, .linkFault, .rateMismatch, .refusalListFull]

/-- The cause of a code (R180). -/
def causeOfCode (code : Nat) : Option Cause :=
  if code = 0 then none else allCauses[code - 1]?

/-- The set holds the cause: cause c is bit c − 1 (1.7, NOTICE payload). -/
def hasCause (set : BitVec 24) (c : Cause) : Bool := set.getLsbD (causeIndex c)

/-- The set of one cause. -/
def causeBit (c : Cause) : BitVec 24 := 1 <<< (causeIndex c).val

/-- The priority of a cause (R177). -/
def NoticeUnit.priorityOf (n : NoticeUnit) (c : Cause) : Nat := (n.priority[causeIndex c]).toNat

/-- The enabled pending set (R179). -/
def NoticeUnit.reported (n : NoticeUnit) : BitVec 24 := n.pending &&& n.enabled

/-- One cause against the best so far: an enabled pending cause of higher priority leads (R179). -/
def leadStep (n : NoticeUnit) (best : Option Cause) (c : Cause) : Option Cause :=
  if hasCause n.reported c then
    match best with
    | none => some c
    | some b => if n.priorityOf b < n.priorityOf c then some c else some b
  else best

/-- The leading cause: the enabled pending cause of highest priority, lowest code among equals (R179). -/
def NoticeUnit.leading (n : NoticeUnit) : Option Cause := allCauses.foldl (leadStep n) none

/-- The NOTICE frame for a leading cause (R16, R179; 1.7, NOTICE payload). -/
def noticeFrame (l : LinkUnit) (n : NoticeUnit) (c : Cause) : Frame :=
  makeFrame (partAddress l) 0x7F 0
    ([BitVec.ofNat 8 ((causeIndex c).val + 1), BitVec.ofNat 8 (n.priorityOf c)]
      ++ be 3 n.reported.toNat)

/-- A NOTICE joins the own side: it takes the content and place of one still waiting, or joins as the newest
(R169, R179). -/
def queueNotice (own : List OwnFrame) (f : Frame) : List OwnFrame :=
  if own.any (fun o => o.kind == .notice) then
    own.map (fun o => if o.kind == .notice then { o with frame := f } else o)
  else own ++ [{ kind := .notice, frame := f }]

/-- The notice unit's evaluation (R179). -/
def evaluate (s : State) : State :=
  match s.notice.leading with
  | none => s
  | some c =>
    if s.notice.lr < (s.notice.priorityOf c : Int) then
      (s.setNotice { s.notice with lr := s.notice.priorityOf c }).setLink
        { s.link with own := queueNotice s.link.own (noticeFrame s.link s.notice c) }
    else s

/-- A cause is raised: it joins the pending set, and joining it is evaluated; one already pending changes
nothing (R178, R179). -/
def raise (c : Cause) (s : State) : State :=
  if hasCause s.notice.pending c then s
  else evaluate (s.setNotice { s.notice with pending := s.notice.pending ||| causeBit c })

/-- A cause is raised when the condition holds. -/
def raiseIf (b : Bool) (c : Cause) (s : State) : State := if b then raise c s else s

/-- The ATTN pin: active while at least one enabled cause is pending (R182). -/
def attention (s : State) : Bool := s.notice.reported != 0

/-! ## The link fault flags (R171; bit numbers of R172) -/

/-- BAD_CHECK. -/
def flagBadCheck : BitVec 8 := 0x01
/-- BAD_FRAME. -/
def flagBadFrame : BitVec 8 := 0x02
/-- BAD_KIND. -/
def flagBadKind : BitVec 8 := 0x04
/-- BAD_LENGTH. -/
def flagBadLength : BitVec 8 := 0x08
/-- NO_DECK_SENT. -/
def flagNoDeckSent : BitVec 8 := 0x10
/-- ERROR_SENT. -/
def flagErrorSent : BitVec 8 := 0x20
/-- UP. -/
def flagUp : BitVec 8 := 0x40
/-- DOWN. -/
def flagDown : BitVec 8 := 0x80

/-- The side flag of a port (R171). -/
def sideFlag : Side → BitVec 8
  | .up => flagUp
  | .down => flagDown

/-- An event sets these flags; when any of them goes from clear to set, LINK_FAULT is raised once (R171). -/
def setFlags (mask : BitVec 8) (s : State) : State :=
  if s.link.flags ||| mask = s.link.flags then s
  else raise .linkFault (s.setLink { s.link with flags := s.link.flags ||| mask })

/-! ## Pins computed from the state -/

/-- UHLDO: asserted while the hold store holds at least one frame (R167). -/
def upHoldOut (s : State) : Bool := !s.link.hold.isEmpty

/-- DHLDO: asserted while the forward buffer holds 3 or more frames (R164). -/
def downHoldOut (s : State) : Bool := 3 ≤ s.link.forward.length

/-- WGATE, and the write gate: active while a frame is in emission (R33). -/
def writeGate (s : State) : Bool := s.formatter.emission.isSome

end Sys2Proof.Machine
end

