-- ==== Sys2Proof/Machine/Operands.lean ====
section
/-! DEFINITION. The forms of what the commands carry: the codes of message fields (R17), the request kinds with
their codes and lengths (10, Request kinds), the block and subcode layouts (1.7), and the records that
several replies return. -/

namespace Sys2Proof.Machine

/-! ## One-byte codes in requests -/

/-- A code that must be 0 or 1. -/
def boolOfCode (b : Byte) : Option Bool :=
  if b = 0 then some false else if b = 1 then some true else none

/-- Lineage mark codes (R11). -/
def markOfCode (b : Byte) : Option Mark :=
  if b = 0 then some .free else if b = 1 then some .once else if b = 2 then some .never else none

/-- Rate codes (R11, R30). -/
def rateOfCode (b : Byte) : Option Rate :=
  if b = 0 then some .rate48 else if b = 1 then some .rate44 else none

/-- Frame kind codes (R11). -/
def kindOfCode (b : Byte) : Option FrameKind :=
  if b = 0 then some .normal else if b = 1 then some .inserted
  else if b = 2 then some .splice else none

/-- Source codes (R30). -/
def sourceOfCode (b : Byte) : Option Source :=
  if b = 0 then some .converter else if b = 1 then some .digital else none

/-- Monitor selection codes (R29). -/
def monitorOfCode (b : Byte) : Option Monitor :=
  if b = 0 then some .input else if b = 1 then some .advance
  else if b = 2 then some .confidence else if b = 3 then some .auto else none

/-- Recording mode codes (R34). -/
def recordModeOfCode (b : Byte) : Option RecordMode :=
  if b = 0 then some .continuing else if b = 1 then some .new else none

/-- Refusal action codes (R146). -/
def actionOfCode (b : Byte) : Option RefusalAction :=
  if b = 0 then some .silence else if b = 1 then some .halt else none

/-- Head codes (R71). -/
def headOfCode (b : Byte) : Option Head :=
  if b = 0 then some .advance else if b = 1 then some .confidence else none

/-- GPI function codes (R98). -/
def gpiFunctionOfCode (b : Byte) : Option GpiFunction :=
  if b = 0 then some .off else if b = 1 then some .mark
  else if b = 2 then some .arm else if b = 3 then some .abort else none

/-- GPI detection codes (R98). -/
def gpiDetectionOfCode (b : Byte) : Option GpiDetection :=
  if b = 0 then some .edge else if b = 1 then some .level else none

/-- GPI line codes (R98, R102). -/
def lineOfCode (b : Byte) : Option (Fin 4) :=
  if h : b.toNat < 4 then some ⟨b.toNat, h⟩ else none

/-- Engine mode codes (R110). -/
def modeOfCode (b : Byte) : Option EngineMode :=
  if b = 0 then some .execute else if b = 1 then some .rehearse else none

/-- Query kind codes (R150). -/
def queryKindOfCode (b : Byte) : Option QueryKind :=
  if b = 0 then some .subcode else if b = 1 then some .quality else none

/-! ## Codes in replies -/

/-- The code of a frame kind (R11). -/
def frameKindCode : FrameKind → Nat
  | .normal => 0
  | .inserted => 1
  | .splice => 2

/-- The code of a source (R30). -/
def sourceCode : Source → Nat
  | .converter => 0
  | .digital => 1

/-- The code of a condition (R31); a stand-in is never the last closed frame. -/
def conditionCode : Condition → Nat
  | .normal => 0
  | .trimmed => 1
  | .filled => 2
  | .absent => 3
  | .standIn => 4

/-- The code of a formatter state (R34). -/
def formatterCode : FormatterState → Nat
  | .idle => 0
  | .recording => 1
  | .stopping => 2

/-- The code of a recording mode (R34). -/
def recordModeCode : RecordMode → Nat
  | .continuing => 0
  | .new => 1

/-- The code of an end reason (R49). -/
def endReasonCode : EndReason → Nat
  | .stopped => 0
  | .transport => 1
  | .refused => 2

/-- The code of a lock state (R97). -/
def lockCode : LockState → Nat
  | .unlocked => 0
  | .locked => 1
  | .slipped => 2

/-- The code of a transport state (R97). -/
def transportCode : Transport → Nat
  | .play => 0
  | .shuttle => 1
  | .stopped => 2

/-- The code of an engine state (R108). -/
def engineCode : EngineState → Nat
  | .disarmed => 0
  | .armed => 1
  | .active => 2

/-- The code of an engine mode (R108). -/
def modeCode : EngineMode → Nat
  | .execute => 0
  | .rehearse => 1

/-- The code of an entry's state and phase (R108). -/
def cueStateCode : CueState → Nat
  | .pending => 0
  | .active .fadeIn => 1
  | .active .insert => 2
  | .active .fadeOut => 3

/-- The code of an outcome (R132). -/
def outcomeCode : EntryOutcome → Nat
  | .completed => 0
  | .rehearsed => 1
  | .missed => 2
  | .refused => 3
  | .aborted => 4

/-- The code of a reason (R132). -/
def reasonCode : Reason → Nat
  | .passed => 0
  | .noLock => 1
  | .lostLock => 2
  | .transport => 3
  | .refused => 4
  | .requested => 5

/-- The code of a head (1.7, Quality record). -/
def headCode : Head → Nat
  | .advance => 0
  | .confidence => 1

/-- The code of a subcode source (1.7, Quality record). -/
def subcodeSourceCode : SubcodeSource → Nat
  | .a => 0
  | .b => 1
  | .none => 2

/-- The code of a class of the input status (R147). -/
def classCode : InputClass → Nat
  | .absent => 0
  | .pro => 1
  | .consumer .free => 2
  | .consumer .once => 3
  | .consumer .never => 4

/-- The code of a format (R31). -/
def formatCode : Format → Nat
  | .pro => 0
  | .consumer => 1

/-- The code of an arrival's rate (R31). -/
def arrivalRateCode : ArrivalRate → Nat
  | .rate48 => 0
  | .rate44 => 1
  | .other => 2

/-- The code of a refusal action (R146). -/
def actionCode : RefusalAction → Nat
  | .silence => 0
  | .halt => 1

/-- The code of a query kind (R150). -/
def queryKindCode : QueryKind → Nat
  | .subcode => 0
  | .quality => 1

/-- The code of a query state (R158). -/
def queryStateCode : QueryState → Nat
  | .held _ => 0
  | .waiting => 1
  | .complete _ _ => 2

/-- The code of a query outcome (R151). -/
def queryOutcomeCode : QueryOutcome → Nat
  | .found _ => 0
  | .unreadable => 1
  | .expired => 2

/-! ## Fields of several bytes -/

/-- A frame number in 3 bytes (R17). -/
def frameBytes (n : FrameNo) : List Byte := be 3 n.toNat

/-- A sample position in 5 bytes (R17). -/
def positionBytes (p : Nat) : List Byte := be 5 p

/-- An optional frame number: a presence byte and 3 bytes (R17). -/
def optFrame (o : Option FrameNo) : List Byte := optField 3 (o.map frameBytes)

/-- An optional one-byte code: a presence byte and 1 byte (R17). -/
def optByte (o : Option Nat) : List Byte := optField 1 (o.map (be 1))

/-- The frame number that three bytes spell. -/
def frameOfBytes (a b c : Byte) : FrameNo := BitVec.ofNat 24 (ofBe [a, b, c])

/-- The 16-bit word that two bytes spell. -/
def word16OfBytes (a b : Byte) : Word16 := BitVec.ofNat 16 (ofBe [a, b])

/-- The subcode record in its 11 bytes (R11; 1.7, Subcode payload). -/
def subcodeBytes (r : Subcode) : List Byte :=
  frameBytes r.number ++ be 2 r.program.toNat ++ be 2 r.take.toNat ++ be 1 (markCode r.mark)
    ++ be 1 (rateCode r.rate) ++ be 1 (frameKindCode r.kind) ++ bit r.refused

/-- The subcode record of a subcode payload, when every coded field holds a listed value and the program
number is at most 999; bytes from 11 on are not examined (R12). -/
def parseSubcode (payload : List Byte) : Option Subcode :=
  match payload with
  | n0 :: n1 :: n2 :: p0 :: p1 :: t0 :: t1 :: m :: r :: k :: f :: _ =>
    match markOfCode m, rateOfCode r, kindOfCode k, boolOfCode f with
    | some mark, some rate, some kind, some refused =>
      if (word16OfBytes p0 p1).toNat ≤ 999 then
        some { number := frameOfBytes n0 n1 n2, program := word16OfBytes p0 p1,
               take := word16OfBytes t0 t1, mark, rate, kind, refused }
      else none
    | _, _, _, _ => none
  | _ => none

/-- The quality record in its 16 bytes (1.7, Quality record). -/
def qualityBytes (q : QualityRecord) : List Byte :=
  optFrame q.number ++ be 1 (headCode q.head) ++ be 1 q.erased ++ be 1 q.recovered
    ++ be 1 q.lost ++ be 2 q.interpolated ++ be 2 q.held ++ be 1 q.lowest
    ++ be 1 (subcodeSourceCode q.source) ++ be 1 q.foreign ++ bit q.mismatch

/-! ## Request kinds (10, Request kinds) -/

/-- The code of a request kind. -/
def RequestKind.code : RequestKind → Byte
  | .probe => 0x01
  | .assign => 0x02
  | .linkStatus => 0x03
  | .partReset => 0x04
  | .linkSetup => 0x05
  | .noticeSetup => 0x08
  | .noticeClear => 0x09
  | .noticeRead => 0x0A
  | .sourceSelect => 0x10
  | .monitorSelect => 0x11
  | .inputStatusRead => 0x12
  | .recordStart => 0x18
  | .recordStop => 0x19
  | .recordStatus => 0x1A
  | .lineageSetup => 0x1B
  | .concealSetup => 0x20
  | .qualityRead => 0x21
  | .qualityTotals => 0x22
  | .prereadSetup => 0x23
  | .positionRead => 0x28
  | .gpiSetup => 0x29
  | .markRead => 0x2A
  | .cueAdd => 0x30
  | .cueRemove => 0x31
  | .cueRead => 0x32
  | .editArm => 0x33
  | .editDisarm => 0x34
  | .editAbort => 0x35
  | .spliceLogRead => 0x36
  | .editSetup => 0x37
  | .lineageStatus => 0x38
  | .refusalListRead => 0x39
  | .tapeQuery => 0x40
  | .queryCancel => 0x41
  | .querySetup => 0x42

/-- The LENGTH a request kind requires; those of the notice requests are given in R180 and R181. -/
def RequestKind.length : RequestKind → Nat
  | .probe | .partReset | .noticeRead | .inputStatusRead | .recordStop | .recordStatus
  | .positionRead | .editDisarm | .editAbort | .lineageStatus => 0
  | .linkStatus | .linkSetup | .monitorSelect | .qualityTotals | .prereadSetup | .markRead
  | .cueRemove | .editSetup | .refusalListRead => 1
  | .assign | .sourceSelect | .lineageSetup | .concealSetup | .cueRead | .editArm
  | .spliceLogRead | .querySetup => 2
  | .noticeSetup | .noticeClear | .qualityRead => 3
  | .tapeQuery | .queryCancel => 4
  | .gpiSetup => 5
  | .recordStart => 8
  | .cueAdd => 16

/-- The broadcast set (R166). -/
def RequestKind.broadcast : RequestKind → Bool
  | .partReset | .sourceSelect | .monitorSelect | .recordStart | .recordStop | .editArm
  | .editDisarm | .editAbort | .noticeClear => true
  | .probe | .assign | .linkStatus | .linkSetup | .noticeSetup | .noticeRead | .inputStatusRead
  | .recordStatus | .lineageSetup | .concealSetup | .qualityRead | .qualityTotals
  | .prereadSetup | .positionRead | .gpiSetup | .markRead | .cueAdd | .cueRemove | .cueRead
  | .spliceLogRead | .editSetup | .lineageStatus | .refusalListRead | .tapeQuery
  | .queryCancel | .querySetup => false

/-- The request kinds in the order of their codes. -/
def allKinds : List RequestKind :=
  [.probe, .assign, .linkStatus, .partReset, .linkSetup, .noticeSetup, .noticeClear, .noticeRead,
   .sourceSelect, .monitorSelect, .inputStatusRead, .recordStart, .recordStop, .recordStatus,
   .lineageSetup, .concealSetup, .qualityRead, .qualityTotals, .prereadSetup, .positionRead,
   .gpiSetup, .markRead, .cueAdd, .cueRemove, .cueRead, .editArm, .editDisarm, .editAbort,
   .spliceLogRead, .editSetup, .lineageStatus, .refusalListRead, .tapeQuery, .queryCancel,
   .querySetup]

/-- The request kind of a code of the table. -/
def kindOfByte (b : Byte) : Option RequestKind := allKinds.find? (fun k => k.code == b)

/-! ## Replies (R16) -/

/-- The reply statuses (1.7, Reply payload head). -/
inductive Status where
  | done
  | pending
  | busy
  | badKind
  | badLength
  | badValue
  | state
  | full
  | notFound
  | order
  | refused
  | noDeck
  deriving DecidableEq, Repr

/-- The code of a status. -/
def Status.code : Status → Byte
  | .done => 0
  | .pending => 1
  | .busy => 2
  | .badKind => 3
  | .badLength => 4
  | .badValue => 5
  | .state => 6
  | .full => 7
  | .notFound => 8
  | .order => 9
  | .refused => 10
  | .noDeck => 11

/-- What the service of a request gives: the state after it, the payload of its reply, and whether the notice
unit evaluates once the reply is formed (R180, R181). -/
structure Served where
  state : State
  reply : List Byte
  evaluates : Bool

/-- A request served with DONE and this content. -/
def served (s : State) (content : List Byte) : Served :=
  { state := s, reply := Status.done.code :: content, evaluates := false }

/-- A request answered PENDING with this content. -/
def answered (s : State) (content : List Byte) : Served :=
  { state := s, reply := Status.pending.code :: content, evaluates := false }

/-- A request that a status turns away: nothing changes, and the reply is the status byte alone (R16). -/
def turnedAway (s : State) (st : Status) : Served :=
  { state := s, reply := [st.code], evaluates := false }

end Sys2Proof.Machine
end

