-- ==== Sys2Proof/Machine/Conceal.lean ====
section
/-! DEFINITION. The concealment unit (05): base, gain and output of each sample, the frame as a whole, the named
channel states, and CONCEAL SETUP. A sample handed to the unit is `some v` when its valid flag is set with
tape value v, and `none` when it is invalid (R62). -/

namespace Sys2Proof.Machine

/-- How a sample's base was chosen (R75). -/
inductive BaseKind where
  | valid
  | interpolated
  | held
  deriving DecidableEq, Repr

/-- The base of a sample, from the held base, the sample, and its neighbours where they are originally valid
(R75, R76). -/
def chooseBase (b : Sample) (before x after : Option Sample) : Sample × BaseKind :=
  match x, before, after with
  | some v, _, _ => (v, .valid)
  | none, some a, some c => (sampleOf ((a.toInt + c.toInt) / 2), .interpolated)
  | none, _, _ => (b, .held)

/-- The hold count after a sample (R78, R79). -/
def holdAfter (h : Nat) : BaseKind → Nat
  | .held => satInc Config.max16 h
  | .valid | .interpolated => 0

/-- The gain after a sample, from the gain before and the hold count after it (R79). -/
def gainAfter (hlim h g : Nat) : BaseKind → Nat
  | .held => if hlim < h then g - 1 else g
  | .valid | .interpolated => satInc 32 g

/-- The channel state after a sample (R75, R78, R79). -/
def ChannelState.advance (st : ChannelState) (hlim : Nat) (base : Sample) (k : BaseKind) :
    ChannelState :=
  let h := holdAfter st.h k
  { st with h := h, g := gainAfter hlim h st.g k, b := base }

/-- The output of a base at a gain: base × g / 32, truncated toward zero (R80). -/
def outputAt (base : Sample) (g : Nat) : Sample := sampleOf ((base.toInt * g).tdiv 32)

/-- What concealing the samples of one channel gives: the state after them, outputs, reduced-gain flags, the
counts of R84, and the entries into MUTED (R82). -/
structure ChannelRun where
  state : ChannelState
  outs : List Sample
  flags : List Bool
  interpolated : Nat
  held : Nat
  lowest : Nat
  mutes : Nat
  deriving DecidableEq, Repr

/-- The samples of a channel in index order; `before` is the sample before the first of them, where originally
valid (R74 to R80, R82). -/
def concealRun (hlim : Nat) (st : ChannelState) (before : Option Sample) :
    List (Option Sample) → ChannelRun
  | [] => { state := st, outs := [], flags := [], interpolated := 0, held := 0, lowest := 32,
            mutes := 0 }
  | x :: rest =>
    let bk := chooseBase st.b before x rest.head?.join
    let st' := st.advance hlim bk.1 bk.2
    let run := concealRun hlim st' x rest
    { state := run.state
      outs := outputAt bk.1 st'.g :: run.outs
      flags := decide (st'.g < 32) :: run.flags
      interpolated := (if bk.2 = .interpolated then 1 else 0) + run.interpolated
      held := (if bk.2 = .held then 1 else 0) + run.held
      lowest := min st'.g run.lowest
      mutes := (if st'.g = 0 ∧ st.g ≠ 0 then 1 else 0) + run.mutes }

/-- The neighbour before index 0: the previous-sample record's value under the three conditions of R77. -/
def recordNeighbour (prev : PrevSample) (number : Option FrameNo) : Option Sample :=
  match number, prev.number with
  | some n, some m => if m + 1 = n ∧ prev.valid = true then some prev.value else none
  | _, _ => none

/-- One channel of a frame: its samples, then the previous-sample record (R77, R83). -/
def concealChannel (hlim : Nat) (number : Option FrameNo) (st : ChannelState)
    (xs : List (Option Sample)) : ChannelRun :=
  let run := concealRun hlim st (recordNeighbour st.prev number) xs
  { run with state := { run.state with
      prev := { value := run.state.b, valid := xs.getLast?.join.isSome, number } } }

/-- A concealed frame with the results of R84. -/
structure ConcealedFrame where
  pairs : List Pair
  flags : List (Bool × Bool)
  interpolated : Nat
  held : Nat
  lowest : Nat
  mutes : Nat
  deriving DecidableEq, Repr

/-- The two channels of a frame as one (R84). -/
def joinChannels (l r : ChannelRun) : ConcealedFrame :=
  { pairs := List.zipWith (fun a b => ({ l := a, r := b } : Pair)) l.outs r.outs
    flags := List.zipWith Prod.mk l.flags r.flags
    interpolated := l.interpolated + r.interpolated
    held := l.held + r.held
    lowest := min l.lowest r.lowest
    mutes := l.mutes + r.mutes }

/-- The unit conceals one frame of a stream, against that stream's two channel states (R73, R74). -/
def concealFrame (c : Conceal) (head : Head) (number : Option FrameNo)
    (xs : Stereo (List (Option Sample))) : Conceal × ConcealedFrame :=
  let chans := c.chans.get head
  let l := concealChannel c.hlim number chans.l xs.l
  let r := concealChannel c.hlim number chans.r xs.r
  ({ c with chans := c.chans.set head ⟨l.state, r.state⟩ }, joinChannels l r)

/-- A frame is concealed in the part: PLAY_MUTE is raised for entries into MUTED of the ADVANCE stream (R82;
a cause already pending is not raised anew, R178, so that one raising stands for several). -/
def concealInto (head : Head) (number : Option FrameNo) (xs : Stereo (List (Option Sample)))
    (s : State) : State × ConcealedFrame :=
  let out := concealFrame s.conceal head number xs
  (raiseIf (head == .advance && 0 < out.2.mutes) .playMute (s.setConceal out.1), out.2)

/-- A frame of `n` invalid samples on both channels (R85). -/
def allInvalid (n : Nat) : Stereo (List (Option Sample)) :=
  ⟨List.replicate n none, List.replicate n none⟩

/-- A rate change clears the valid part and the number of the previous-sample record (R87). -/
def ChannelState.forget (st : ChannelState) : ChannelState :=
  { st with prev := { st.prev with valid := false, number := none } }

/-- The unit at a change of session rate (R87). -/
def Conceal.forget (c : Conceal) : Conceal :=
  { c with chans := ⟨⟨c.chans.advance.l.forget, c.chans.advance.r.forget⟩,
                     ⟨c.chans.confidence.l.forget, c.chans.confidence.r.forget⟩⟩ }

/-! ## Named states and CONCEAL SETUP -/

/-- The named states of R81. -/
inductive NamedState where
  | clean
  | holding
  | fading
  | recovering
  | muted
  deriving DecidableEq, Repr

/-- The named state of a channel state (R81). -/
def ChannelState.named (st : ChannelState) (hlim : Nat) : NamedState :=
  if st.g = 0 then .muted
  else if hlim < st.h then .fading
  else if 1 ≤ st.h then .holding
  else if st.g < 32 then .recovering
  else .clean

/-- The code of a named state (R86). -/
def namedCode : NamedState → Nat
  | .clean => 0
  | .holding => 1
  | .fading => 2
  | .recovering => 3
  | .muted => 4

/-- A channel report (R86). -/
def channelReport (hlim : Nat) (st : ChannelState) : List Byte :=
  be 1 (namedCode (st.named hlim)) ++ be 1 st.g ++ be 2 st.h

/-- The content of a CONCEAL SETUP reply (R86). -/
def concealReport (c : Conceal) : List Byte :=
  be 1 c.hlim ++ channelReport c.hlim c.chans.advance.l ++ channelReport c.hlim c.chans.advance.r
    ++ channelReport c.hlim c.chans.confidence.l ++ channelReport c.hlim c.chans.confidence.r

/-- CONCEAL SETUP (R86). -/
def serveConcealSetup (p : List Byte) (s : State) : Served :=
  match p with
  | [apply, lim] =>
    match boolOfCode apply with
    | some true =>
      let c := { s.conceal with hlim := lim.toNat }
      served (s.setConceal c) (concealReport c)
    | some false => served s (concealReport s.conceal)
    | none => turnedAway s .badValue
  | _ => turnedAway s .badLength

end Sys2Proof.Machine
end

