-- ==== Sys2Proof/Machine/Codec.lean ====
section
/-! DEFINITION. The tape format (01): the interleave of samples over tracks and blocks, parity, the subcode
payload, and the 126 bytes of a block, written and read. -/

namespace Sys2Proof.Machine

/-- The track field of a header (R2). -/
def trackCode : Track → Byte
  | .a => 0
  | .b => 1

/-- The track of a header's track field (R4). -/
def trackOfCode (b : Byte) : Option Track :=
  if b = 0 then some .a else if b = 1 then some .b else none

/-- The track that carries L[n]; R[n] is on the other (R5). -/
def trackOfL (n : Nat) : Track := if n % 2 = 0 then .a else .b

/-- The track that carries R[n] (R5). -/
def trackOfR (n : Nat) : Track := if n % 2 = 0 then .b else .a

/-! ## Writing -/

/-- The sample in slot n of a track: R5's channel of index n, and zero in a padding slot (R5, R7, R38). -/
def slotSample (t : Track) (pairs : List Pair) (n : Nat) : Sample :=
  match pairs[n]? with
  | some p => if trackOfL n = t then p.l else p.r
  | none => 0

/-- The payload of data block j: slots j, j + 40, … to j + 1560, three bytes each (R6). -/
def dataPayload (t : Track) (pairs : List Pair) (j : Nat) : List Byte :=
  (List.range Config.slotsPerBlock).flatMap
    (fun i => be 3 (slotSample t pairs (j + Config.dataBlocks * i)).toNat)

/-- The payload of parity block 40 + g: the XOR of data blocks g, g + 10, g + 20 and g + 30 (R8). -/
def parityPayload (t : Track) (pairs : List Pair) (g : Nat) : List Byte :=
  xorBytes (xorBytes (dataPayload t pairs g) (dataPayload t pairs (g + 10)))
    (xorBytes (dataPayload t pairs (g + 20)) (dataPayload t pairs (g + 30)))

/-- The payload of the subcode block: the record, then zeros (R11). -/
def subcodePayload (r : Subcode) : List Byte := subcodeBytes r ++ List.replicate 109 0

/-- The payload of a position of a track (R1, R38 to R40). -/
def payloadAt (t : Track) (pairs : List Pair) (r : Subcode) (position : Nat) : List Byte :=
  if position < 40 then dataPayload t pairs position
  else if position < 50 then parityPayload t pairs (position - 40)
  else subcodePayload r

/-- A block: header, payload, CRC most significant byte first (R2, R3). -/
def blockBytes (t : Track) (position : Nat) (tag : Word16) (payload : List Byte) : List Byte :=
  let covered := trackCode t :: BitVec.ofNat 8 position :: be 2 tag.toNat ++ payload
  covered ++ be 2 (crc16 covered).toNat

/-- The frame tag of a frame number (R2). -/
def tagOf (n : FrameNo) : Word16 := n.setWidth 16

/-- The 102 blocks of a frame in write order: track A positions 0 to 50, then track B (R14, R38 to R40). -/
def codeFrame (pairs : List Pair) (r : Subcode) : List (List Byte) :=
  ([Track.a, Track.b]).flatMap (fun t => (List.range Config.positions).map
    (fun position => blockBytes t position (tagOf r.number) (payloadAt t pairs r position)))

/-! ## Reading -/

/-- A usable block as read: its header and payload (R4). -/
structure Block where
  track : Track
  position : Nat
  tag : Word16
  payload : List Byte
  deriving DecidableEq, Repr

/-- A block as read is usable when it is 126 bytes, CRC-good, its track field is 0 or 1 and its position 0 to
50 (R3, R4). -/
def parseBlock (bytes : List Byte) : Option Block :=
  if bytes.length = Config.blockBytes
      ∧ be 2 (crc16 (bytes.take 124)).toNat = bytes.drop 124 then
    match bytes.take 124 with
    | t :: p :: g0 :: g1 :: payload =>
      match trackOfCode t with
      | some track =>
        if p.toNat < Config.positions then
          some { track, position := p.toNat, tag := word16OfBytes g0 g1, payload }
        else none
      | none => none
    | _ => none
  else none

/-- The sample in place i of a data payload: bytes 3i to 3i + 2 (R6). -/
def payloadSample (payload : List Byte) (i : Nat) : Sample :=
  BitVec.ofNat 24 (ofBe ((payload.drop (3 * i)).take 3))

end Sys2Proof.Machine
end

