-- ==== Sys2Proof/Machine/Lineage.lean ====
section
/-! DEFINITION. The lineage guard (08): input status, rulings, marks, refused spans, the output status record,
and its three requests. -/

namespace Sys2Proof.Machine

/-! ## Input status -/

/-- The class of the current input status (R133). -/
def deriveClass (arrival : Option StatusArrival) (absence : Nat) (locked : Bool) (rate : Rate) :
    InputClass :=
  match arrival with
  | none => .absent
  | some a =>
    if Config.absenceLimit ≤ absence || !locked || !rateMatches a.rate rate then .absent
    else match a.format with
      | .pro => .pro
      | .consumer => .consumer a.copy

/-- The class that the state's arrival, absence count, lock indication and session rate give (R133). -/
def classNow (s : State) : InputClass :=
  deriveClass s.lineage.arrival s.lineage.absence s.pins.locked s.input.rate

/-- The effective status of a class (R135). -/
def effective : InputClass → Mark
  | .absent => .once
  | .pro => .free
  | .consumer copy => copy

/-- The moment's class meets the frame in gathering: ABSENT at any moment makes a DIGITAL frame absent
(R22). -/
def Gathering.see (g : Gathering) (cls : InputClass) : Gathering :=
  { g with absentSeen := g.absentSeen || cls == .absent }

/-- The class is re-derived at an event that can change it: the interval status takes the more restrictive of
itself and the new effective status, and INPUT_STATUS_CHANGE is raised when the class differs (R133,
R136). -/
def rederive (s : State) : State :=
  let cls := classNow s
  raiseIf (cls != s.lineage.cls) .inputStatusChange
    ((s.setLineage { s.lineage with
        cls := cls
        interval := s.lineage.interval.map (fun m => stricter m (effective cls)) }).setInput
      { s.input with gathering := s.input.gathering.map (fun g => g.see cls) })

/-- The absence count rises at a tick, and the class is re-derived (R134, R136 step 2). -/
def absenceTick (s : State) : State :=
  rederive (s.setLineage
    { s.lineage with absence := satInc Config.absenceLimit s.lineage.absence })

/-- The absence count that stands at 6 makes the current input status ABSENT (R134). The tick does this
itself (log 7). -/
def absenceExpiry (s : State) : State :=
  if Config.absenceLimit ≤ s.lineage.absence then rederive s else s

/-! ## Rulings -/

/-- The ruling table (R137). -/
def rule (source : Source) (status origin : Mark) : Ruling :=
  match source, status with
  | .converter, _ => .permit origin
  | .digital, .free => .permit .free
  | .digital, .once => .permit .never
  | .digital, .never => .refuse

/-- The current ruling: the table for the selected source and the current input status (R138). -/
def currentRuling (s : State) : Ruling :=
  rule s.input.source (effective s.lineage.cls) s.lineage.origin

/-- The written mark of a ruling; NEVER for REFUSE (R140, R145). -/
def Ruling.mark : Ruling → Mark
  | .permit m => m
  | .refuse => .never

/-! ## Refused spans -/

/-- A refused report opens a span, or extends the one that is open (R141, R143). -/
def refusedReport (w : FrameNo) (context : SpanContext) (s : State) : State :=
  match s.lineage.span with
  | some sp => s.setLineage { s.lineage with span := some { sp with last := w } }
  | none =>
    if s.lineage.refusals.length < Config.refusalCap then
      raise .copyRefused (s.setLineage { s.lineage with
        span := some { start := w, last := w, context, listed := true }
        refusals := s.lineage.refusals ++ [{ start := w, stop := none, context }] })
    else
      raise .refusalListFull (raise .copyRefused (s.setLineage { s.lineage with
        span := some { start := w, last := w, context, listed := false }
        incomplete := true }))

/-- The list entry of an open span takes its end frame (R142). -/
def RefusedEntry.close (last : FrameNo) (e : RefusedEntry) : RefusedEntry :=
  if e.stop = none then { e with stop := some last } else e

/-- A permitted report or an end report closes the open span; with none open it does nothing (R142). -/
def closeSpan (s : State) : State :=
  match s.lineage.span with
  | none => s
  | some sp =>
    raise .copyResumed (s.setLineage { s.lineage with
      span := none
      refusals := if sp.listed then s.lineage.refusals.map (RefusedEntry.close sp.last)
                  else s.lineage.refusals })

/-! ## The output status record -/

/-- The status record for a mark (R145). A PRO record's copy field reads FREE (log 26). -/
def statusFor (mark : Mark) (rate : Rate) : OutputStatus :=
  match mark with
  | .free => { format := .pro, copy := .free, rate }
  | m => { format := .consumer, copy := m, rate }

/-! ## Requests -/

/-- LINEAGE SETUP (R146). -/
def serveLineageSetup (p : List Byte) (s : State) : Served :=
  match p with
  | [m, a] =>
    match markOfCode m, actionOfCode a with
    | some origin, some action =>
      served (s.setLineage { s.lineage with origin, action })
        (be 1 (markCode origin) ++ be 1 (actionCode action))
    | _, _ => turnedAway s .badValue
  | _ => turnedAway s .badLength

/-- A ruling and its written mark in a reply (R147). -/
def rulingBytes (r : Ruling) : List Byte :=
  match r with
  | .permit m => be 1 0 ++ optByte (some (markCode m))
  | .refuse => be 1 1 ++ optByte none

/-- A span's context and entry id in a reply (R144, R147). -/
def contextBytes (c : SpanContext) : List Byte :=
  match c with
  | .record => be 1 0 ++ optByte none
  | .edit id => be 1 1 ++ optByte (some id)

/-- LINEAGE STATUS (R147). -/
def serveLineageStatus (p : List Byte) (s : State) : Served :=
  match p with
  | [] =>
    let l := s.lineage
    served s
      (be 1 (classCode l.cls) ++ be 1 l.absence ++ be 1 (markCode (effective l.cls))
        ++ optByte (l.interval.map markCode) ++ rulingBytes (currentRuling s)
        ++ be 1 (markCode l.origin) ++ be 1 (actionCode l.action)
        ++ optField 6 (l.lastRuling.map (fun r => frameBytes r.number ++ rulingBytes r.ruling))
        ++ optField 10 (l.span.map (fun sp => frameBytes sp.start ++ frameBytes sp.last
            ++ contextBytes sp.context ++ bit sp.listed))
        ++ be 1 l.refusals.length ++ bit l.incomplete)
  | _ => turnedAway s .badLength

/-- An entry of the refused-span list in its 10 bytes (R144). -/
def refusedBytes (e : RefusedEntry) : List Byte :=
  frameBytes e.start ++ optFrame e.stop ++ contextBytes e.context

/-- The clear of REFUSAL LIST READ: closed entries go, and INCOMPLETE clears unless an unlisted span is open
(R144). -/
def Lineage.clearRefusals (l : Lineage) : Lineage :=
  { l with
    refusals := l.refusals.filter (fun e => e.stop.isNone)
    incomplete := l.incomplete && (match l.span with
      | some sp => !sp.listed
      | none => false) }

/-- REFUSAL LIST READ (R144). -/
def serveRefusalListRead (p : List Byte) (s : State) : Served :=
  match p with
  | [c] =>
    match boolOfCode c with
    | some clear =>
      served (if clear then s.setLineage s.lineage.clearRefusals else s)
        (bit s.lineage.incomplete ++ be 1 s.lineage.refusals.length
          ++ s.lineage.refusals.flatMap refusedBytes)
    | none => turnedAway s .badValue
  | _ => turnedAway s .badLength

end Sys2Proof.Machine
end

