-- ==== Sys2Proof/Machine/Input.lean ====
section
/-! DEFINITION. The input unit (02, 2.2 and 2.3): pairs entering, the close and opening of capture frames, the
buffer, renumbering, and INPUT STATUS READ. -/

namespace Sys2Proof.Machine

/-! ## Pairs entering -/

/-- A pair enters the frame: the first spf are kept, and all are counted (R21). -/
def Gathering.enter (g : Gathering) (n : Nat) (p : Pair) : Gathering :=
  { g with
    pairs := if g.pairs.length < n then g.pairs ++ [p] else g.pairs
    received := satInc Config.max16 g.received }

/-- A pair of a source enters the frame in gathering when the frame's source is that one and the transport is
in PLAY; otherwise it is discarded (R19, R20). -/
def enterPair (source : Source) (p : Pair) (s : State) : State :=
  match s.input.gathering with
  | none => s
  | some g =>
    if g.source = source ∧ s.pins.transport = .play then
      s.setInput { s.input with gathering := some (g.enter (spf s.input.rate) p) }
    else s

/-! ## Closing and opening -/

/-- A capture frame closes absent: DIGITAL, with ABSENT at a moment of its interval (R22). -/
def Gathering.isAbsent (g : Gathering) : Bool := g.source == .digital && g.absentSeen

/-- The condition at the close (R21, R22). -/
def Gathering.condition (g : Gathering) (n : Nat) : Condition :=
  if g.isAbsent then .absent
  else if g.received = n then .normal
  else if n < g.received then .trimmed
  else .filled

/-- The pair that fills a frame: the last received, or the last of the previous frame, or zero (R21). -/
def fillPair (g : Gathering) (closed : List CaptureFrame) : Pair :=
  match g.pairs.getLast? with
  | some p => p
  | none => ((closed.head?).bind (fun c => c.pairs.getLast?)).getD Pair.zero

/-- The pairs at the close: exactly spf (R21, R22). -/
def Gathering.closePairs (g : Gathering) (n : Nat) (closed : List CaptureFrame) : List Pair :=
  if g.isAbsent then silence n
  else g.pairs.take n ++ List.replicate (n - g.pairs.length) (fillPair g closed)

/-- The closed record of the frame in gathering under its ruling (R21). -/
def Gathering.close (g : Gathering) (n : Nat) (closed : List CaptureFrame) (r : Ruling) :
    CaptureFrame :=
  { number := g.number, source := g.source, pairs := g.closePairs n closed,
    condition := g.condition n, received := g.received, ruling := r }

/-- The ruling on the frame in gathering, from its interval status (R136 step 1, R137). -/
def closeRuling (s : State) (g : Gathering) : Ruling :=
  rule g.source (s.lineage.interval.getD (effective s.lineage.cls)) s.lineage.origin

/-- The frame in gathering closes at a tick: it is ruled on, joins the closed frames and the output unit's
INPUT source, and raises INPUT_SLIP when TRIMMED or FILLED (R21, R23, R28, R137). -/
def closeCapture (s : State) : State :=
  match s.input.gathering with
  | none => s
  | some g =>
    let r := closeRuling s g
    let c := g.close (spf s.input.rate) s.input.closed r
    raiseIf (c.condition == .trimmed || c.condition == .filled) .inputSlip
      (((s.setInput { s.input with
            gathering := none
            closed := pushNewest Config.closedFrames c s.input.closed }).setLineage
          { s.lineage with
            interval := none
            lastRuling := some { number := g.number, ruling := r } }).setOutput
        { s.output with
          fresh := { s.output.fresh with input := some { pairs := c.pairs, mark := r.mark } } })

/-- The next capture frame opens with the number W has after the tick and the selected source, and its interval
status is the effective status of the moment (R21, R136 step 3). -/
def openCapture (s : State) : State :=
  (s.setInput { s.input with
      gathering := some { number := s.position.w, source := s.input.source, pairs := [],
                          received := 0, absentSeen := s.lineage.cls == .absent } }).setLineage
    { s.lineage with interval := some (effective s.lineage.cls) }

/-- The tick's work of the input unit and the lineage guard, in the order of R136. -/
def captureTick (s : State) : State := openCapture (absenceTick (closeCapture s))

/-! ## The buffer -/

/-- The stand-in record for a capture frame the buffer lacks (R23). -/
def standIn (n : FrameNo) (s : State) : CaptureFrame :=
  { number := n, source := s.input.source, pairs := silence (spf s.input.rate),
    condition := .standIn, received := 0, ruling := .permit .never }

/-- The capture frame of a number as the buffer holds it, or the stand-in (R23). -/
def captureFor (n : FrameNo) (s : State) : CaptureFrame :=
  (s.input.closed.find? (fun c => c.number == n)).getD (standIn n s)

/-- The buffer is emptied, and the interval status is discarded (R23, R136). -/
def emptyBuffer (s : State) : State :=
  (s.setInput { s.input with gathering := none, closed := [] }).setLineage
    { s.lineage with interval := none }

/-- The frames held are renumbered by the difference of W (R24). -/
def renumber (diff : FrameNo) (s : State) : State :=
  s.setInput { s.input with
    gathering := s.input.gathering.map (fun g => { g with number := g.number + diff })
    closed := s.input.closed.map (fun c => { c with number := c.number + diff }) }

/-! ## Request -/

/-- The current input status in a reply: absent when ABSENT, else the latest arrival (R31). -/
def inputStatusField (l : Lineage) : Option (List Byte) :=
  if l.cls = .absent then none
  else l.arrival.map (fun a => be 1 (formatCode a.format) ++ be 1 (markCode a.copy)
    ++ be 1 (arrivalRateCode a.rate))

/-- INPUT STATUS READ (R31). -/
def serveInputStatusRead (p : List Byte) (s : State) : Served :=
  match p with
  | [] =>
    served s
      (be 1 (sourceCode s.input.source) ++ be 1 (rateCode s.input.rate) ++ bit s.pins.locked
        ++ optField 3 (inputStatusField s.lineage)
        ++ optField 6 (s.input.closed.head?.map (fun c => frameBytes c.number
            ++ be 1 (conditionCode c.condition) ++ be 2 c.received)))
  | _ => turnedAway s .badLength

end Sys2Proof.Machine
end

