-- ==== Sys2Proof/Machine/Position.lean ====
section
/-! DEFINITION. The position unit (06): W, lock, sample position, the GPI lines, and its three requests. -/

namespace Sys2Proof.Machine

/-! ## Sample position -/

/-- The sample position W × spf + n, with n limited to spf − 1 (R96). -/
def samplePosition (s : State) : Nat :=
  s.position.w.toNat * spf s.input.rate + min s.sampleCount (spf s.input.rate - 1)

/-! ## Lock -/

/-- The runs and the lock age at 0, and the last subcode number absent (R89, R94). -/
def Position.forget (p : Position) : Position :=
  { p with lock := .unlocked, agree := 0, seq := 0, disagree := 0, last := none, age := 0 }

/-- LOCKED is entered (R91, R93). -/
def Position.enterLocked (p : Position) : Position :=
  { p with lock := .locked, agree := 0, disagree := 0, age := 0 }

/-- The sequence run after a subcode X (R90). -/
def seqAfter (p : Position) (x : FrameNo) : Nat :=
  if p.last = some (x - 1) then satInc 3 p.seq else 1

/-- W re-taken from a subcode X: X − D (R93). -/
def retaken (x : FrameNo) (d : Nat) : FrameNo := x - BitVec.ofNat 24 d

/-- A judged subcode X in UNLOCKED (R91). -/
def judgeUnlocked (p : Position) (x expected : FrameNo) (d : Nat) : Position :=
  let agree := if x = expected then satInc 3 p.agree else 0
  if agree = 3 then p.enterLocked
  else if p.seq = 3 then { p.enterLocked with w := retaken x d }
  else { p with agree := agree }

/-- A judged subcode X in LOCKED (R92). -/
def judgeLocked (p : Position) (x expected : FrameNo) : Position :=
  if x = expected then { p with disagree := 0 }
  else if 1 ≤ p.disagree then { p with lock := .slipped, age := 0, seq := 1, disagree := 0 }
  else { p with disagree := p.disagree + 1 }

/-- A judged subcode X in SLIPPED (R93). -/
def judgeSlipped (p : Position) (x : FrameNo) (d : Nat) : Position :=
  if p.seq = 3 then { p.enterLocked with w := retaken x d } else p

/-- A subcode X is judged against the expected number: the sequence run and the last number first, then the
lock state's own rule (R90 to R93). -/
def Position.judge (p : Position) (x expected : FrameNo) (d : Nat) : Position :=
  let p' := { p with seq := seqAfter p x, last := some x }
  match p.lock with
  | .unlocked => judgeUnlocked p' x expected d
  | .locked => judgeLocked p' x expected
  | .slipped => judgeSlipped p' x d

/-- RECORD START in NEW mode sets W and forgets the lock (R89, R24). -/
def newStart (w : FrameNo) (s : State) : State :=
  raiseIf (s.position.lock != .unlocked) .lockChange
    (renumber (w - s.position.w) (s.setPosition { s.position.forget with w := w }))

/-- The transport leaves PLAY: the lock state becomes UNLOCKED (R94). -/
def lockLoss (s : State) : State :=
  raiseIf (s.position.lock != .unlocked) .lockChange (s.setPosition s.position.forget)

/-! ## GPI lines -/

/-- The four lines in order. -/
def gpiLines : List (Fin 4) := [0, 1, 2, 3]

/-- The queue of the line is full (R100). -/
def GpiLine.isFull (l : GpiLine) : Bool := l.depth ≤ l.queue.length

/-- A request joins the line's queue, or replaces its newest entry and sets the flag (R100). -/
def GpiLine.join (l : GpiLine) (r : GpiRequest) : GpiLine :=
  if l.isFull then { l with queue := l.queue.dropLast ++ [r], overwrite := true }
  else { l with queue := l.queue ++ [r] }

/-- The state with one line replaced. -/
def setLine (i : Fin 4) (l : GpiLine) (s : State) : State :=
  s.setPosition { s.position with gpi := s.position.gpi.set i l }

/-- A line makes a request: its position and lock state are those of the moment (R99, R100). -/
def gpiRequest (i : Fin 4) (s : State) : State :=
  let l := s.position.gpi[i]
  raiseIf l.isFull .markOverwrite
    (raiseIf (l.function == .mark) .markCaptured
      (setLine i (l.join { position := samplePosition s, lock := s.position.lock }) s))

/-- A falling edge of a line's pin (R99). -/
def fallingEdge (i : Fin 4) (s : State) : State :=
  let l := s.position.gpi[i]
  if l.function ≠ .off ∧ l.detection = .edge then gpiRequest i s else s

/-- The LEVEL request of one line at a tick (R99). -/
def levelRequest (gpiLow : BitVec 4) (s : State) (i : Fin 4) : State :=
  let l := s.position.gpi[i]
  if l.function ≠ .off ∧ l.detection = .level ∧ gpiLow.getLsbD i = true then gpiRequest i s else s

/-- The LEVEL requests of a tick, line by line (R99, R101). -/
def levelRequests (gpiLow : BitVec 4) (s : State) : State := gpiLines.foldl (levelRequest gpiLow) s

/-- The line's requests go to the edit engine (R101). -/
def GpiLine.isHanded (l : GpiLine) : Bool := l.function == .arm || l.function == .abort

/-- The requests of a tick for the edit engine, by function: line by line, oldest first (R101). -/
def handedRequests (s : State) : List GpiFunction :=
  gpiLines.flatMap (fun i =>
    let l := s.position.gpi[i]
    if l.isHanded then l.queue.map (fun _ => l.function) else [])

/-- What is handed to the engine leaves its queue (R101). -/
def clearHanded (s : State) : State :=
  s.setPosition { s.position with
    gpi := s.position.gpi.map (fun l => if l.isHanded then { l with queue := [] } else l) }

/-- The transport becomes STOPPED: lines with clear-on-stop lose their queue and keep their flag (R103). -/
def clearOnStop (s : State) : State :=
  s.setPosition { s.position with
    gpi := s.position.gpi.map (fun l => if l.clearOnStop then { l with queue := [] } else l) }

/-! ## The tick -/

/-- The lock age at a tick (R95). -/
def ageAfter (p : Position) : Nat := if p.lock = .locked then satInc Config.max16 p.age else p.age

/-- The ring without its entries below W (R68). -/
def sweep (w : FrameNo) (ring : List RingEntry) : List RingEntry :=
  ring.filter (fun e => w.toNat ≤ e.number.toNat)

/-- The tick's work of the position unit: the tick-relative count is 0, W rises, the lock age follows, and the
ring is swept (R18, R68, R88, R95). -/
def positionTick (s : State) : State :=
  ((s.setSampleCount 0).setPosition
      { s.position with w := s.position.w + 1, age := ageAfter s.position }).setRing
    (sweep (s.position.w + 1) s.ring)

/-! ## Requests -/

/-- POSITION READ (R97). -/
def servePositionRead (p : List Byte) (s : State) : Served :=
  match p with
  | [] =>
    served s
      (frameBytes s.position.w
        ++ optField 2 (if s.pins.transport = .play then
            some (be 2 (min s.sampleCount (spf s.input.rate - 1))) else none)
        ++ be 1 (lockCode s.position.lock) ++ be 2 s.position.age
        ++ be 1 (transportCode s.pins.transport) ++ optFrame s.position.last
        ++ gpiLines.flatMap (fun i =>
            be 1 s.position.gpi[i].queue.length ++ bit s.position.gpi[i].overwrite))
  | _ => turnedAway s .badLength

/-- A queue depth: 1 or 2 (R98). -/
def depthOfCode (b : Byte) : Option Nat :=
  if b = 1 then some 1 else if b = 2 then some 2 else none

/-- GPI SETUP (R98). -/
def serveGpiSetup (p : List Byte) (s : State) : Served :=
  match p with
  | [ln, fn, dt, dp, cs] =>
    match lineOfCode ln, gpiFunctionOfCode fn, gpiDetectionOfCode dt, depthOfCode dp,
        boolOfCode cs with
    | some i, some function, some detection, some depth, some clearOnStop =>
      served (setLine i { function, detection, depth, clearOnStop, queue := [],
                          overwrite := false } s) []
    | _, _, _, _, _ => turnedAway s .badValue
  | _ => turnedAway s .badLength

/-- A GPI request in a reply (R102). -/
def gpiBytes (r : GpiRequest) : List Byte := positionBytes r.position ++ be 1 (lockCode r.lock)

/-- MARK READ (R102). -/
def serveMarkRead (p : List Byte) (s : State) : Served :=
  match p with
  | [ln] =>
    match lineOfCode ln with
    | none => turnedAway s .badValue
    | some i =>
      let l := s.position.gpi[i]
      if l.function = .mark then
        served (setLine i { l with queue := l.queue.tail, overwrite := false } s)
          (optField 6 (l.queue.head?.map gpiBytes) ++ be 1 l.queue.tail.length
            ++ bit l.overwrite)
      else turnedAway s .state
  | _ => turnedAway s .badLength

end Sys2Proof.Machine
end

