-- ==== Sys2Proof/Machine/Formatter.lean ====
section
/-! DEFINITION. The record formatter (03): hand-over and emission of frames, the tick in RECORDING and
STOPPING, the written-frame list, and its three requests. -/

namespace Sys2Proof.Machine

/-! ## Hand-over -/

/-- A frame is coded and handed over: the gate opens, and its 102 blocks are in emission (R38 to R41, R46). -/
def emit (origin : EmissionOrigin) (pairs : List Pair) (r : Subcode) (s : State) : State :=
  s.setFormatter { s.formatter with
    emission := some { number := r.number, blocks := codeFrame pairs r, origin } }

/-- The subcode record of a plain recording (R40). -/
def plainSubcode (s : State) (mark : Mark) (refused : Bool) : Subcode :=
  { number := s.position.w, program := s.formatter.record.program, take := s.formatter.record.take,
    mark, rate := s.input.rate, kind := .normal, refused }

/-- A recording ends with a reason (R43 to R45). -/
def endRecording (reason : EndReason) (s : State) : State :=
  s.setFormatter { s.formatter with
    state := .idle, record := { s.formatter.record with endReason := some reason } }

/-- At the first tick in STOPPING a frame that is handed over ends the recording with STOPPED, and the end is
reported to the guard (R43). -/
def finishStopping (s : State) : State :=
  if s.formatter.state = .stopping then closeSpan (endRecording .stopped s) else s

/-- The tick in RECORDING or STOPPING, by the ruling of capture frame W − 2 and the refusal action, with the
report of the case to the guard (R37, R45). -/
def recordFrame (s : State) : State :=
  let c := captureFor (s.position.w - 2) s
  match c.ruling, s.lineage.action with
  | .permit mark, _ =>
    finishStopping (closeSpan (emit (.recording false) c.pairs (plainSubcode s mark false) s))
  | .refuse, .silence =>
    finishStopping (refusedReport s.position.w .record
      (emit (.recording true) (silence (spf s.input.rate)) (plainSubcode s .never true) s))
  | .refuse, .halt =>
    closeSpan (refusedReport s.position.w .record (endRecording .refused s))

/-- The tick's work of the formatter on its own account (R32). -/
def formatterTick (s : State) : State :=
  match s.formatter.state with
  | .idle => s
  | .recording | .stopping => recordFrame s

/-! ## Written frames -/

/-- The written-frame list and the unconfirmed count after W is written (R47). -/
def joinWritten (w : FrameNo) (f : Formatter) : Formatter :=
  let l := f.written.filter (fun x => x != w)
  if Config.writtenCap ≤ l.length then
    { f with written := l.tail ++ [w], unconfirmed := satInc Config.max32 f.unconfirmed }
  else { f with written := l ++ [w] }

/-- The recording record after a frame of its recording is written (R36, R41). -/
def RecordingRecord.enter (r : RecordingRecord) (w : FrameNo) (silenced : Bool) : RecordingRecord :=
  { r with
    first := some (r.first.getD w)
    last := some w
    framesWritten := satInc Config.max32 r.framesWritten
    framesSilenced := if silenced then satInc Config.max32 r.framesSilenced
                      else r.framesSilenced }

/-- The formatter once the 102nd block of a frame is emitted (R33, R41, R47). -/
def Formatter.finish (f : Formatter) (e : Emission) : Formatter :=
  joinWritten e.number { f with
    emission := none
    record := match e.origin with
      | .recording silenced => f.record.enter e.number silenced
      | .earlier | .splice => f.record }

/-- Confirmation: a CONFIDENCE frame's number leaves the list (R48, R69). -/
def confirm (n : FrameNo) (s : State) : State :=
  s.setFormatter { s.formatter with written := s.formatter.written.filter (fun x => x != n) }

/-- An emission belongs to the recording of the recording record. -/
def Emission.isOwn (e : Emission) : Bool :=
  match e.origin with
  | .recording _ => true
  | .earlier | .splice => false

/-- The emission is cut short: the frame in it is not written (R27, R33). -/
def cutShort (s : State) : State := s.setFormatter { s.formatter with emission := none }

/-- The transport leaves PLAY (R44): the emission is cut short; a recording ends with TRANSPORT and its end is
reported; the frame of a stopping tick that is cut short replaces STOPPED by TRANSPORT. -/
def recordingTransport (s : State) : State :=
  if s.formatter.state ≠ .idle then closeSpan (endRecording .transport (cutShort s))
  else if s.formatter.emission.any Emission.isOwn then endRecording .transport (cutShort s)
  else cutShort s

/-! ## Requests -/

/-- An emission of the recording that a new one follows no longer belongs to the recording record (log 17). -/
def Emission.outlive (e : Emission) : Emission :=
  match e.origin with
  | .recording _ | .earlier => { e with origin := .earlier }
  | .splice => e

/-- The formatter when a RECORD START is taken (R34, R36, R47). -/
def Formatter.start (f : Formatter) (mode : RecordMode) (program take : Word16) : Formatter :=
  { f with
    state := .recording
    record := { mode := some mode, program, take, first := none, last := none,
                framesWritten := 0, framesSilenced := 0, endReason := none }
    unconfirmed := 0
    emission := f.emission.map Emission.outlive }

/-- A RECORD START is turned away with STATE (R34 step 2). -/
def recordBlocked (mode : RecordMode) (s : State) : Bool :=
  s.formatter.state != .idle || s.engine.state != .disarmed || s.pins.transport != .play
    || (mode == .continuing && s.position.lock != .locked)

/-- The taken RECORD START: the recording is set up, and in NEW mode W is set (R34, R35). -/
def startRecording (mode : RecordMode) (start : FrameNo) (program take : Word16) (s : State) :
    State :=
  let s' := s.setFormatter (s.formatter.start mode program take)
  match mode with
  | .continuing => s'
  | .new => newStart start s'

/-- RECORD START (R34). -/
def serveRecordStart (p : List Byte) (s : State) : Served :=
  match p with
  | [m, f0, f1, f2, p0, p1, t0, t1] =>
    match recordModeOfCode m with
    | none => turnedAway s .badValue
    | some mode =>
      if 999 < (word16OfBytes p0 p1).toNat then turnedAway s .badValue
      else if recordBlocked mode s then turnedAway s .state
      else
        let s' := startRecording mode (frameOfBytes f0 f1 f2) (word16OfBytes p0 p1)
          (word16OfBytes t0 t1) s
        served s' (be 1 (formatterCode s'.formatter.state) ++ frameBytes (s'.position.w + 1))
  | _ => turnedAway s .badLength

/-- The formatter after a RECORD STOP (R42). -/
def Formatter.stop (f : Formatter) : Formatter :=
  match f.state with
  | .recording => { f with state := .stopping }
  | .stopping | .idle => f

/-- RECORD STOP (R42). -/
def serveRecordStop (p : List Byte) (s : State) : Served :=
  match p with
  | [] =>
    let s' := s.setFormatter s.formatter.stop
    served s' (be 1 (formatterCode s'.formatter.state) ++ optFrame s'.formatter.record.last)
  | _ => turnedAway s .badLength

/-- RECORD STATUS (R49). -/
def serveRecordStatus (p : List Byte) (s : State) : Served :=
  match p with
  | [] =>
    let r := s.formatter.record
    served s
      (be 1 (formatterCode s.formatter.state) ++ optByte (r.mode.map recordModeCode)
        ++ be 2 r.program.toNat ++ be 2 r.take.toNat ++ optFrame r.first ++ optFrame r.last
        ++ be 4 r.framesWritten ++ be 4 r.framesSilenced ++ optByte (r.endReason.map endReasonCode)
        ++ be 1 s.formatter.written.length ++ be 4 s.formatter.unconfirmed)
  | _ => turnedAway s .badLength

end Sys2Proof.Machine
end

