-- ==== Sys2Proof/Machine/Query.lean ====
section
/-! DEFINITION. The query table (09): taking, release, completion, ticks, and its three requests. The spans of
cue entries (R104) stand here, since both the table and the edit engine use them. -/

namespace Sys2Proof.Machine

/-! ## Spans of cue entries (R104) -/

/-- The start frame of an entry: frame(in). -/
def CueEntry.startFrame (e : CueEntry) (n : Nat) : Nat := e.inPoint / n

/-- The last frame of an entry: frame(out + F − 1). -/
def CueEntry.lastFrame (e : CueEntry) (n : Nat) : Nat := (e.outPoint + e.fade - 1) / n

/-- A frame lies in the span of an entry. -/
def CueEntry.spans (e : CueEntry) (n f : Nat) : Bool :=
  e.startFrame n ≤ f && f ≤ e.lastFrame n

/-! ## Events on one entry -/

/-- The entry is of this kind and frame (R149). -/
def QueryEntry.is (e : QueryEntry) (kind : QueryKind) (f : FrameNo) : Bool :=
  e.kind == kind && e.frame == f

/-- The entry is WAITING. -/
def QueryEntry.isWaiting (e : QueryEntry) : Bool := e.state == .waiting

/-- The entry is COMPLETE. -/
def QueryEntry.isComplete (e : QueryEntry) : Bool :=
  match e.state with
  | .complete _ _ => true
  | .held _ | .waiting => false

/-- An entry completes with an outcome (R157). -/
def QueryEntry.complete (e : QueryEntry) (o : QueryOutcome) : QueryEntry :=
  { e with state := .complete 0 o }

/-- A cue entry's id is released: what is HELD behind it becomes WAITING (R153). -/
def QueryEntry.release (id : Nat) (e : QueryEntry) : QueryEntry :=
  if e.state = .held id then { e with state := .waiting } else e

/-- The record an entry takes from a report (R154). -/
def recordFor (kind : QueryKind) (sub : Subcode) (q : QualityRecord) : QueryRecord :=
  match kind with
  | .subcode => .subcode sub
  | .quality => .quality q

/-- A closed-frame report (R70). -/
structure Report where
  head : Head
  subcode : Option Subcode
  quality : QualityRecord
  lock : LockState
  expected : Option FrameNo
  deriving DecidableEq, Repr

/-- The report is a pass for a WAITING entry of this frame (R155). DESIGN CHOICE (log 39): the pass needs no number
of the frame itself, so that a frame left unnumbered for a tag that disagrees with the expected number (R58) is one,
and a third pass may so complete the entry although R59 says that an unnumbered frame completes no query. -/
def Report.isPass (r : Report) (f : FrameNo) : Bool :=
  r.head == .advance && r.lock == .locked && r.expected == some f && r.subcode.isNone

/-- A report at an entry: FOUND, a pass, or nothing (R154, R155). -/
def QueryEntry.report (r : Report) (e : QueryEntry) : QueryEntry :=
  if e.isWaiting then
    match r.subcode with
    | some sub =>
      if sub.number = e.frame then e.complete (.found (recordFor e.kind sub r.quality)) else e
    | none =>
      if r.isPass e.frame then
        let e' := { e with passes := e.passes + 1 }
        if 3 ≤ e'.passes then e'.complete .unreadable else e'
      else e
  else e

/-- A WAITING entry expires when the wait limit is not 0 and its wait count is at or above it (R156). -/
def QueryEntry.expire (limit : Nat) (e : QueryEntry) : QueryEntry :=
  if e.isWaiting ∧ limit ≠ 0 ∧ limit ≤ e.wait then e.complete .expired else e

/-- A tick at an entry: a WAITING one raises its wait count, and may expire; a COMPLETE one raises its age
(R156, R157). -/
def QueryEntry.tick (limit : Nat) (e : QueryEntry) : QueryEntry :=
  match e.state with
  | .waiting => QueryEntry.expire limit { e with wait := satInc Config.max16 e.wait }
  | .complete age o => { e with state := .complete (satInc Config.discardAge age) o }
  | .held _ => e

/-- The entry's age has reached 300 (R157). -/
def QueryEntry.isStale (e : QueryEntry) : Bool :=
  match e.state with
  | .complete age _ => Config.discardAge ≤ age
  | .held _ | .waiting => false

/-! ## Events on the table -/

/-- The table's entries are replaced by what an event makes of each, and QUERY_COMPLETE is raised when any of
them completes (R157). -/
def updateQueries (f : QueryEntry → QueryEntry) (s : State) : State :=
  raiseIf (s.query.entries.any (fun e => !e.isComplete && (f e).isComplete)) .queryComplete
    (s.setQuery { s.query with entries := s.query.entries.map f })

/-- The report of a closed frame (R154, R155). -/
def reportQueries (r : Report) (s : State) : State := updateQueries (QueryEntry.report r) s

/-- A cue entry has left the list (R153). -/
def releaseQueries (id : Nat) (s : State) : State :=
  s.setQuery { s.query with entries := s.query.entries.map (QueryEntry.release id) }

/-- The tick's expiry by itself (R156): in PLAY, the WAITING entries at the limit that the last tick found complete
as EXPIRED. A limit that QUERY SETUP lowers after that tick acts at the next one (R159), and the tick has already
expired what its own limit expires (log 7). -/
def expireQueries (s : State) : State :=
  if s.pins.transport = .play then updateQueries (QueryEntry.expire s.query.tickLimit) s else s

/-- Entries of age 300 are removed, and QUERY_DISCARDED is raised (R157). -/
def discardQueries (s : State) : State :=
  raiseIf (s.query.entries.any QueryEntry.isStale) .queryDiscarded
    (s.setQuery { s.query with entries := s.query.entries.filter (fun e => !e.isStale) })

/-- The tick finds the wait limit in force (R156, R159). -/
def findLimit (s : State) : State := s.setQuery { s.query with tickLimit := s.query.limit }

/-- The tick's work of the query table (R156, R157). -/
def queryTick (s : State) : State :=
  discardQueries (updateQueries (QueryEntry.tick s.query.limit) (findLimit s))

/-! ## Requests -/

/-- The content of a PENDING reply (R151). -/
def pendingContent (e : QueryEntry) : List Byte :=
  be 1 (queryKindCode e.kind) ++ frameBytes e.frame ++ be 1 (queryStateCode e.state)
    ++ optByte (match e.state with
        | .held id => some id
        | .waiting | .complete _ _ => none)
    ++ be 1 e.passes ++ be 2 e.wait

/-- The record field of a DONE reply: present for FOUND, else zeros of its kind's length (R151, R17). -/
def recordField (kind : QueryKind) (o : QueryOutcome) : List Byte :=
  optField (match kind with
      | .subcode => 11
      | .quality => 16)
    (match o with
      | .found (.subcode r) => some (subcodeBytes r)
      | .found (.quality r) => some (qualityBytes r)
      | .unreadable | .expired => none)

/-- The content of a DONE reply (R151). -/
def doneContent (e : QueryEntry) (age : Nat) (o : QueryOutcome) : List Byte :=
  be 1 (queryKindCode e.kind) ++ frameBytes e.frame ++ be 1 (queryOutcomeCode o) ++ be 1 e.passes
    ++ be 2 e.wait ++ be 2 age ++ recordField e.kind o

/-- The table without the entry of a kind and frame. -/
def removeQuery (kind : QueryKind) (f : FrameNo) (s : State) : State :=
  s.setQuery { s.query with entries := s.query.entries.filter (fun e => !e.is kind f) }

/-- A repeat, answered from the entry's state (R151). -/
def answerRepeat (e : QueryEntry) (s : State) : Served :=
  match e.state with
  | .complete age o => served (removeQuery e.kind e.frame s) (doneContent e age o)
  | .held _ | .waiting => answered s (pendingContent e)

/-- A new entry, HELD when its frame lies in the span of an entry of the cue list (R152). -/
def newQuery (kind : QueryKind) (f : FrameNo) (s : State) : QueryEntry :=
  { kind, frame := f, passes := 0, wait := 0,
    state := match s.engine.cues.find? (fun c => c.spans (spf s.input.rate) f.toNat) with
      | some c => .held c.id
      | none => .waiting }

/-- TAPE QUERY (R150 to R152). -/
def serveTapeQuery (p : List Byte) (s : State) : Served :=
  match p with
  | [k, f0, f1, f2] =>
    match queryKindOfCode k with
    | none => turnedAway s .badValue
    | some kind =>
      let f := frameOfBytes f0 f1 f2
      match s.query.entries.find? (fun e => e.is kind f) with
      | some e => answerRepeat e s
      | none =>
        if Config.queryCap ≤ s.query.entries.length then turnedAway s .full
        else
          let e := newQuery kind f s
          answered (s.setQuery { s.query with entries := s.query.entries ++ [e] })
            (pendingContent e)
  | _ => turnedAway s .badLength

/-- QUERY CANCEL (R158). -/
def serveQueryCancel (p : List Byte) (s : State) : Served :=
  match p with
  | [k, f0, f1, f2] =>
    match queryKindOfCode k with
    | none => turnedAway s .badValue
    | some kind =>
      let f := frameOfBytes f0 f1 f2
      match s.query.entries.find? (fun e => e.is kind f) with
      | some e => served (removeQuery kind f s) (be 1 (queryStateCode e.state))
      | none => turnedAway s .notFound
  | _ => turnedAway s .badLength

/-- QUERY SETUP (R159). -/
def serveQuerySetup (p : List Byte) (s : State) : Served :=
  match p with
  | [a, b] => served (s.setQuery { s.query with limit := ofBe [a, b] }) [a, b]
  | _ => turnedAway s .badLength

end Sys2Proof.Machine
end

