-- ==== Sys2Proof/Machine/Engine.lean ====
section
/-! DEFINITION. The edit engine (07): the cue list, arming and the cursor, starting, producing and ending
entries, the report of written frames, and its requests. -/

namespace Sys2Proof.Machine

/-! ## The cue list -/

/-- The entry of an id. -/
def findCue (id : Nat) (s : State) : Option CueEntry := s.engine.cues.find? (fun e => e.id == id)

/-- The entry that follows the one of an id in the list. -/
def follower (id : Nat) (cues : List CueEntry) : Option CueEntry :=
  (cues.dropWhile (fun e => e.id != id)).tail.head?

/-- The list with the entry of an id changed. -/
def changeCue (id : Nat) (f : CueEntry → CueEntry) (s : State) : State :=
  s.setEngine { s.engine with cues := s.engine.cues.map (fun e => if e.id = id then f e else e) }

/-- An entry leaves the list, and its id is reported to the query table (R105). -/
def removeCue (id : Nat) (s : State) : State :=
  releaseQueries id
    (s.setEngine { s.engine with cues := s.engine.cues.filter (fun e => e.id != id) })

/-- The list is emptied at a change of session rate; each entry is reported as it leaves (R105, R153). -/
def emptyCues (s : State) : State :=
  (s.engine.cues.map (fun e => e.id)).foldl (fun t id => removeCue id t) s

/-! ## The cursor -/

/-- The engine once the cursor has passed the last entry (R111). -/
def Engine.passLast (e : Engine) : Engine :=
  if e.arm.mode = .rehearse ∧ e.arm.loop = true then { e with state := .armed, cursor := .passed }
  else { e with state := .disarmed, cursor := .absent }

/-- The engine ARMED with the cursor on an entry, or past the last one (R111, R131 step 5). -/
def Engine.pointTo (e : Engine) (next : Option CueEntry) : Engine :=
  match next with
  | some c => { e with state := .armed, cursor := .entry c.id }
  | none => e.passLast

/-- An entry's start frame is below W + D, compared as plain numbers (R111; log 27). -/
def isPassed (s : State) (e : CueEntry) : Bool :=
  e.startFrame (spf s.input.rate) < s.position.w.toNat + s.decoder.preread

/-- The entries that placing the cursor passes over (R111). -/
def passedCues (s : State) : List CueEntry := s.engine.cues.takeWhile (isPassed s)

/-- The entry on which the cursor is placed (R111). -/
def placedCue (s : State) : Option CueEntry := (s.engine.cues.dropWhile (isPassed s)).head?

/-- A rewind event re-places the cursor of an engine ARMED in REHEARSE with LOOP, and does nothing to any
other (R112). -/
def rewind (s : State) : State :=
  if s.engine.state = .armed ∧ s.engine.arm.mode = .rehearse ∧ s.engine.arm.loop = true then
    s.setEngine (s.engine.pointTo (placedCue s))
  else s

/-! ## The splice log and the end of an entry -/

/-- A record joins the splice log (R132). -/
def logRecord (r : SpliceRecord) (s : State) : State :=
  s.setEngine { s.engine with
    log := pushNewest Config.spliceLogCap r s.engine.log
    recordsMade := satInc Config.max32 s.engine.recordsMade }

/-- The cause of an outcome (R131 step 2). -/
def outcomeCause : EntryOutcome → Cause
  | .completed | .rehearsed => .editFinished
  | .refused | .aborted => .editAborted
  | .missed => .editMissed

/-- An ended entry leaves the list in EXECUTE, and returns to PENDING in REHEARSE (R131 step 3). -/
def leaveList (id : Nat) (s : State) : State :=
  match s.engine.arm.mode with
  | .execute => removeCue id s
  | .rehearse => changeCue id (fun e => { e with state := .pending, degraded := 0 }) s

/-- The cursor advances to the entry that followed the ended one, and the pending abort is cleared (R131 steps
4 and 5). -/
def advanceCursor (next : Option CueEntry) (s : State) : State :=
  s.setEngine ({ s.engine with pendingAbort := false, run := EntryRun.empty }.pointTo next)

/-- In EXECUTE the end of an entry is reported to the guard (R124, R142). -/
def reportEnd (s : State) : State :=
  match s.engine.arm.mode with
  | .execute => closeSpan s
  | .rehearse => s

/-- The end of an entry, in the steps of R131. -/
def endEntry (r : SpliceRecord) (s : State) : State :=
  reportEnd (advanceCursor (follower r.id s.engine.cues)
    (leaveList r.id (raise (outcomeCause r.outcome) (logRecord r s))))

/-- The record of a MISSED entry (R116). -/
def missedRecord (e : CueEntry) (reason : Reason) (s : State) : SpliceRecord :=
  { id := e.id, mode := s.engine.arm.mode, outcome := .missed, reason := some reason, first := none,
    last := none, framesWritten := 0, degraded := 0, openEnded := false }

/-- The record of an entry refused at its start (R127). -/
def refusedRecord (e : CueEntry) (s : State) : SpliceRecord :=
  { id := e.id, mode := s.engine.arm.mode, outcome := .refused, reason := none, first := none,
    last := none, framesWritten := 0, degraded := 0, openEnded := false }

/-- The record of the ACTIVE entry at its end (R131 step 1). -/
def activeRecord (e : CueEntry) (outcome : EntryOutcome) (reason : Option Reason) (openEnded : Bool)
    (s : State) : SpliceRecord :=
  { id := e.id, mode := s.engine.arm.mode, outcome, reason, first := s.engine.run.first,
    last := s.engine.run.last, framesWritten := s.engine.run.framesWritten, degraded := e.degraded,
    openEnded }

/-- The cursor entry. -/
def cursorCue (s : State) : Option CueEntry :=
  match s.engine.cursor with
  | .entry id => findCue id s
  | .absent | .passed => none

/-- The ACTIVE entry ends (R131). -/
def endActive (outcome : EntryOutcome) (reason : Option Reason) (openEnded : Bool) (s : State) :
    State :=
  match cursorCue s with
  | some e => endEntry (activeRecord e outcome reason openEnded s) s
  | none => s

/-- The mode is EXECUTE. -/
def isExecute (s : State) : Bool := s.engine.arm.mode == .execute

/-! ## Old side, new side and splice samples -/

/-- The old side of a frame (R119). -/
structure OldSide where
  pairs : List Pair
  flags : List (Bool × Bool)
  subcode : Option Subcode
  deriving DecidableEq, Repr

/-- No old side: an INSERTED frame fetches nothing (R119). -/
def OldSide.none : OldSide := { pairs := [], flags := [], subcode := .none }

/-- The old side is fetched from the ring, or concealed as an all-invalid ADVANCE frame numbered W when the
ring lacks W (R85, R119). -/
def fetchOld (s : State) : State × OldSide :=
  match s.ring.find? (fun e => e.number == s.position.w) with
  | some e => (s, { pairs := e.pairs, flags := e.flags, subcode := e.subcode })
  | none =>
    let out := concealInto .advance (some s.position.w) (allInvalid (spf s.input.rate)) s
    (out.1, { pairs := out.2.pairs, flags := out.2.flags, subcode := none })

/-- The old mark: the subcode's, or NEVER when there is none (R140). -/
def OldSide.mark (o : OldSide) : Mark :=
  match o.subcode with
  | some r => r.mark
  | .none => .never

/-- The region of a sample position (R104). -/
inductive Region where
  | old
  | fadeIn (k : Nat)
  | new
  | fadeOut (k : Nat)
  deriving DecidableEq, Repr

/-- The region of P in an entry (R104). -/
def CueEntry.region (e : CueEntry) (p : Nat) : Region :=
  if p < e.inPoint then .old
  else if p < e.inPoint + e.fade then .fadeIn (p - e.inPoint)
  else if p < e.outPoint then .new
  else if p < e.outPoint + e.fade then .fadeOut (p - e.outPoint)
  else .old

/-- a with weight f − k and b with weight k over f, to the nearest, ties away from zero (R117, R126). -/
def crossfade (a b : Sample) (k f : Nat) : Sample :=
  sampleOf (roundAway (a.toInt * ((f : Int) - k) + b.toInt * k) f)

/-- One channel's sample by its region (R117). -/
def spliceSample (f : Nat) (o w : Sample) : Region → Sample
  | .old => o
  | .fadeIn k => crossfade o w k f
  | .new => w
  | .fadeOut k => crossfade w o k f

/-- Both channels by the same region (R117). -/
def splicePair (f : Nat) (o w : Pair) (r : Region) : Pair :=
  { l := spliceSample f o.l w.l r, r := spliceSample f o.r w.r r }

/-- The pair of a list at an index, zero beyond it. -/
def sideAt (ps : List Pair) (i : Nat) : Pair := ps.getD i Pair.zero

/-- The `n` pairs of a frame whose first position is `base` (R117). -/
def splicePairs (e : CueEntry) (base n : Nat) (olds news : List Pair) : List Pair :=
  (List.range n).map (fun i => splicePair e.fade (sideAt olds i) (sideAt news i) (e.region (base + i)))

/-- The sample takes the old side: its old weight is above zero (R121). DESIGN CHOICE (log 40): the fade-in's last
sample, k = F − 1, has old weight 1 and so counts, although R121 also calls it pure new. -/
def takesOld (f : Nat) : Region → Bool
  | .old => true
  | .fadeIn k => k < f
  | .new => false
  | .fadeOut k => 0 < k

/-- The flags of both channels at an index, counted (R121). -/
def flagCount (p : Bool × Bool) : Nat := p.1.toNat + p.2.toNat

/-- The degraded samples of a frame: indices that take the old side, each channel with its flag set
(R121). -/
def degradedSamples (takes : Nat → Bool) (n : Nat) (flags : List (Bool × Bool)) : Nat :=
  ((List.range n).map (fun i => if takes i then flagCount (flags.getD i (false, false)) else 0)).sum

/-- A frame is INSERTED when each of its positions lies in the new region (R122). -/
def isInserted (e : CueEntry) (base n : Nat) : Bool :=
  e.inPoint + e.fade ≤ base && base + n ≤ e.outPoint

/-- The phase by the frame's last position (R123). -/
def phaseAt (e : CueEntry) (p : Nat) : Phase :=
  if p < e.inPoint + e.fade then .fadeIn
  else if p < e.outPoint then .insert
  else .fadeOut

/-- The emergency fade's sample from hc to o (R126). -/
def fadeSample (hc o : Sample) (n : Nat) : Sample := if n < 16 then crossfade hc o n 16 else o

/-- The emergency fade's pairs (R126). -/
def fadePairs (hc : Pair) (n : Nat) (olds : List Pair) : List Pair :=
  (List.range n).map (fun i =>
    { l := fadeSample hc.l (sideAt olds i).l i, r := fadeSample hc.r (sideAt olds i).r i })

/-! ## Handing a splice frame on -/

/-- A splice frame (7.4). -/
structure SpliceFrame where
  pairs : List Pair
  kind : FrameKind
  mark : Mark
  refused : Bool
  deriving DecidableEq, Repr

/-- The subcode of a splice frame (R46). -/
def spliceSubcode (f : SpliceFrame) (e : CueEntry) (s : State) : Subcode :=
  { number := s.position.w, program := e.program, take := e.take, mark := f.mark,
    rate := s.input.rate, kind := f.kind, refused := f.refused }

/-- What the engine keeps once a frame is produced (R124, R126). -/
def EntryRun.produced (r : EntryRun) (w : FrameNo) (execute : Bool) (f : SpliceFrame) : EntryRun :=
  { r with
    first := some (r.first.getD w)
    last := if execute then r.last else some w
    endPair := (f.pairs.getLast?).getD Pair.zero
    endMark := f.mark }

/-- A splice frame goes to the output unit, and in EXECUTE to the formatter (R46, R124). -/
def handOn (f : SpliceFrame) (e : CueEntry) (s : State) : State :=
  let s' := (s.setEngine { s.engine with
      run := s.engine.run.produced s.position.w (isExecute s) f }).setOutput
    { s.output with
      fresh := { s.output.fresh with splice := some { pairs := f.pairs, mark := f.mark } } }
  if isExecute s then emit .splice f.pairs (spliceSubcode f e s) s' else s'

/-- The entry's degraded count rises (R121). -/
def addDegraded (e : CueEntry) (k : Nat) (s : State) : State :=
  changeCue e.id (fun c => { c with degraded := satAdd Config.max32 c.degraded k }) s

/-- Frame W of an entry from input: old side, samples, degraded count, mark, hand-over, phase, and the report to
the guard (R117, R119 to R124, R140). -/
def produceInput (e : CueEntry) (s : State) : State :=
  let n := spf s.input.rate
  let base := s.position.w.toNat * n
  let c := captureFor (s.position.w - 2) s
  let inserted := isInserted e base n
  let fetched := if inserted then (s, OldSide.none) else fetchOld s
  let old := fetched.2
  let f : SpliceFrame :=
    { pairs := splicePairs e base n old.pairs c.pairs
      kind := if inserted then .inserted else .splice
      mark := if inserted then c.ruling.mark else stricter c.ruling.mark old.mark
      refused := false }
  let s' := changeCue e.id
    (fun x => { x with state := .active (phaseAt e (base + n - 1)) })
    (handOn f e (addDegraded e
      (degradedSamples (fun i => takesOld e.fade (e.region (base + i))) n old.flags) fetched.1))
  reportEnd s'

/-- The end that a tick decided waits for the emission in EXECUTE (R125, R130). -/
def awaitEnd (x : Ending) (s : State) : State :=
  s.setEngine { s.engine with run := { s.engine.run with ending := some x } }

/-- Frame W from input; when W is the entry's last frame, the entry completes: at the tick in REHEARSE, when the
frame is written in EXECUTE (R118 step 4, R125). -/
def produceFrame (e : CueEntry) (s : State) : State :=
  let s' := produceInput e s
  if s.position.w.toNat = e.lastFrame (spf s.input.rate) then
    if isExecute s then awaitEnd .complete s' else endActive .rehearsed none false s'
  else s'

/-- Frame W as an emergency fade, with the refused flag for a fade on refusal (R126, R130, R140). -/
def produceFade (e : CueEntry) (refusal : Bool) (s : State) : State :=
  let n := spf s.input.rate
  let fetched := fetchOld s
  let old := fetched.2
  let f : SpliceFrame :=
    { pairs := fadePairs s.engine.run.endPair n old.pairs
      kind := .splice
      mark := stricter s.engine.run.endMark old.mark
      refused := refusal }
  handOn f e (addDegraded e (degradedSamples (fun i => 1 ≤ i) n old.flags) fetched.1)

/-- The ACTIVE entry is aborted for refusal (R130). -/
def abortRefused (e : CueEntry) (s : State) : State :=
  awaitEnd .refusal (refusedReport s.position.w (.edit e.id) (produceFade e true s))

/-- The ACTIVE entry is aborted on request (R130). -/
def abortRequested (e : CueEntry) (s : State) : State :=
  let s' := produceFade e false s
  if isExecute s then awaitEnd .request s' else endActive .aborted (some .requested) false s'

/-! ## Arming -/

/-- An entry passed over at arming in EXECUTE: MISSED, logged and removed (R111, R116). -/
def passOver (s : State) (e : CueEntry) : State :=
  removeCue e.id (raise .editMissed (logRecord (missedRecord e .passed s) s))

/-- The engine takes an arm mode, with LOOP clear in EXECUTE (R110). -/
def Engine.takeArm (e : Engine) (m : ArmMode) : Engine :=
  { e with
    arm := { mode := m.mode, loop := m.loop && m.mode == .rehearse }
    pendingAbort := false
    run := EntryRun.empty }

/-- Arming: the mode is taken, the cursor is placed, and entries passed over are handled (R110, R111). -/
def armEngine (m : ArmMode) (s : State) : State :=
  let s' := s.setEngine (s.engine.takeArm m)
  let t := if m.mode = .execute then (passedCues s).foldl passOver s' else s'
  t.setEngine (t.engine.pointTo (placedCue s))

/-- Arming draws STATE (R110 step 2). -/
def armBlocked (s : State) : Bool :=
  s.engine.state != .disarmed || s.formatter.state != .idle || s.engine.cues.isEmpty

/-- Arming draws REFUSED (R110 step 3). -/
def armRefused (m : ArmMode) (s : State) : Bool :=
  m.mode == .execute && s.input.source == .digital && currentRuling s == .refuse

/-- The engine becomes DISARMED (R113). -/
def disarm (s : State) : State :=
  s.setEngine { s.engine with state := .disarmed, cursor := .absent, pendingAbort := false }

/-- A GPI request at the engine (R114). -/
def engineRequest (s : State) (f : GpiFunction) : State :=
  match f, s.engine.state with
  | .arm, .disarmed =>
    if armBlocked s || armRefused s.engine.arm s then s else armEngine s.engine.arm s
  | .arm, .armed => disarm s
  | .arm, .active => s
  | .abort, .active => s.setEngine { s.engine with pendingAbort := true }
  | .abort, .disarmed | .abort, .armed => s
  | .off, _ | .mark, _ => s

/-! ## The tick -/

/-- The entry starts (R115). -/
def startEntry (e : CueEntry) (s : State) : State :=
  let s' := changeCue e.id (fun c => { c with state := .active .fadeIn, degraded := 0 })
    (s.setEngine { s.engine with state := .active, cursor := .entry e.id, run := EntryRun.empty })
  produceFrame { e with state := .active .fadeIn, degraded := 0 } (raise .editStarted s')

/-- The entry is MISSED at a tick (R115, R116). -/
def missEntry (e : CueEntry) (reason : Reason) (s : State) : State :=
  endEntry (missedRecord e reason s) s

/-- The entry is refused at its start (R127). -/
def refuseEntry (e : CueEntry) (s : State) : State :=
  let s' := refusedReport s.position.w (.edit e.id) s
  endEntry (refusedRecord e s') s'

/-- The comparison of R115, from the cursor entry on: an entry that is missed or refused passes it to the
next. -/
def compareEntries : List CueEntry → State → State
  | [], s => s
  | e :: rest, s =>
    let start := e.startFrame (spf s.input.rate)
    if s.position.w.toNat < start then s
    else if start < s.position.w.toNat then compareEntries rest (missEntry e .passed s)
    else if s.position.age < s.engine.lockAgeReq then compareEntries rest (missEntry e .noLock s)
    else if isExecute s ∧ (captureFor (s.position.w - 2) s).ruling = .refuse then
      compareEntries rest (refuseEntry e s)
    else startEntry e s

/-- The cursor entry and those after it. -/
def cuesFromCursor (s : State) : List CueEntry :=
  match s.engine.cursor with
  | .entry id => s.engine.cues.dropWhile (fun e => e.id != id)
  | .absent | .passed => []

/-- The tick while ACTIVE (R118). -/
def activeTick (s : State) : State :=
  match cursorCue s with
  | none => s
  | some e =>
    if s.position.lock ≠ .locked then endActive .aborted (some .lostLock) (isExecute s) s
    else if isExecute s ∧ (captureFor (s.position.w - 2) s).ruling = .refuse then abortRefused e s
    else if s.engine.pendingAbort then abortRequested e s
    else produceFrame e s

/-- The tick's work of the engine: the GPI requests handed to it, then by its state (R114, R115, R118). -/
def engineTick (requests : List GpiFunction) (s : State) : State :=
  let s' := requests.foldl engineRequest s
  match s'.engine.state with
  | .disarmed => s'
  | .armed => compareEntries (cuesFromCursor s') s'
  | .active => activeTick s'

/-! ## Frames written, and the transport -/

/-- The ACTIVE entry's decided end is reached once its last frame is written (R125, R130). -/
def reachEnd (s : State) : State :=
  match s.engine.run.ending with
  | none => s
  | some .complete => endActive .completed none false s
  | some .refusal => endActive .aborted (some .refused) false s
  | some .request => endActive .aborted (some .requested) false s

/-- The formatter reports a splice frame written (R124). -/
def spliceWritten (w : FrameNo) (s : State) : State :=
  if s.engine.state = .active then
    reachEnd (s.setEngine { s.engine with run := { s.engine.run with
      last := some w, framesWritten := satInc Config.max32 s.engine.run.framesWritten } })
  else s

/-- The 102nd block of the frame in emission is emitted: the frame is written (R33, R41, R47). -/
def frameWritten (s : State) : State :=
  match s.formatter.emission with
  | none => s
  | some e =>
    let s' := s.setFormatter (s.formatter.finish e)
    if e.origin = .splice then spliceWritten e.number s' else s'

/-- The reason of a transport abort: an abort decided at the tick keeps its own (R129). -/
def transportReason : Option Ending → Reason
  | some .refusal => .refused
  | some .request => .requested
  | some .complete | none => .transport

/-- The transport leaves PLAY while an entry is ACTIVE (R129). -/
def transportAbort (s : State) : State :=
  if s.engine.state = .active then
    endActive .aborted (some (transportReason s.engine.run.ending)) (isExecute s) s
  else s

/-! ## Requests -/

/-- A new entry's id: the next after the last assigned that no entry carries, counting 1 to 255 and then 1
again (R105). -/
def nextId (e : Engine) : Nat :=
  (((List.range 255).map (fun k => (e.lastId.getD 0 + k) % 255 + 1)).find?
    (fun id => !e.cues.any (fun c => c.id == id))).getD 0

/-- A CUE ADD's values are out of range (R106 step 1). -/
def badCue (n inP outP fade program : Nat) : Bool :=
  fade < 16 || 4096 < fade || 999 < program || Config.frameCount * n ≤ inP
    || Config.frameCount * n ≤ outP || outP < inP + fade || Config.frameCount * n ≤ outP + fade - 1

/-- Two entries' spans share a frame (R105, R106). -/
def overlaps (n : Nat) (a b : CueEntry) : Bool :=
  a.startFrame n ≤ b.lastFrame n && b.startFrame n ≤ a.lastFrame n

/-- The new entry would stand before the cursor of an armed engine (R106 step 4). -/
def beforeCursor (inP : Nat) (s : State) : Bool :=
  match s.engine.state with
  | .disarmed => false
  | .armed | .active =>
    match cursorCue s with
    | some c => inP < c.inPoint
    | none => true

/-- The entry at the place its in-point gives it (R105). -/
def insertCue (e : CueEntry) (cues : List CueEntry) : List CueEntry :=
  cues.takeWhile (fun c => c.inPoint < e.inPoint) ++ e :: cues.dropWhile (fun c => c.inPoint < e.inPoint)

/-- The entry that a CUE ADD makes (R104, R106). -/
def newCue (id inP outP fade : Nat) (program take : Word16) : CueEntry :=
  { id, inPoint := inP, outPoint := outP, fade, program, take, state := .pending, degraded := 0 }

/-- CUE ADD on its values (R106). -/
def addCue (inP outP fade : Nat) (program take : Word16) (s : State) : Served :=
  let n := spf s.input.rate
  let e := newCue (nextId s.engine) inP outP fade program take
  if badCue n inP outP fade program.toNat then turnedAway s .badValue
  else if Config.cueCap ≤ s.engine.cues.length then turnedAway s .full
  else if s.engine.cues.any (overlaps n e) then turnedAway s .order
  else if beforeCursor inP s then turnedAway s .state
  else
    served (s.setEngine { s.engine with cues := insertCue e s.engine.cues, lastId := some e.id })
      (be 1 e.id ++ be 1 (s.engine.cues.takeWhile (fun c => c.inPoint < inP)).length)

/-- CUE ADD (R106). -/
def serveCueAdd (p : List Byte) (s : State) : Served :=
  match p with
  | [i0, i1, i2, i3, i4, o0, o1, o2, o3, o4, f0, f1, p0, p1, t0, t1] =>
    addCue (ofBe [i0, i1, i2, i3, i4]) (ofBe [o0, o1, o2, o3, o4]) (ofBe [f0, f1])
      (word16OfBytes p0 p1) (word16OfBytes t0 t1) s
  | _ => turnedAway s .badLength

/-- A taken CUE REMOVE: the entry leaves, and a cursor that stood on it moves to the entry that followed
(R107). -/
def dropCue (id : Nat) (s : State) : State :=
  let s' := removeCue id s
  if s.engine.cursor = .entry id then
    s'.setEngine (s'.engine.pointTo (follower id s.engine.cues))
  else s'

/-- CUE REMOVE (R107). -/
def serveCueRemove (p : List Byte) (s : State) : Served :=
  match p with
  | [b] =>
    match findCue b.toNat s with
    | none => turnedAway s .notFound
    | some e =>
      if e.state = .pending then
        let s' := dropCue b.toNat s
        served s' (be 1 s'.engine.cues.length)
      else turnedAway s .state
  | _ => turnedAway s .badLength

/-- A cue entry in its 18 bytes (R108). -/
def cueBytes (e : CueEntry) : List Byte :=
  be 1 e.id ++ positionBytes e.inPoint ++ positionBytes e.outPoint ++ be 2 e.fade
    ++ be 2 e.program.toNat ++ be 2 e.take.toNat ++ be 1 (cueStateCode e.state)

/-- The cursor entry's index in the list (R108). -/
def cursorIndex (s : State) : Option Nat :=
  match s.engine.cursor with
  | .entry id => s.engine.cues.findIdx? (fun e => e.id == id)
  | .absent | .passed => none

/-- The degraded count of the ACTIVE entry, 0 when there is none (R108). -/
def activeDegraded (s : State) : Nat :=
  match s.engine.state with
  | .active => ((cursorCue s).map (fun e => e.degraded)).getD 0
  | .disarmed | .armed => 0

/-- CUE READ (R108). -/
def serveCueRead (p : List Byte) (s : State) : Served :=
  match p with
  | [start, count] =>
    if 15 < start.toNat ∨ count.toNat < 1 ∨ 12 < count.toNat then turnedAway s .badValue
    else
      let es := (s.engine.cues.drop start.toNat).take count.toNat
      served s
        (be 1 s.engine.cues.length ++ be 1 (engineCode s.engine.state)
          ++ be 1 (modeCode s.engine.arm.mode) ++ bit s.engine.arm.loop
          ++ optByte (cursorIndex s) ++ be 4 (activeDegraded s) ++ be 1 es.length
          ++ es.flatMap cueBytes)
  | _ => turnedAway s .badLength

/-- The cursor entry's id in an EDIT ARM reply (R110). -/
def cursorId (s : State) : Option Nat :=
  match s.engine.cursor with
  | .entry id => some id
  | .absent | .passed => none

/-- The entries missed at arming: those passed over in EXECUTE (R110, R111; log 23). -/
def missedAtArming (m : ArmMode) (s : State) : Nat :=
  if m.mode = .execute then (passedCues s).length else 0

/-- EDIT ARM (R110). -/
def serveEditArm (p : List Byte) (s : State) : Served :=
  match p with
  | [m, l] =>
    match modeOfCode m, boolOfCode l with
    | some mode, some loop =>
      let arm : ArmMode := { mode, loop }
      if armBlocked s then turnedAway s .state
      else if armRefused arm s then turnedAway s .refused
      else
        let s' := armEngine arm s
        served s' (be 1 (engineCode s'.engine.state) ++ optByte (cursorId s')
          ++ be 1 (missedAtArming arm s))
    | _, _ => turnedAway s .badValue
  | _ => turnedAway s .badLength

/-- EDIT DISARM (R113). -/
def serveEditDisarm (p : List Byte) (s : State) : Served :=
  match p with
  | [] => if s.engine.state = .active then turnedAway s .state else served (disarm s) []
  | _ => turnedAway s .badLength

/-- EDIT ABORT (R130). -/
def serveEditAbort (p : List Byte) (s : State) : Served :=
  match p with
  | [] =>
    if s.engine.state = .active then
      served (s.setEngine { s.engine with pendingAbort := true }) (be 1 ((cursorId s).getD 0))
    else turnedAway s .state
  | _ => turnedAway s .badLength

/-- EDIT SETUP (R113). -/
def serveEditSetup (p : List Byte) (s : State) : Served :=
  match p with
  | [b] =>
    if b.toNat < 2 then turnedAway s .badValue
    else if s.engine.state = .disarmed then
      served (s.setEngine { s.engine with lockAgeReq := b.toNat }) [b]
    else turnedAway s .state
  | _ => turnedAway s .badLength

/-- A splice log record in its 22 bytes (R132). -/
def spliceRecordBytes (r : SpliceRecord) : List Byte :=
  be 1 r.id ++ be 1 (modeCode r.mode) ++ be 1 (outcomeCode r.outcome)
    ++ optByte (r.reason.map reasonCode) ++ optFrame r.first ++ optFrame r.last
    ++ be 4 r.framesWritten ++ be 4 r.degraded ++ bit r.openEnded

/-- SPLICE LOG READ (R132). -/
def serveSpliceLogRead (p : List Byte) (s : State) : Served :=
  match p with
  | [start, count] =>
    if 15 < start.toNat ∨ count.toNat < 1 ∨ 10 < count.toNat then turnedAway s .badValue
    else
      let rs := (s.engine.log.drop start.toNat).take count.toNat
      served s
        (be 1 s.engine.log.length ++ be 4 s.engine.recordsMade ++ be 1 rs.length
          ++ rs.flatMap spliceRecordBytes)
  | _ => turnedAway s .badLength

end Sys2Proof.Machine
end

