-- ==== Sys2Proof/Machine/Decoder.lean ====
section
/-! DEFINITION. The channel interface's read side and the frame decoder (02, 2.4; 04): blocks, the close of a
frame stage by stage, the hand-offs, and its requests. -/

namespace Sys2Proof.Machine

/-! ## Taking blocks -/

/-- The payload placed at a track and position (R51). -/
def placeOf (a : Assembly) (t : Track) (position : Nat) : Option (List Byte) :=
  (a.places.find? (fun p => p.track == t && p.position == position)).map (fun p => p.payload)

/-- A block joins the places (R53). -/
def Assembly.place (a : Assembly) (b : Block) : Assembly :=
  { a with
    tag := some b.tag
    places := a.places ++ [{ track := b.track, position := b.position, payload := b.payload }] }

/-- A block as read is judged: discarded when unusable or a duplicate, counted when foreign, placed otherwise
(R53, R54). -/
def judgeBlock (a : Assembly) (bytes : List Byte) : Assembly :=
  match parseBlock bytes with
  | none => a
  | some b =>
    match a.tag with
    | none => a.place b
    | some t =>
      if t ≠ b.tag then { a with foreign := satInc 255 a.foreign }
      else if (placeOf a b.track b.position).isSome then a
      else a.place b

/-- A BLOCK ARRIVAL: the channel interface gathers the block, and the decoder judges it (R25, R53). -/
def blockArrival (h : Head) (bytes : List Byte) (s : State) : State :=
  (s.setGathered (s.gathered.set h (s.gathered.get h ++ [bytes]))).setDecoder
    { s.decoder with
      assembly := s.decoder.assembly.set h (judgeBlock (s.decoder.assembly.get h) bytes) }

/-! ## Erasures and subcode choice -/

/-- The subcode of a track, when its block is good (R12). -/
def goodSubcode (a : Assembly) (t : Track) : Option Subcode := (placeOf a t 50).bind parseSubcode

/-- A place is erased: empty, or position 50 with a subcode that is not good (R55). -/
def isErased (a : Assembly) (t : Track) (position : Nat) : Bool :=
  (placeOf a t position).isNone || (position == 50 && (goodSubcode a t).isNone)

/-- Blocks erased before recovery (R55). -/
def erasedCount (a : Assembly) : Nat :=
  (List.range Config.positions).countP (isErased a .a)
    + (List.range Config.positions).countP (isErased a .b)

/-- A track's subcode that qualifies: good, and agreeing with the tag (R57). -/
def qualifying (a : Assembly) (t : Track) : Option Subcode :=
  (goodSubcode a t).filter (fun r => a.tag == some (tagOf r.number))

/-- The subcode used, and its source (R57). -/
def chooseSubcode (a : Assembly) : Option Subcode × SubcodeSource :=
  match qualifying a .a with
  | some r => (some r, .a)
  | none =>
    match qualifying a .b with
    | some r => (some r, .b)
    | none => (none, .none)

/-! ## Numbering -/

/-- The expected number W + D (R58). -/
def expectedNumber (s : State) : FrameNo := s.position.w + BitVec.ofNat 24 s.decoder.preread

/-- A frame without a subcode: ADVANCE takes the expected number under lock, when its tag does not disagree;
CONFIDENCE the oldest entry of the written-frame list that matches its tag (R58, R59). -/
def numberWithout (h : Head) (a : Assembly) (s : State) : Option FrameNo :=
  match h with
  | .advance =>
    if s.position.lock = .locked
        ∧ (a.tag = none ∨ a.tag = some (tagOf (expectedNumber s))) then some (expectedNumber s)
    else none
  | .confidence => s.formatter.written.find? (fun n => a.tag == some (tagOf n))

/-- The frame's number (R58, R59). -/
def numberFrame (h : Head) (a : Assembly) (sub : Option Subcode) (s : State) : Option FrameNo :=
  match sub with
  | some r => some r.number
  | none => numberWithout h a s

/-! ## Recovery and samples -/

/-- The other four members of the group of a data position (R8). -/
def groupOthers (j : Nat) : List Nat :=
  [j % 10, j % 10 + 10, j % 10 + 20, j % 10 + 30, j % 10 + 40].filter (fun p => p != j)

/-- The exclusive OR of payloads (R8). -/
def xorAll : List (List Byte) → List Byte
  | [] => []
  | p :: ps => ps.foldl xorBytes p

/-- A data block after recovery: as placed, or rebuilt when it alone of its group is erased (R9, R60). -/
def dataBlock (a : Assembly) (t : Track) (j : Nat) : Option (List Byte) :=
  match placeOf a t j with
  | some p => some p
  | none => ((groupOthers j).mapM (placeOf a t)).map xorAll

/-- The 40 data blocks of a track after recovery (R60). -/
def dataTrack (a : Assembly) (t : Track) : List (Option (List Byte)) :=
  (List.range Config.dataBlocks).map (dataBlock a t)

/-- A data block was rebuilt (R60). -/
def isRecovered (a : Assembly) (t : Track) (j : Nat) : Bool :=
  (placeOf a t j).isNone && (dataBlock a t j).isSome

/-- Blocks recovered (R60). -/
def recoveredCount (a : Assembly) : Nat :=
  (List.range Config.dataBlocks).countP (isRecovered a .a)
    + (List.range Config.dataBlocks).countP (isRecovered a .b)

/-- Data blocks lost after recovery (R60). -/
def lostCount (a : Assembly) : Nat :=
  (List.range Config.dataBlocks).countP (fun j => (dataBlock a .a j).isNone)
    + (List.range Config.dataBlocks).countP (fun j => (dataBlock a .b j).isNone)

/-- The sample in slot n of a track's data blocks: valid when its block is filled (R6, R60). -/
def slotValue (blocks : List (Option (List Byte))) (n : Nat) : Option Sample :=
  (blocks[n % Config.dataBlocks]?).join.map (fun p => payloadSample p (n / Config.dataBlocks))

/-- The samples of both channels at indices 0 to spf − 1 (R5, R60, R62). -/
def frameSamples (n : Nat) (a : Assembly) : Stereo (List (Option Sample)) :=
  let ta := dataTrack a .a
  let tb := dataTrack a .b
  { l := (List.range n).map (fun i => slotValue (if trackOfL i = .a then ta else tb) i)
    r := (List.range n).map (fun i => slotValue (if trackOfR i = .a then ta else tb) i) }

/-- The subcode's rate code differs from the session rate (R61). -/
def rateMismatch (sub : Option Subcode) (rate : Rate) : Bool :=
  match sub with
  | some r => r.rate != rate
  | none => false

/-! ## Quality record, history and totals -/

/-- The quality record of a close (R64). -/
def qualityOf (h : Head) (a : Assembly) (number : Option FrameNo) (mismatch : Bool)
    (c : ConcealedFrame) : QualityRecord :=
  { number, head := h, erased := erasedCount a, recovered := recoveredCount a, lost := lostCount a,
    interpolated := c.interpolated, held := c.held, lowest := c.lowest,
    source := (chooseSubcode a).2, foreign := a.foreign, mismatch }

/-- The totals after a close (R65). -/
def Totals.enter (t : Totals) (q : QualityRecord) : Totals :=
  { decoded := satInc Config.max32 t.decoded
    lossy := if 0 < q.lost then satInc Config.max32 t.lossy else t.lossy
    interpolated := satAdd Config.max32 t.interpolated q.interpolated
    held := satAdd Config.max32 t.held q.held }

/-- The record joins its head's history and totals (R63 to R65). -/
def recordQuality (h : Head) (q : QualityRecord) (s : State) : State :=
  s.setDecoder { s.decoder with
    history := s.decoder.history.set h (pushNewest Config.historyCap q (s.decoder.history.get h))
    totals := s.decoder.totals.set h ((s.decoder.totals.get h).enter q) }

/-! ## Handing on -/

/-- An ADVANCE subcode taken in PLAY is judged; a re-take of W renumbers the capture frames, and a backward one
is a rewind event; a change of the lock state raises LOCK_CHANGE (R66, R90 to R93). -/
def judgeSubcode (x expected : FrameNo) (s : State) : State :=
  if s.pins.transport = .play then
    let p := s.position.judge x expected s.decoder.preread
    let s' := renumber (p.w - s.position.w) (s.setPosition p)
    raiseIf (p.lock != s.position.lock) .lockChange
      (if p.w.toNat < s.position.w.toNat then rewind s' else s')
  else s

/-- Step 1 of R66: an ADVANCE frame with a subcode goes to the position unit. -/
def toPosition (h : Head) (sub : Option Subcode) (expected : FrameNo) (s : State) : State :=
  match h, sub with
  | .advance, some r => judgeSubcode r.number expected s
  | .advance, none => s
  | .confidence, _ => s

/-- Step 2 of R66: the frame becomes the newest of its stream for the output unit, under its subcode's mark, or
NEVER without one (R145). -/
def toOutput (h : Head) (sub : Option Subcode) (c : ConcealedFrame) (s : State) : State :=
  let f : PlayFrame :=
    { pairs := c.pairs
      mark := match sub with
        | some r => r.mark
        | none => .never }
  s.setOutput { s.output with
    fresh := match h with
      | .advance => { s.output.fresh with advance := some f }
      | .confidence => { s.output.fresh with confidence := some f } }

/-- The ring once a frame is offered to it (R67). -/
def joinRing (w : FrameNo) (e : RingEntry) (ring : List RingEntry) : List RingEntry :=
  if e.number.toNat < w.toNat then ring
  else if ring.any (fun x => x.number == e.number) then
    ring.filter (fun x => x.number != e.number) ++ [e]
  else if ring.length < Config.ringCap then ring ++ [e]
  else ring.tail ++ [e]

/-- Step 3 of R66: a numbered ADVANCE frame is offered to the ring (R67). -/
def toRing (h : Head) (number : Option FrameNo) (sub : Option Subcode) (c : ConcealedFrame)
    (s : State) : State :=
  match h, number with
  | .advance, some n =>
    s.setRing (joinRing s.position.w
      { number := n, pairs := c.pairs, flags := c.flags, subcode := sub } s.ring)
  | .advance, none => s
  | .confidence, _ => s

/-- Step 4 of R66: a numbered CONFIDENCE frame confirms its entry of the written-frame list, and raises
CONFIDENCE_FAULT when it has losses (R69). -/
def toConfirm (h : Head) (number : Option FrameNo) (lost : Nat) (s : State) : State :=
  match h, number with
  | .confidence, some n =>
    if s.formatter.written.contains n then raiseIf (0 < lost) .confidenceFault (confirm n s) else s
  | .confidence, none => s
  | .advance, _ => s

/-- The report of a close to the query table, from the state the frame closed under (R70). -/
def reportOf (h : Head) (sub : Option Subcode) (q : QualityRecord) (s : State) : Report :=
  { head := h, subcode := sub, quality := q, lock := s.position.lock,
    expected := if h = .advance ∧ s.position.lock = .locked then some (expectedNumber s) else none }

/-- A new, empty frame in assembly and gathering open for the head (R25, R51). -/
def openAssembly (h : Head) (s : State) : State :=
  (s.setGathered (s.gathered.set h [])).setDecoder
    { s.decoder with assembly := s.decoder.assembly.set h Assembly.empty }

/-- A HEAD FRAME END closes the head's frame: the stages of 4.3 in order, then the hand-offs of R66. -/
def closeFrame (h : Head) (s : State) : State :=
  let a := s.decoder.assembly.get h
  let n := spf s.input.rate
  let sub := (chooseSubcode a).1
  let number := numberFrame h a sub s
  let mismatch := rateMismatch sub s.input.rate
  let samples := if mismatch then allInvalid n else frameSamples n a
  let out := concealInto h number samples (raiseIf mismatch .rateMismatch (openAssembly h s))
  let q := qualityOf h a number mismatch out.2
  reportQueries (reportOf h sub q s)
    (toConfirm h number q.lost
      (toRing h number sub out.2
        (toOutput h sub out.2
          (toPosition h sub (expectedNumber s)
            (recordQuality h q out.1)))))

/-! ## Requests -/

/-- PREREAD SETUP (R52). -/
def servePrereadSetup (p : List Byte) (s : State) : Served :=
  match p with
  | [d] =>
    if d.toNat < 1 ∨ 4 < d.toNat then turnedAway s .badValue
    else if s.formatter.state ≠ .idle ∨ s.engine.state ≠ .disarmed then turnedAway s .state
    else served (s.setDecoder { s.decoder with preread := d.toNat }) [d]
  | _ => turnedAway s .badLength

/-- QUALITY READ (R71). -/
def serveQualityRead (p : List Byte) (s : State) : Served :=
  match p with
  | [hd, start, count] =>
    match headOfCode hd with
    | none => turnedAway s .badValue
    | some h =>
      if 15 < start.toNat ∨ count.toNat < 1 ∨ 14 < count.toNat then turnedAway s .badValue
      else
        let history := s.decoder.history.get h
        let qs := (history.drop start.toNat).take count.toNat
        served s
          (be 1 history.length ++ be 4 (s.decoder.totals.get h).decoded ++ be 1 qs.length
            ++ qs.flatMap qualityBytes)
  | _ => turnedAway s .badLength

/-- Four totals in a reply (R71). -/
def totalsBytes (t : Totals) : List Byte :=
  be 4 t.decoded ++ be 4 t.lossy ++ be 4 t.interpolated ++ be 4 t.held

/-- QUALITY TOTALS (R71). -/
def serveQualityTotals (p : List Byte) (s : State) : Served :=
  match p with
  | [c] =>
    match boolOfCode c with
    | some clear =>
      served
        (if clear then s.setDecoder { s.decoder with totals := ⟨Totals.zero, Totals.zero⟩ } else s)
        (totalsBytes s.decoder.totals.advance ++ totalsBytes s.decoder.totals.confidence)
    | none => turnedAway s .badValue
  | _ => turnedAway s .badLength

end Sys2Proof.Machine
end

