-- ==== Sys2Proof/Machine/Output.lean ====
section
/-! DEFINITION. The output unit (02, 2.5): output boundaries, the effective source, play-out, and MONITOR
SELECT. -/

namespace Sys2Proof.Machine

/-- The effective source's newest frame at a boundary; AUTO follows the edit engine and the formatter (R29). -/
def effectiveFrame (s : State) : Option PlayFrame :=
  match s.output.monitor with
  | .input => s.output.fresh.input
  | .advance => s.output.fresh.advance
  | .confidence => s.output.fresh.confidence
  | .auto =>
    if s.engine.state = .active then s.output.fresh.splice
    else if s.formatter.state ≠ .idle then s.output.fresh.input
    else s.output.fresh.advance

/-- The frame chosen at a boundary; the first after a reset plays silence (R28). -/
def chosenFrame (s : State) : Option PlayFrame :=
  if s.output.unstarted then none else effectiveFrame s

/-- A boundary is due at the next sample clock: the tick's own in PLAY, and also outside it for the first boundary
after a reset, which R28 puts at the first sample clock after a tick taken in PLAY; and spf sample clocks after the
last one outside PLAY, after a reset and after a rate change (R28, R30; log 8, log 9). DESIGN CHOICE (log 37): the
count stands still at spf, so that leaving PLAY more than spf sample clocks after the last boundary makes the next
sample clock a boundary. -/
def boundaryDue (s : State) : Bool :=
  ((s.pins.transport == .play || s.output.unstarted) && s.output.tickWaiting)
    || ((s.pins.transport != .play || s.output.freeRun) && spf s.input.rate ≤ s.output.clocks)

/-- An output boundary: the frame chosen, or silence, with its status record (R28, R145). -/
def takeBoundary (s : State) : State :=
  s.setOutput { s.output with
    playing := match chosenFrame s with
      | some f => f.pairs
      | none => silence (spf s.input.rate)
    playPos := 0
    status := match chosenFrame s with
      | some f => statusFor f.mark s.input.rate
      | none => statusFor .never s.input.rate
    fresh := Fresh.none
    tickWaiting := false
    clocks := 0
    freeRun := false
    unstarted := false }

/-- A boundary that is due is taken. -/
def boundaryIfDue (s : State) : State := if boundaryDue s then takeBoundary s else s

/-- The next pair goes to the output sample port; a frame that has been played out repeats its last pair
(R28). A tick taken in PLAY whose sample clock comes outside PLAY makes no boundary but the first (log 9). -/
def playPair (s : State) : State :=
  s.setOutput { s.output with
    port := pairAt s.output.playing s.output.playPos
    playPos := satInc s.output.playing.length s.output.playPos
    clocks := satInc (spf s.input.rate) s.output.clocks
    tickWaiting := false }

/-- A WCLK edge: the converter's pair, the tick-relative count, the boundary that falls at this clock, and the
next output pair (R18, R19, R28). -/
def sampleClock (p : Pair) (s : State) : State :=
  let s' := enterPair .converter p s
  playPair (boundaryIfDue (s'.setSampleCount (satInc Config.max16 s'.sampleCount)))

/-- MONITOR SELECT (R29). -/
def serveMonitorSelect (p : List Byte) (s : State) : Served :=
  match p with
  | [m] =>
    match monitorOfCode m with
    | some monitor => served (s.setOutput { s.output with monitor }) []
    | none => turnedAway s .badValue
  | _ => turnedAway s .badLength

/-- The output unit at a change of session rate: the next boundary falls spf sample clocks after it, unless a
tick comes first (R30; log 10), and until the first boundary after a reset the status port holds the session rate
(R28). DESIGN CHOICE (log 38): a tick taken before the change whose sample clock comes after it keeps that sample
clock as a boundary, and the counted one is dropped. -/
def OutputUnit.rateChange (o : OutputUnit) (rate : Rate) : OutputUnit :=
  { o with
    clocks := 1
    freeRun := true
    status := if o.unstarted then statusFor .never rate else o.status }

/-- SOURCE SELECT is turned away with STATE (R30). -/
def rateBlocked (rate : Rate) (s : State) : Bool :=
  rate != s.input.rate && (s.formatter.state != .idle || s.engine.state != .disarmed)

/-- A change of session rate: the buffer, the cue list and the ring are emptied, the concealment records
forget, the output unit restarts its count, and the input status is re-derived (R23, R30, R68, R87, R105,
R133, R153). -/
def changeRate (rate : Rate) (s : State) : State :=
  let s1 := emptyCues (emptyBuffer s)
  let s2 := (s1.setRing []).setConceal s1.conceal.forget
  rederive ((s2.setOutput (s2.output.rateChange rate)).setInput { s2.input with rate := rate })

/-- SOURCE SELECT (R30). -/
def serveSourceSelect (p : List Byte) (s : State) : Served :=
  match p with
  | [src, r] =>
    match sourceOfCode src, rateOfCode r with
    | some source, some rate =>
      if rateBlocked rate s then turnedAway s .state
      else
        let s' := s.setInput { s.input with source := source }
        served (if rate = s.input.rate then s' else changeRate rate s') []
    | _, _ => turnedAway s .badValue
  | _ => turnedAway s .badLength

end Sys2Proof.Machine
end

