-- ==== Sys2Proof/Machine/Link.lean ====
section
/-! DEFINITION. The link unit (10) and the notice unit's requests (11): receivers, routing, the hold store, the
request queue and its service, the arbiter, both senders, PRESENT, and PART RESET. -/

namespace Sys2Proof.Machine

/-! ## PART RESET taking effect (R176) -/

/-- A frame in sending goes on after a PART RESET, its place gone (R176; log 12). -/
def Sending.outlive {α : Type} (x : Sending α) : Sending α := { x with orphan := true }

/-- The link unit after a PART RESET: A, last and S are kept, a frame being sent is sent to its end, the rest
takes the power-on values (R176). DESIGN CHOICE (log 41): the rest has the pause of service in it, also where the
reply of a served PART RESET is still being sent. -/
def LinkUnit.partReset (l : LinkUnit) : LinkUnit :=
  { LinkUnit.powerOn with
    assigned := l.assigned
    slice := l.slice
    upSending := l.upSending.map Sending.outlive
    downSending := l.downSending.map Sending.outlive }

/-- PART RESET takes effect: every block takes its reset values, the pins keep their levels (R26, R176). -/
def partResetEffect (s : State) : State :=
  (State.powerOn s.pins s.pending).setLink s.link.partReset

/-- A PART RESET that has fallen due takes effect before anything else happens (R176; log 11). -/
def settled (s : State) : State := if s.link.resetDue then partResetEffect s else s

/-! ## Replies of the link unit, and places of the hold store -/

/-- A kind that has a reply kind: 0x01 to 0x7E (R165, R168). -/
def hasReplyKind (k : Byte) : Bool := 1 ≤ k.toNat && k.toNat < 0x7F

/-- A reply to a frame with this payload (R16). -/
def replyFrame (l : LinkUnit) (kind tag : Byte) (payload : List Byte) : Frame :=
  makeFrame (partAddress l) (kind + 0x80) tag payload

/-- A reply of the link unit takes a place in the hold store and joins the own side, and the flags of the event
are set; with the store full the frame is dropped with BAD_FRAME and UP (R167, R168; log 14). DESIGN CHOICE
(log 15): the reply is ready to send before the NOTICE of the LINK_FAULT that those flags raise. -/
def linkReply (st : Status) (flags : BitVec 8) (f : Frame) (s : State) : State :=
  if Config.holdCap ≤ s.link.hold.length then setFlags (flags ||| flagBadFrame ||| flagUp) s
  else setFlags flags (s.setLink { s.link with
    hold := s.link.hold ++ [.reply]
    own := s.link.own ++ [{ kind := .linkReply,
                            frame := replyFrame s.link f.kind f.tag [st.code] }] })

/-- A frame that cannot be delivered draws NO_DECK, or is dropped when its kind has no reply kind (R165). -/
def noDeck (f : Frame) (s : State) : State :=
  if hasReplyKind f.kind then linkReply .noDeck 0 f s else setFlags (flagBadKind ||| flagUp) s

/-- An addressed frame for a part below: into the hold store when PRESENT is high, else NO_DECK (R165,
R167). -/
def forwardAddressed (f : Frame) (s : State) : State :=
  if s.pins.present then
    if Config.holdCap ≤ s.link.hold.length then setFlags (flagBadFrame ||| flagUp) s
    else s.setLink { s.link with hold := s.link.hold ++ [.forward f] }
  else noDeck f s

/-! ## Taking a request (R168) -/

/-- A taken frame is judged for kind, length and room, and queued or answered (R168). -/
def takeFrame (f : Frame) (s : State) : State :=
  if !hasReplyKind f.kind then setFlags (flagBadKind ||| flagUp) s
  else match kindOfByte f.kind with
    | none => linkReply .badKind (flagBadKind ||| flagUp) f s
    | some k =>
      if f.payload.length ≠ k.length then linkReply .badLength (flagBadLength ||| flagUp) f s
      else if Config.requestCap ≤ s.link.requests.length then linkReply .busy 0 f s
      else s.setLink { s.link with
        requests := s.link.requests ++
          [{ kind := k, tag := f.tag, payload := f.payload, served := false }] }

/-! ## Requests of the link unit and the notice unit -/

/-- Assigned, A and last in a reply (R172, R175). -/
def assignmentBytes (l : LinkUnit) : List Byte :=
  match l.assigned with
  | some a => [1, BitVec.ofNat 8 a.a, BitVec.ofNat 8 a.last]
  | none => [0, 0, 0]

/-- PROBE (R175). -/
def serveProbe (p : List Byte) (s : State) : Served :=
  match p with
  | [] => served s ([0x48, 0x24, 0x01] ++ assignmentBytes s.link ++ bit s.pins.present)
  | _ => turnedAway s .badLength

/-- ASSIGN (R174). -/
def serveAssign (p : List Byte) (s : State) : Served :=
  match p with
  | [a, last] =>
    if a.toNat < 1 ∨ 30 < a.toNat ∨ last.toNat < a.toNat ∨ 30 < last.toNat then
      turnedAway s .badValue
    else
      served (s.setLink { s.link with assigned := some { a := a.toNat, last := last.toNat } })
        [a, last]
  | _ => turnedAway s .badLength

/-- LINK STATUS (R172). -/
def serveLinkStatus (p : List Byte) (s : State) : Served :=
  match p with
  | [mask] =>
    served (s.setLink { s.link with flags := s.link.flags &&& ~~~mask })
      ([s.link.flags] ++ assignmentBytes s.link ++ be 1 s.link.slice ++ bit s.pins.present
        ++ be 1 s.link.requests.length ++ be 1 s.link.forward.length
        ++ be 1 s.link.hold.length)
  | _ => turnedAway s .badLength

/-- LINK SETUP (R173). -/
def serveLinkSetup (p : List Byte) (s : State) : Served :=
  match p with
  | [b] =>
    if b.toNat < 1 ∨ 8 < b.toNat then turnedAway s .badValue
    else served (s.setLink { s.link with slice := b.toNat }) [b]
  | _ => turnedAway s .badLength

/-- PART RESET: answered DONE, and service pauses until the reply has been sent (R169, R176). -/
def servePartReset (p : List Byte) (s : State) : Served :=
  match p with
  | [] => served (s.setLink { s.link with paused := true }) []
  | _ => turnedAway s .badLength

/-- A set of causes in 3 bytes (1.7, NOTICE payload). -/
def causeSetBytes (set : BitVec 24) : List Byte := be 3 set.toNat

/-- The notice unit after a NOTICE SETUP (R180). -/
def NoticeUnit.setup (n : NoticeUnit) (c : Cause) (prio : BitVec 4) (enable : Bool) : NoticeUnit :=
  { n with
    priority := n.priority.set (causeIndex c) prio
    enabled := if enable then n.enabled ||| causeBit c else n.enabled &&& ~~~(causeBit c) }

/-- NOTICE SETUP (R180); the unit evaluates once the reply is formed. -/
def serveNoticeSetup (p : List Byte) (s : State) : Served :=
  match p with
  | [c, prio, en] =>
    match causeOfCode c.toNat, boolOfCode en with
    | some cause, some enable =>
      if 15 < prio.toNat then turnedAway s .badValue
      else
        { state := s.setNotice (s.notice.setup cause (prio.setWidth 4) enable)
          reply := Status.done.code :: [c, prio, en]
          evaluates := true }
    | _, _ => turnedAway s .badValue
  | _ => turnedAway s .badLength

/-- NOTICE CLEAR (R181); the unit evaluates once the reply is formed. -/
def serveNoticeClear (p : List Byte) (s : State) : Served :=
  match p with
  | [a, b, c] =>
    if 262144 ≤ ofBe [a, b, c] then turnedAway s .badValue
    else
      let pending := s.notice.pending &&& ~~~(BitVec.ofNat 24 (ofBe [a, b, c]))
      { state := s.setNotice { s.notice with pending := pending, lr := -1 }
        reply := Status.done.code :: causeSetBytes pending
        evaluates := true }
  | _ => turnedAway s .badLength

/-- Lr in a reply: 0xFF for −1 (R180). -/
def lrByte (lr : Int) : Byte := if lr < 0 then 0xFF else BitVec.ofNat 8 lr.toNat

/-- NOTICE READ (R180). -/
def serveNoticeRead (p : List Byte) (s : State) : Served :=
  match p with
  | [] =>
    served s (causeSetBytes s.notice.pending ++ causeSetBytes s.notice.enabled
      ++ [lrByte s.notice.lr] ++ allCauses.map (fun c => BitVec.ofNat 8 (s.notice.priorityOf c)))
  | _ => turnedAway s .badLength

/-! ## Service of the request queue (R169) -/

/-- The oldest request not yet served. -/
def nextRequest (l : LinkUnit) : Option LinkRequest := l.requests.find? (fun r => !r.served)

/-- The queue with its oldest request not yet served marked served. -/
def markServed : List LinkRequest → List LinkRequest
  | [] => []
  | r :: rest => if r.served then r :: markServed rest else { r with served := true } :: rest

/-- A request is served: its effect, then its reply on the own side, then the evaluation where its rule asks
for one (R16, R169, R180, R181). -/
def serveRequest (serve : List Byte → State → Served) (r : LinkRequest) (s : State) : State :=
  let out := serve r.payload s
  let l := out.state.link
  let t := out.state.setLink { l with
    requests := markServed l.requests
    own := l.own ++ [{ kind := .service, frame := replyFrame l r.kind.code r.tag out.reply }] }
  if out.evaluates then evaluate t else t

/-- The service of a kind's request: it happens when the oldest request not yet served is of that kind and no
PART RESET pauses service; otherwise nothing comes up for this service (R169; log 2). -/
def service (kind : RequestKind) (serve : List Byte → State → Served) (s : State) : State :=
  match nextRequest s.link with
  | none => s
  | some r => if r.kind = kind ∧ s.link.paused = false then serveRequest serve r s else s

/-! ## Broadcasts (R166) -/

/-- What the service of a broadcast leaves: its effect, and no reply. -/
def Served.silent (out : Served) : State := if out.evaluates then evaluate out.state else out.state

/-- A broadcast of the right length is served on arrival by the owning rule (R166). A PART RESET's effect is
that of `broadcastFrame`. -/
def serveBroadcast (k : RequestKind) (p : List Byte) (s : State) : State :=
  match k with
  | .sourceSelect => (serveSourceSelect p s).silent
  | .monitorSelect => (serveMonitorSelect p s).silent
  | .recordStart => (serveRecordStart p s).silent
  | .recordStop => (serveRecordStop p s).silent
  | .editArm => (serveEditArm p s).silent
  | .editDisarm => (serveEditDisarm p s).silent
  | .editAbort => (serveEditAbort p s).silent
  | .noticeClear => (serveNoticeClear p s).silent
  | .partReset | .probe | .assign | .linkStatus | .linkSetup | .noticeSetup | .noticeRead
  | .inputStatusRead | .recordStatus | .lineageSetup | .concealSetup | .qualityRead
  | .qualityTotals | .prereadSetup | .positionRead | .gpiSetup | .markRead | .cueAdd | .cueRemove
  | .cueRead | .spliceLogRead | .editSetup | .lineageStatus | .refusalListRead | .tapeQuery
  | .queryCancel | .querySetup => s

/-- A PART RESET falls due. -/
def fallDue (s : State) : State := s.setLink { s.link with resetDue := true }

/-- A copy of a broadcast is placed in the hold store (R166, R167). -/
def holdCopy (f : Frame) (s : State) : State :=
  s.setLink { s.link with hold := s.link.hold ++ [.forward f] }

/-- A broadcast finds a place for its copy: PRESENT is high and the hold store has room. -/
def hasCopy (s : State) : Bool := s.pins.present && s.link.hold.length < Config.holdCap

/-- The flags of a broadcast's event: BAD_FRAME when its copy is dropped for want of room, BAD_LENGTH when its
LENGTH is wrong, each with UP (R166, R167). -/
def broadcastFlags (k : RequestKind) (f : Frame) (s : State) : BitVec 8 :=
  (if s.pins.present && !(hasCopy s) then flagBadFrame ||| flagUp else 0)
    ||| (if f.payload.length ≠ k.length then flagBadLength ||| flagUp else 0)

/-- A broadcast of a kind in the broadcast set: the copy is placed, the event's flags are set, and the part takes
the frame for itself; a PART RESET falls due at once when no copy goes downstream (R166; log 24). -/
def broadcastFrame (k : RequestKind) (f : Frame) (s : State) : State :=
  let t := setFlags (broadcastFlags k f s) (if hasCopy s then holdCopy f s else s)
  if f.payload.length ≠ k.length then t
  else if k = .partReset then (if hasCopy s then t else fallDue t)
  else serveBroadcast k f.payload t

/-- A frame addressed to 31 (R166). -/
def broadcast (f : Frame) (s : State) : State :=
  match kindOfByte f.kind with
  | some k => if k.broadcast then broadcastFrame k f s else setFlags (flagBadKind ||| flagUp) s
  | none => setFlags (flagBadKind ||| flagUp) s

/-! ## Whole frames -/

/-- An addressed frame at an assigned part (R165). -/
def routeAssigned (a : Assignment) (f : Frame) (s : State) : State :=
  if f.address.toNat = 0 then forwardAddressed f s
  else if f.address.toNat = a.a then takeFrame f s
  else if a.a < f.address.toNat ∧ f.address.toNat ≤ a.last then forwardAddressed f s
  else noDeck f s

/-- A whole frame from upstream, by its ADDRESS (R165). -/
def fromUpstream (f : Frame) (s : State) : State :=
  if f.address.toNat = 31 then broadcast f s
  else match s.link.assigned with
    | some a => routeAssigned a f s
    | none => if f.address.toNat = 0 then takeFrame f s else noDeck f s

/-- A whole frame from downstream joins the forward buffer, or is dropped when it is full (R164). -/
def fromDownstream (f : Frame) (s : State) : State :=
  if Config.forwardCap ≤ s.link.forward.length then setFlags (flagBadFrame ||| flagDown) s
  else s.setLink { s.link with forward := s.link.forward ++ [f] }

/-! ## Receivers (R163) -/

/-- What a byte brings a receiver to. -/
inductive Received where
  | nothing
  | broken
  | badCheck
  | whole (f : Frame)
  deriving DecidableEq, Repr

/-- The frame that the gathered bytes from ADDRESS to CHECK spell, judged by its CHECK (R15, R163). -/
def judgeFrame (bytes : List Byte) : Received :=
  match bytes with
  | a :: k :: t :: _ :: rest =>
    let f : Frame := { address := a, kind := k, tag := t, payload := rest.dropLast,
                       check := (rest.getLast?).getD 0 }
    if crc8 bytes.dropLast = f.check then .whole f else .badCheck
  | _ => .broken

/-- The gathered bytes reach from ADDRESS to CHECK (R15). -/
def isGathered (bytes : List Byte) : Bool :=
  match bytes with
  | _ :: _ :: _ :: len :: rest => rest.length == len.toNat + 1
  | _ => false

/-- The byte just taken breaks the frame: an ADDRESS above 31 or a LENGTH above 240 (R163). -/
def isBroken (bytes : List Byte) : Bool :=
  match bytes with
  | [a] => 31 < a.toNat
  | [_, _, _, len] => 240 < len.toNat
  | _ => false

/-- A receiver takes a byte (R163). -/
def receive (r : Receiver) (b : Byte) : Receiver × Received :=
  match r with
  | .hunting => (if b = 0x5A then .gathering [] else .hunting, .nothing)
  | .gathering bytes =>
    let bs := bytes ++ [b]
    if isBroken bs then (.hunting, .broken)
    else if isGathered bs then (.hunting, judgeFrame bs)
    else (.gathering bs, .nothing)

/-- A port's receiver. -/
def LinkUnit.receiver (l : LinkUnit) : Side → Receiver
  | .up => l.upReceiver
  | .down => l.downReceiver

/-- The state with a port's receiver replaced. -/
def setReceiver (side : Side) (r : Receiver) (s : State) : State :=
  match side with
  | .up => s.setLink { s.link with upReceiver := r }
  | .down => s.setLink { s.link with downReceiver := r }

/-- What the part does with what a receiver brings (R163 to R165). -/
def onReceived (side : Side) (x : Received) (s : State) : State :=
  match x with
  | .nothing => s
  | .broken => setFlags (flagBadFrame ||| sideFlag side) s
  | .badCheck => setFlags (flagBadCheck ||| sideFlag side) s
  | .whole f =>
    match side with
    | .up => fromUpstream f s
    | .down => fromDownstream f s

/-- One byte comes on a port's line; a PART RESET due from the byte before takes effect first. -/
def takeByte (side : Side) (s : State) (b : Byte) : State :=
  let t := settled s
  let out := receive (t.link.receiver side) b
  onReceived side out.2 (setReceiver side out.1 t)

/-- Bytes come on a port's line (R163; log 22). -/
def takeBytes (side : Side) (bytes : List Byte) (s : State) : State := bytes.foldl (takeByte side) s

/-- More than 100 µs pass between bytes: a frame being gathered is broken (R163). -/
def byteGap (side : Side) (s : State) : State :=
  match s.link.receiver side with
  | .hunting => s
  | .gathering _ => onReceived side .broken (setReceiver side .hunting s)

/-! ## The upstream arbiter and sender (R169, R170) -/

/-- The arbiter's choice (R170). -/
def arbChoice (l : LinkUnit) : Option ArbSide :=
  match l.own, l.forward with
  | [], [] => none
  | _ :: _, [] => some .own
  | [], _ :: _ => some .forward
  | _ :: _, _ :: _ =>
    if l.runCount < l.slice then some l.lastSide
    else some (match l.lastSide with
      | .own => .forward
      | .forward => .own)

/-- The last side and the run count after a choice (R170). -/
def LinkUnit.countRun (l : LinkUnit) (side : ArbSide) : LinkUnit :=
  if side = l.lastSide then { l with runCount := satInc 8 l.runCount }
  else { l with lastSide := side, runCount := 1 }

/-- The oldest waiting frame of a side starts; a frame of the forward buffer keeps its place until it is sent
(R164, R170). -/
def LinkUnit.startUp (l : LinkUnit) (side : ArbSide) : LinkUnit :=
  match side, l.own, l.forward with
  | .own, o :: rest, _ =>
    { l.countRun .own with own := rest, upSending := some { frame := .own o, orphan := false } }
  | .forward, _, f :: _ =>
    { l.countRun .forward with upSending := some { frame := .forward f, orphan := false } }
  | .own, [], _ => l
  | .forward, _, [] => l

/-- The upstream sender starts its next frame, when it is between frames, UHLDI is released and a frame waits
(R162, R170). -/
def arbitrate (s : State) : State :=
  if s.link.upSending = none ∧ s.pins.upHold = false then
    match arbChoice s.link with
    | some side => s.setLink (s.link.startUp side)
    | none => s
  else s

/-- The flags that the last byte of a reply of the link unit sets (R171). -/
def sentFlags (f : Frame) : BitVec 8 :=
  if f.payload = [Status.noDeck.code] then flagNoDeckSent ||| flagUp else flagErrorSent ||| flagUp

/-- The place of a frame sent upstream is freed, unless a PART RESET has emptied it (R164, R167, R169,
R176). -/
def freeUp (x : Sending UpFrame) (l : LinkUnit) : LinkUnit :=
  if x.orphan then l
  else match x.frame with
    | .forward _ => { l with forward := l.forward.tail }
    | .own o =>
      match o.kind with
      | .service => { l with requests := l.requests.tail }
      | .linkReply => { l with hold := l.hold.erase .reply }
      | .notice => l

/-- The last byte of a frame is sent upstream: its place is freed, the flags of a link unit's reply are set, and
a PART RESET whose reply it was falls due (R169, R171, R176). -/
def upSent (s : State) : State :=
  match s.link.upSending with
  | none => s
  | some x =>
    let t := s.setLink { freeUp x s.link with upSending := none }
    match x.frame with
    | .forward _ => t
    | .own o =>
      match o.kind with
      | .notice => t
      | .linkReply => setFlags (sentFlags o.frame) t
      | .service => if o.frame.kind = RequestKind.partReset.code + 0x80 then fallDue t else t

/-! ## The downstream sender and PRESENT (R167) -/

/-- The oldest frame of the hold store to be forwarded. -/
def firstForward : List HoldSlot → Option Frame
  | [] => none
  | .forward f :: _ => some f
  | .reply :: rest => firstForward rest

/-- The hold store without its oldest frame to be forwarded. -/
def dropForward : List HoldSlot → List HoldSlot
  | [] => []
  | .forward _ :: rest => rest
  | .reply :: rest => .reply :: dropForward rest

/-- The downstream sender starts its next frame, when it is between frames and DHLDI is released (R162,
R167). -/
def startDown (s : State) : State :=
  if s.link.downSending = none ∧ s.pins.downHold = false then
    match firstForward s.link.hold with
    | some f => s.setLink { s.link with downSending := some { frame := f, orphan := false } }
    | none => s
  else s

/-- The frame is the copy of a broadcast PART RESET that this part takes for itself (R166). -/
def isResetCopy (f : Frame) : Bool :=
  f.address.toNat == 31 && f.kind == RequestKind.partReset.code && f.payload.isEmpty

/-- The last byte of a frame is sent downstream: its place is freed, and a broadcast PART RESET falls due
(R166, R167, R176). -/
def downSent (s : State) : State :=
  match s.link.downSending with
  | none => s
  | some x =>
    let t := s.setLink { s.link with
      downSending := none
      hold := if x.orphan then s.link.hold else dropForward s.link.hold }
    if isResetCopy x.frame then fallDue t else t

/-- What a fall of PRESENT makes of the hold store: the slots after it, the NO_DECK replies in order, whether a
frame was dropped for its kind, and whether a PART RESET's copy was dropped (R165 to R167). -/
structure Fall where
  hold : List HoldSlot
  replies : List OwnFrame
  badKind : Bool
  resetDropped : Bool

/-- One waiting frame of the hold store at a fall of PRESENT, before the slots that follow it. -/
def Fall.meet (l : LinkUnit) (f : Frame) (rest : Fall) : Fall :=
  if f.address.toNat = 31 then { rest with resetDropped := isResetCopy f || rest.resetDropped }
  else if hasReplyKind f.kind then
    { rest with
      hold := .reply :: rest.hold
      replies := { kind := .linkReply,
                   frame := replyFrame l f.kind f.tag [Status.noDeck.code] } :: rest.replies }
  else { rest with badKind := true }

/-- The hold store at a fall of PRESENT; `sending` says that its oldest frame to be forwarded is being sent, and
so is sent to its end (R167). -/
def fallHold (l : LinkUnit) : Bool → List HoldSlot → Fall
  | _, [] => { hold := [], replies := [], badKind := false, resetDropped := false }
  | sending, .reply :: rest =>
    let x := fallHold l sending rest
    { x with hold := .reply :: x.hold }
  | true, .forward f :: rest =>
    let x := fallHold l false rest
    { x with hold := .forward f :: x.hold }
  | false, .forward f :: rest => Fall.meet l f (fallHold l false rest)

/-- The hold store's own frame is being sent downstream. -/
def isSendingDown (l : LinkUnit) : Bool :=
  match l.downSending with
  | some x => !x.orphan
  | none => false

/-- A fall of PRESENT (R165 to R167). DESIGN CHOICE (log 15): its NO_DECK replies are ready to send before the NOTICE
of the LINK_FAULT that a dropped frame raises. -/
def presentFall (s : State) : State :=
  let x := fallHold s.link (isSendingDown s.link) s.link.hold
  let t := s.setLink { s.link with hold := x.hold, own := s.link.own ++ x.replies }
  let u := if x.badKind then setFlags (flagBadKind ||| flagUp) t else t
  if x.resetDropped then fallDue u else u

/-- The DPRES pin takes a level; a rise, or no change, changes nothing else (R167). -/
def presentChange (high : Bool) (s : State) : State :=
  let t := s.setPins { s.pins with present := high }
  if s.pins.present && !high then presentFall t else t

/-- UHLDI or DHLDI takes a level (R162). -/
def holdChange (side : Side) (asserted : Bool) (s : State) : State :=
  match side with
  | .up => s.setPins { s.pins with upHold := asserted }
  | .down => s.setPins { s.pins with downHold := asserted }

end Sys2Proof.Machine
end

