-- ==== Sys2Proof/Machine/Events.lean ====
section
/-! DEFINITION. The meanings of the event commands: resets, sample ports, channel, ticks, console and link. A
PART RESET that has fallen due takes effect first (`settled`). -/

namespace Sys2Proof.Machine

/-- The answer of a command: a next state. -/
abbrev Answer := Host.Outcome State Fault Refusal

/-! ## The frame tick -/

/-- A tick in PLAY reaches the blocks in this order: the frame still in emission counts as written; position
unit, with the requests for the engine taken from their queues; LEVEL requests; input unit and lineage guard;
query table; formatter; edit engine; output unit (R26, R27; log 6, log 16). -/
def tickInPlay (gpiLow : BitVec 4) (s : State) : State :=
  let s1 := frameWritten s
  let s2 := levelRequests gpiLow (positionTick (clearHanded s1))
  let s3 := engineTick (handedRequests s1) (formatterTick (queryTick (captureTick s2)))
  s3.setOutput { s3.output with tickWaiting := true }

/-- A frame tick; outside PLAY it is ignored (R26, R88). -/
def frameTick (gpiLow : BitVec 4) (s : State) : State :=
  if s.pins.transport = .play then tickInPlay gpiLow s else s

/-! ## The transport -/

/-- The transport leaves PLAY (R23, R26, R27, R44, R94, R129; order: log 36). -/
def leavePlay (s : State) : State := transportAbort (lockLoss (recordingTransport (emptyBuffer s)))

/-- The TSTATE pins change; the level they already had is no change (R26, R103; log 19). -/
def transportChange (t : Transport) (s : State) : State :=
  if t = s.pins.transport then s
  else
    let s1 := s.setPins { s.pins with transport := t }
    let s2 := if s.pins.transport = .play then leavePlay s1 else s1
    if t = .stopped then clearOnStop s2 else s2

/-! ## The receiver port -/

/-- The lock indication takes a level, and the class is re-derived (R133). -/
def lockIndication (active : Bool) (s : State) : State :=
  rederive (s.setPins { s.pins with locked := active })

/-- A status arrival (R133). -/
def statusArrival (a : StatusArrival) (s : State) : State :=
  rederive (s.setLineage { s.lineage with arrival := some a, absence := 0 })

/-! ## Meanings -/

/-- POWER_ON_RESET (R176): every block takes its power-on values; the pins keep their present levels (R26). -/
def execPowerOnReset (s : State) : Answer := .next (State.powerOn s.pins s.pending)

/-- PART_RESET_EFFECT (R176): a PART RESET that has fallen due takes effect. -/
def execPartResetEffect (s : State) : Answer := .next (settled s)

/-- SAMPLE_CLOCK (R18, R19, R28). -/
def execSampleClock (p : Pair) (s : State) : Answer := .next (sampleClock p (settled s))

/-- OUTPUT_BOUNDARY (R28). -/
def execOutputBoundary (s : State) : Answer := .next (boundaryIfDue (settled s))

/-- RECEIVER_PAIR_STROBE (R20): the pair enters only while the lock indication is active. -/
def execReceiverPairStrobe (p : Pair) (s : State) : Answer :=
  .next (if (settled s).pins.locked then enterPair .digital p (settled s) else settled s)

/-- LOCK_INDICATION_CHANGE (R133). -/
def execLockIndicationChange (active : Bool) (s : State) : Answer :=
  .next (lockIndication active (settled s))

/-- STATUS_ARRIVAL (R133). -/
def execStatusArrival (a : StatusArrival) (s : State) : Answer := .next (statusArrival a (settled s))

/-- BLOCK_ARRIVAL (R25, R53). -/
def execBlockArrival (h : Head) (bytes : List Byte) (s : State) : Answer :=
  .next (blockArrival h bytes (settled s))

/-- HEAD_FRAME_END (R25, R55 to R70). -/
def execHeadFrameEnd (h : Head) (s : State) : Answer := .next (closeFrame h (settled s))

/-- TRANSPORT_STATE (R26). -/
def execTransportState (t : Transport) (s : State) : Answer := .next (transportChange t (settled s))

/-- FRAME_TICK (R88). -/
def execFrameTick (gpiLow : BitVec 4) (s : State) : Answer := .next (frameTick gpiLow (settled s))

/-- ABSENCE_COUNT_EXPIRY (R134; log 7). -/
def execAbsenceCountExpiry (s : State) : Answer := .next (absenceExpiry (settled s))

/-- QUERY_WAIT_EXPIRY (R156; log 7). -/
def execQueryWaitExpiry (s : State) : Answer := .next (expireQueries (settled s))

/-- QUERY_DISCARD (R157; log 7). -/
def execQueryDiscard (s : State) : Answer := .next (discardQueries (settled s))

/-- FRAME_WRITTEN (R41). -/
def execFrameWritten (s : State) : Answer := .next (frameWritten (settled s))

/-- GPI_FALLING_EDGE (R99). -/
def execGpiFallingEdge (line : Fin 4) (s : State) : Answer := .next (fallingEdge line (settled s))

/-- FRAME_RECEIVED_UPSTREAM (R163, R165). -/
def execFrameReceivedUpstream (bytes : List Byte) (s : State) : Answer :=
  .next (takeBytes .up bytes (settled s))

/-- LINK_BYTE_GAP_TIMEOUT (R163). -/
def execLinkByteGapTimeout (side : Side) (s : State) : Answer := .next (byteGap side (settled s))

/-- FRAME_RECEIVED_DOWNSTREAM (R163, R164). -/
def execFrameReceivedDownstream (bytes : List Byte) (s : State) : Answer :=
  .next (takeBytes .down bytes (settled s))

/-- ARBITER_CHOICE (R170). -/
def execArbiterChoice (s : State) : Answer := .next (arbitrate (settled s))

/-- UPSTREAM_FRAME_SENT (R169). -/
def execUpstreamFrameSent (s : State) : Answer := .next (upSent (settled s))

/-- DOWNSTREAM_SEND (R167). -/
def execDownstreamSend (s : State) : Answer := .next (startDown (settled s))

/-- DOWNSTREAM_FRAME_SENT (R167). -/
def execDownstreamFrameSent (s : State) : Answer := .next (downSent (settled s))

/-- HOLD_INPUT_CHANGE (R162). -/
def execHoldInputChange (side : Side) (asserted : Bool) (s : State) : Answer :=
  .next (holdChange side asserted (settled s))

/-- PRESENT_CHANGE (R167). -/
def execPresentChange (high : Bool) (s : State) : Answer := .next (presentChange high (settled s))

/-- BROKEN_FRAME (R163): the bytes that a receiver takes, up to the one that breaks the frame. -/
def execBrokenFrame (side : Side) (bytes : List Byte) (s : State) : Answer :=
  .next (takeBytes side bytes (settled s))

end Sys2Proof.Machine
end

