-- ==== Sys2Proof/Machine/Requests.lean ====
section
/-! DEFINITION. The meanings of the request commands: each is the service of the oldest request not yet served,
when it is of that kind (R169; log 2), by its owning rule. -/

namespace Sys2Proof.Machine

/-- PART_RESET (R176). -/
def execPartReset (s : State) : Answer := .next (service .partReset servePartReset (settled s))

/-- PROBE (R175). -/
def execProbe (s : State) : Answer := .next (service .probe serveProbe (settled s))

/-- ASSIGN (R174). -/
def execAssign (s : State) : Answer := .next (service .assign serveAssign (settled s))

/-- LINK_STATUS (R172). -/
def execLinkStatus (s : State) : Answer := .next (service .linkStatus serveLinkStatus (settled s))

/-- LINK_SETUP (R173). -/
def execLinkSetup (s : State) : Answer := .next (service .linkSetup serveLinkSetup (settled s))

/-- NOTICE_SETUP (R180). -/
def execNoticeSetup (s : State) : Answer := .next (service .noticeSetup serveNoticeSetup (settled s))

/-- NOTICE_CLEAR (R181). -/
def execNoticeClear (s : State) : Answer := .next (service .noticeClear serveNoticeClear (settled s))

/-- NOTICE_READ (R180). -/
def execNoticeRead (s : State) : Answer := .next (service .noticeRead serveNoticeRead (settled s))

/-- SOURCE_SELECT (R30). -/
def execSourceSelect (s : State) : Answer := .next (service .sourceSelect serveSourceSelect (settled s))

/-- MONITOR_SELECT (R29). -/
def execMonitorSelect (s : State) : Answer := .next (service .monitorSelect serveMonitorSelect (settled s))

/-- INPUT_STATUS_READ (R31). -/
def execInputStatusRead (s : State) : Answer := .next (service .inputStatusRead serveInputStatusRead (settled s))

/-- RECORD_START (R34). -/
def execRecordStart (s : State) : Answer := .next (service .recordStart serveRecordStart (settled s))

/-- RECORD_STOP (R42). -/
def execRecordStop (s : State) : Answer := .next (service .recordStop serveRecordStop (settled s))

/-- RECORD_STATUS (R49). -/
def execRecordStatus (s : State) : Answer := .next (service .recordStatus serveRecordStatus (settled s))

/-- LINEAGE_SETUP (R146). -/
def execLineageSetup (s : State) : Answer := .next (service .lineageSetup serveLineageSetup (settled s))

/-- CONCEAL_SETUP (R86). -/
def execConcealSetup (s : State) : Answer := .next (service .concealSetup serveConcealSetup (settled s))

/-- QUALITY_READ (R71). -/
def execQualityRead (s : State) : Answer := .next (service .qualityRead serveQualityRead (settled s))

/-- QUALITY_TOTALS (R71). -/
def execQualityTotals (s : State) : Answer := .next (service .qualityTotals serveQualityTotals (settled s))

/-- PREREAD_SETUP (R52). -/
def execPrereadSetup (s : State) : Answer := .next (service .prereadSetup servePrereadSetup (settled s))

/-- POSITION_READ (R97). -/
def execPositionRead (s : State) : Answer := .next (service .positionRead servePositionRead (settled s))

/-- GPI_SETUP (R98). -/
def execGpiSetup (s : State) : Answer := .next (service .gpiSetup serveGpiSetup (settled s))

/-- MARK_READ (R102). -/
def execMarkRead (s : State) : Answer := .next (service .markRead serveMarkRead (settled s))

/-- CUE_ADD (R106). -/
def execCueAdd (s : State) : Answer := .next (service .cueAdd serveCueAdd (settled s))

/-- CUE_REMOVE (R107). -/
def execCueRemove (s : State) : Answer := .next (service .cueRemove serveCueRemove (settled s))

/-- CUE_READ (R108). -/
def execCueRead (s : State) : Answer := .next (service .cueRead serveCueRead (settled s))

/-- EDIT_ARM (R110). -/
def execEditArm (s : State) : Answer := .next (service .editArm serveEditArm (settled s))

/-- EDIT_DISARM (R113). -/
def execEditDisarm (s : State) : Answer := .next (service .editDisarm serveEditDisarm (settled s))

/-- EDIT_ABORT (R130). -/
def execEditAbort (s : State) : Answer := .next (service .editAbort serveEditAbort (settled s))

/-- SPLICE_LOG_READ (R132). -/
def execSpliceLogRead (s : State) : Answer := .next (service .spliceLogRead serveSpliceLogRead (settled s))

/-- EDIT_SETUP (R113). -/
def execEditSetup (s : State) : Answer := .next (service .editSetup serveEditSetup (settled s))

/-- LINEAGE_STATUS (R147). -/
def execLineageStatus (s : State) : Answer := .next (service .lineageStatus serveLineageStatus (settled s))

/-- REFUSAL_LIST_READ (R144). -/
def execRefusalListRead (s : State) : Answer := .next (service .refusalListRead serveRefusalListRead (settled s))

/-- TAPE_QUERY (R150 to R152). -/
def execTapeQuery (s : State) : Answer := .next (service .tapeQuery serveTapeQuery (settled s))

/-- QUERY_CANCEL (R158). -/
def execQueryCancel (s : State) : Answer := .next (service .queryCancel serveQueryCancel (settled s))

/-- QUERY_SETUP (R159). -/
def execQuerySetup (s : State) : Answer := .next (service .querySetup serveQuerySetup (settled s))

end Sys2Proof.Machine
end

