-- ==== Sys2Proof/Machine/Dispatch.lean ====
section
/-! DEFINITION. The dispatcher: one arm per command, each one call of its meaning. -/

namespace Sys2Proof.Machine

/-- The effect of a command on the part (everything but the queue of waiting commands). -/
def exec (i : Instr) (s : State) : Host.Outcome State Fault Refusal :=
  match i with
  | .powerOnReset => Sys2Proof.Machine.execPowerOnReset s
  | .partReset => Sys2Proof.Machine.execPartReset s
  | .partResetEffect => Sys2Proof.Machine.execPartResetEffect s
  | .sampleClock p => Sys2Proof.Machine.execSampleClock p s
  | .outputBoundary => Sys2Proof.Machine.execOutputBoundary s
  | .receiverPairStrobe p => Sys2Proof.Machine.execReceiverPairStrobe p s
  | .lockIndicationChange active => Sys2Proof.Machine.execLockIndicationChange active s
  | .statusArrival a => Sys2Proof.Machine.execStatusArrival a s
  | .blockArrival head bytes => Sys2Proof.Machine.execBlockArrival head bytes s
  | .headFrameEnd head => Sys2Proof.Machine.execHeadFrameEnd head s
  | .transportState t => Sys2Proof.Machine.execTransportState t s
  | .frameTick gpiLow => Sys2Proof.Machine.execFrameTick gpiLow s
  | .absenceCountExpiry => Sys2Proof.Machine.execAbsenceCountExpiry s
  | .queryWaitExpiry => Sys2Proof.Machine.execQueryWaitExpiry s
  | .queryDiscard => Sys2Proof.Machine.execQueryDiscard s
  | .frameWritten => Sys2Proof.Machine.execFrameWritten s
  | .gpiFallingEdge line => Sys2Proof.Machine.execGpiFallingEdge line s
  | .frameReceivedUpstream bytes => Sys2Proof.Machine.execFrameReceivedUpstream bytes s
  | .linkByteGapTimeout side => Sys2Proof.Machine.execLinkByteGapTimeout side s
  | .frameReceivedDownstream bytes => Sys2Proof.Machine.execFrameReceivedDownstream bytes s
  | .arbiterChoice => Sys2Proof.Machine.execArbiterChoice s
  | .upstreamFrameSent => Sys2Proof.Machine.execUpstreamFrameSent s
  | .downstreamSend => Sys2Proof.Machine.execDownstreamSend s
  | .downstreamFrameSent => Sys2Proof.Machine.execDownstreamFrameSent s
  | .holdInputChange side asserted => Sys2Proof.Machine.execHoldInputChange side asserted s
  | .presentChange high => Sys2Proof.Machine.execPresentChange high s
  | .probe => Sys2Proof.Machine.execProbe s
  | .assign => Sys2Proof.Machine.execAssign s
  | .linkStatus => Sys2Proof.Machine.execLinkStatus s
  | .linkSetup => Sys2Proof.Machine.execLinkSetup s
  | .noticeSetup => Sys2Proof.Machine.execNoticeSetup s
  | .noticeClear => Sys2Proof.Machine.execNoticeClear s
  | .noticeRead => Sys2Proof.Machine.execNoticeRead s
  | .sourceSelect => Sys2Proof.Machine.execSourceSelect s
  | .monitorSelect => Sys2Proof.Machine.execMonitorSelect s
  | .inputStatusRead => Sys2Proof.Machine.execInputStatusRead s
  | .recordStart => Sys2Proof.Machine.execRecordStart s
  | .recordStop => Sys2Proof.Machine.execRecordStop s
  | .recordStatus => Sys2Proof.Machine.execRecordStatus s
  | .lineageSetup => Sys2Proof.Machine.execLineageSetup s
  | .concealSetup => Sys2Proof.Machine.execConcealSetup s
  | .qualityRead => Sys2Proof.Machine.execQualityRead s
  | .qualityTotals => Sys2Proof.Machine.execQualityTotals s
  | .prereadSetup => Sys2Proof.Machine.execPrereadSetup s
  | .positionRead => Sys2Proof.Machine.execPositionRead s
  | .gpiSetup => Sys2Proof.Machine.execGpiSetup s
  | .markRead => Sys2Proof.Machine.execMarkRead s
  | .cueAdd => Sys2Proof.Machine.execCueAdd s
  | .cueRemove => Sys2Proof.Machine.execCueRemove s
  | .cueRead => Sys2Proof.Machine.execCueRead s
  | .editArm => Sys2Proof.Machine.execEditArm s
  | .editDisarm => Sys2Proof.Machine.execEditDisarm s
  | .editAbort => Sys2Proof.Machine.execEditAbort s
  | .spliceLogRead => Sys2Proof.Machine.execSpliceLogRead s
  | .editSetup => Sys2Proof.Machine.execEditSetup s
  | .lineageStatus => Sys2Proof.Machine.execLineageStatus s
  | .refusalListRead => Sys2Proof.Machine.execRefusalListRead s
  | .tapeQuery => Sys2Proof.Machine.execTapeQuery s
  | .queryCancel => Sys2Proof.Machine.execQueryCancel s
  | .querySetup => Sys2Proof.Machine.execQuerySetup s
  | .brokenFrame side bytes => Sys2Proof.Machine.execBrokenFrame side bytes s

end Sys2Proof.Machine
end

