-- ==== Sys2Proof/Safety.lean ====
section
/-! DEFINITION. The terms in which statements about the part are made: when a request is served and what its
service leaves, and the invariants that hold between any two commands. -/

namespace Sys2Proof.Machine

/-! ## Service -/

/-- `r` is the request that comes up for service: no PART RESET is due or pauses service, and `r` is the oldest
request not yet served (R169). -/
structure Serves (s : State) (r : LinkRequest) : Prop where
  settled : s.link.resetDue = false
  running : s.link.paused = false
  front : nextRequest s.link = some r

/-- The state with the reply to `r` formed: the request is marked served, and its reply stands newest on the own
side under the part's address as it now stands (R16, R169). -/
def replied (r : LinkRequest) (payload : List Byte) (s : State) : State :=
  s.setLink { s.link with
    requests := markServed s.link.requests
    own := s.link.own ++ [{ kind := .service, frame := replyFrame s.link r.kind.code r.tag payload }] }

/-- The row of the table that is the service of a request kind. -/
def RequestKind.row : RequestKind → Instr
  | .probe => .probe
  | .assign => .assign
  | .linkStatus => .linkStatus
  | .partReset => .partReset
  | .linkSetup => .linkSetup
  | .noticeSetup => .noticeSetup
  | .noticeClear => .noticeClear
  | .noticeRead => .noticeRead
  | .sourceSelect => .sourceSelect
  | .monitorSelect => .monitorSelect
  | .inputStatusRead => .inputStatusRead
  | .recordStart => .recordStart
  | .recordStop => .recordStop
  | .recordStatus => .recordStatus
  | .lineageSetup => .lineageSetup
  | .concealSetup => .concealSetup
  | .qualityRead => .qualityRead
  | .qualityTotals => .qualityTotals
  | .prereadSetup => .prereadSetup
  | .positionRead => .positionRead
  | .gpiSetup => .gpiSetup
  | .markRead => .markRead
  | .cueAdd => .cueAdd
  | .cueRemove => .cueRemove
  | .cueRead => .cueRead
  | .editArm => .editArm
  | .editDisarm => .editDisarm
  | .editAbort => .editAbort
  | .spliceLogRead => .spliceLogRead
  | .editSetup => .editSetup
  | .lineageStatus => .lineageStatus
  | .refusalListRead => .refusalListRead
  | .tapeQuery => .tapeQuery
  | .queryCancel => .queryCancel
  | .querySetup => .querySetup

/-- A whole frame: its ADDRESS and its LENGTH are in range, and its CHECK is right (R15, R163). -/
structure Frame.Whole (f : Frame) : Prop where
  address : f.address.toNat ≤ 31
  length : f.payload.length ≤ 240
  check : f.check = crc8 (coveredBytes f.address f.kind f.tag f.payload)

/-- The commands, taken one after the other on a state, each on what the one before it left. -/
def runCommands : List Instr → State → Answer
  | [], s => .next s
  | c :: cs, s =>
    match exec c s with
    | .next t => runCommands cs t
    | .fault f => .fault f
    | .refused r => .refused r

/-- What every step keeps. -/
def Keeps (P : State → Prop) : Prop := ∀ s t : State, P s → step s = .next t → P t

/-! ## A frame at the next tick -/

/-- The capture frame W − 2 of the next tick in PLAY, which is the newest closed one, or the stand-in of zeros under
PERMIT and NEVER when the buffer holds none (R23): its pairs and its ruling. -/
def nextCapture (s : State) : List Pair × Ruling :=
  match s.input.closed with
  | c :: _ => (c.pairs, c.ruling)
  | [] => (List.replicate (spf s.input.rate) Pair.zero, .permit .never)

/-- The old side of a frame (R119): pairs, reduced-gain flags, the old mark of R140, and the concealment unit's state
once the old side is fetched. -/
structure OldView where
  pairs : List Pair
  flags : List (Bool × Bool)
  mark : Mark
  conceal : Conceal

/-- The old side of frame `w`: the ring's entry of that number, or an all-invalid ADVANCE frame numbered `w` when the
ring lacks it, whose mark is NEVER (R85, R119, R140). -/
def oldView (w : FrameNo) (s : State) : OldView :=
  match s.ring.find? (fun e => e.number == w) with
  | some e =>
    { pairs := e.pairs
      flags := e.flags
      mark := match e.subcode with
        | some r => r.mark
        | none => .never
      conceal := s.conceal }
  | none =>
    let out := concealFrame s.conceal .advance (some w) (allInvalid (spf s.input.rate))
    { pairs := out.2.pairs, flags := out.2.flags, mark := .never, conceal := out.1 }

/-- The samples that a frame of `n` pairs takes from its old side at reduced gain, each channel for itself, over the
indices that take the old side (R121). -/
def OldView.reduced (o : OldView) (n : Nat) (takes : Nat → Bool) : Nat :=
  ((List.range n).map (fun i =>
    if takes i then ((o.flags[i]?.getD (false, false)).1).toNat + ((o.flags[i]?.getD (false, false)).2).toNat
    else 0)).sum

/-- The engine once an entry has ended with this record, `cues` being the list it leaves and `post` the entries that
followed it (R131 steps 1 and 3 to 5; R111 where none follows). -/
def Engine.ended (e : Engine) (cues post : List CueEntry) (r : SpliceRecord) : Engine :=
  let waits := e.arm.mode = .rehearse ∧ e.arm.loop = true
  { e with
    cues := cues
    state := if post = [] ∧ ¬waits then .disarmed else .armed
    cursor := match post with
      | d :: _ => .entry d.id
      | [] => if waits then .passed else .absent
    pendingAbort := false
    run := EntryRun.empty
    log := (r :: e.log).take 16
    recordsMade := min (e.recordsMade + 1) 4294967295 }

/-! ## Notice unit -/

/-- The notice unit between commands: Lr is −1 to 15, no enabled pending cause outranks it, at most one NOTICE
waits, and bits 18 to 23 of both sets are 0 (R169, R179; 1.7, NOTICE payload). -/
structure NoticeInv (s : State) : Prop where
  level : ∀ c : Cause, hasCause s.notice.reported c = true → (s.notice.priorityOf c : Int) ≤ s.notice.lr
  low : -1 ≤ s.notice.lr
  high : s.notice.lr ≤ 15
  waiting : s.link.own.countP (fun o => o.kind == .notice) ≤ 1
  pendingBits : s.notice.pending.toNat < 262144
  enabledBits : s.notice.enabled.toNat < 262144

/-! ## Link unit -/

/-- The frame being sent upstream is one of the own side of this kind, and its place is still held. -/
def isSendingOwn (k : OwnKind) (l : LinkUnit) : Bool :=
  match l.upSending with
  | some x =>
    !x.orphan && (match x.frame with
      | .own o => o.kind == k
      | .forward _ => false)
  | none => false

/-- The frames of a kind on the own side that are not yet sent to their last byte. -/
def unsent (k : OwnKind) (l : LinkUnit) : Nat :=
  l.own.countP (fun o => o.kind == k) + (isSendingOwn k l).toNat

/-- The link unit between commands: the capacities of R164, R167 and R169; the ranges of R170, R173 and R174;
each served request has exactly one reply not yet sent, and the served ones are the oldest (R169); each reply of
the link unit has exactly one place of the hold store (R167); and a frame in sending is the oldest of its
side. -/
structure LinkInv (s : State) : Prop where
  requestsHeld : s.link.requests.length ≤ 4
  holdHeld : s.link.hold.length ≤ 2
  forwardHeld : s.link.forward.length ≤ 4
  run : s.link.runCount ≤ 8
  slice : 1 ≤ s.link.slice ∧ s.link.slice ≤ 8
  range : ∀ a, s.link.assigned = some a → 1 ≤ a.a ∧ a.a ≤ a.last ∧ a.last ≤ 30
  lengths : ∀ r ∈ s.link.requests, r.payload.length = r.kind.length
  services : s.link.requests.map (fun r => r.served) =
    List.replicate (unsent .service s.link) true
      ++ List.replicate (s.link.requests.length - unsent .service s.link) false
  replies : s.link.hold.countP (fun x => x == .reply) = unsent .linkReply s.link
  upFront : ∀ f, s.link.upSending = some { frame := .forward f, orphan := false } →
    s.link.forward.head? = some f
  downFront : ∀ f, s.link.downSending = some { frame := f, orphan := false } →
    firstForward s.link.hold = some f

/-! ## Lineage guard -/

/-- The open span is listed. -/
def spanListed (l : Lineage) : Bool :=
  match l.span with
  | some sp => sp.listed
  | none => false

/-- The lineage guard between commands: the class is what R133 derives; an interval status is held exactly while
a frame is in gathering, never below the effective status, nor below ONCE once ABSENT was seen (R136, R137); and
the list's entry without an end frame is that of the listed open span (R143). -/
structure GuardInv (s : State) : Prop where
  derived : s.lineage.cls = classNow s
  absence : s.lineage.absence ≤ 6
  held : s.lineage.interval.isSome = s.input.gathering.isSome
  strict : ∀ m, s.lineage.interval = some m → markCode (effective s.lineage.cls) ≤ markCode m
  seen : ∀ g, s.input.gathering = some g → s.lineage.cls = .absent → g.absentSeen = true
  absent : ∀ g m, s.input.gathering = some g → g.absentSeen = true → s.lineage.interval = some m →
    1 ≤ markCode m
  listHeld : s.lineage.refusals.length ≤ 8
  openEntry : s.lineage.refusals.countP (fun e => e.stop.isNone) = (spanListed s.lineage).toNat
  unlisted : s.lineage.span.isSome → spanListed s.lineage = false → s.lineage.incomplete = true

/-! ## Cue list and edit engine -/

/-- A cue entry's values lie in the ranges of R104 and R106 at spf `n`. -/
structure CueEntry.InRange (e : CueEntry) (n : Nat) : Prop where
  idLow : 1 ≤ e.id
  idHigh : e.id ≤ 255
  fadeLow : 16 ≤ e.fade
  fadeHigh : e.fade ≤ 4096
  outAfter : e.inPoint + e.fade ≤ e.outPoint
  lastIn : e.outPoint + e.fade - 1 < 16777216 * n
  program : e.program.toNat ≤ 999

/-- The cue list between commands: at most 16 entries, strictly ascending by in-point, no two spans sharing a
frame, no two ids the same (R105). -/
structure CueListInv (s : State) : Prop where
  held : s.engine.cues.length ≤ 16
  ascending : s.engine.cues.Pairwise (fun a b => a.inPoint < b.inPoint)
  disjoint : s.engine.cues.Pairwise
    (fun a b => a.lastFrame (spf s.input.rate) < b.startFrame (spf s.input.rate))
  ids : s.engine.cues.Pairwise (fun a b => a.id ≠ b.id)
  ranges : ∀ e ∈ s.engine.cues, e.InRange (spf s.input.rate)

/-- A cue entry is ACTIVE. -/
def CueEntry.isActive (e : CueEntry) : Bool :=
  match e.state with
  | .active _ => true
  | .pending => false

/-- The edit engine between commands: while the formatter is not IDLE the engine is DISARMED (R32); the cursor
is present exactly while armed (R109) and names an entry of the list; the engine is ACTIVE exactly while the
cursor's entry is, and no other entry ever is (R109); a cursor past the last entry waits in REHEARSE with
LOOP (R111); and L is 2 to 255 (R113). -/
structure EngineInv (s : State) : Prop where
  cueList : CueListInv s
  exclusive : s.formatter.state ≠ .idle → s.engine.state = .disarmed
  cursorAbsent : s.engine.cursor = .absent ↔ s.engine.state = .disarmed
  cursorHeld : ∀ id, s.engine.cursor = .entry id → ∃ e ∈ s.engine.cues, e.id = id
  activeEntry : s.engine.state = .active → ∃ e ∈ s.engine.cues, s.engine.cursor = .entry e.id ∧ e.isActive = true
  onlyActive : ∀ e ∈ s.engine.cues, e.isActive = true →
    s.engine.state = .active ∧ s.engine.cursor = .entry e.id
  passed : s.engine.cursor = .passed → s.engine.arm.mode = .rehearse ∧ s.engine.arm.loop = true
  loop : s.engine.arm.loop = true → s.engine.arm.mode = .rehearse
  requirement : 2 ≤ s.engine.lockAgeReq ∧ s.engine.lockAgeReq ≤ 255

/-! ## Query table -/

/-- The record a FOUND entry holds is of its kind, and a subcode record is of its frame (R149, R154). -/
def QueryEntry.recordFits (e : QueryEntry) : Prop :=
  ∀ age x, e.state = .complete age (.found x) →
    match x with
    | .subcode r => e.kind = .subcode ∧ r.number = e.frame
    | .quality _ => e.kind = .quality

/-- The query table between commands (R149): at most 4 entries, no two with the same kind and frame; the ranges
of the fields; a WAITING entry has passes 2 at most, since the third completes it (R151, R155), and a wait count below
the limit that the last tick found, unless that is 0 (R156); every HELD entry's frame lies within the span of its
blocking entry, which is in the cue list. -/
structure QueryInv (s : State) : Prop where
  held : s.query.entries.length ≤ 4
  distinct : s.query.entries.Pairwise (fun a b => ¬(a.kind = b.kind ∧ a.frame = b.frame))
  passes : ∀ e ∈ s.query.entries, e.passes ≤ 3
  waitingPasses : ∀ e ∈ s.query.entries, e.state = .waiting → e.passes ≤ 2
  waits : ∀ e ∈ s.query.entries, e.wait ≤ 65535
  waitingCounts : ∀ e ∈ s.query.entries, e.state = .waiting → s.query.tickLimit ≠ 0 →
    e.wait < s.query.tickLimit
  ages : ∀ e ∈ s.query.entries, ∀ age o, e.state = .complete age o → age ≤ 300
  records : ∀ e ∈ s.query.entries, e.recordFits
  blocked : ∀ e ∈ s.query.entries, ∀ id, e.state = .held id →
    ∃ c ∈ s.engine.cues, c.id = id ∧ c.spans (spf s.input.rate) e.frame.toNat = true
  heldCounts : ∀ e ∈ s.query.entries, ∀ id, e.state = .held id → e.passes = 0 ∧ e.wait = 0

/-! ## Position unit -/

/-- The position unit between commands: the ranges of the runs, of the lock age and of D (R52, R90); the lock age
is 0 while not LOCKED, and the lock state is UNLOCKED outside PLAY (R90, R94); runs a lock state does not use
stay 0 (R91, R92); and no GPI queue holds more than its depth (R98, R100). -/
structure PositionInv (s : State) : Prop where
  agree : s.position.agree ≤ 3
  seq : s.position.seq ≤ 3
  disagree : s.position.disagree ≤ 2
  age : s.position.age ≤ 65535
  count : s.sampleCount ≤ 65535
  preread : 1 ≤ s.decoder.preread ∧ s.decoder.preread ≤ 4
  ageZero : s.position.lock ≠ .locked → s.position.age = 0
  outsidePlay : s.pins.transport ≠ .play → s.position.lock = .unlocked
  unlockedRun : s.position.lock = .unlocked → s.position.disagree = 0
  lockedRun : s.position.lock = .locked → s.position.agree = 0
  depths : ∀ i : Fin 4, s.position.gpi[i].depth = 1 ∨ s.position.gpi[i].depth = 2
  queues : ∀ i : Fin 4, s.position.gpi[i].queue.length ≤ s.position.gpi[i].depth

/-! ## Input unit -/

/-- The input unit between commands: the frame in gathering is numbered W and the closed frames W − 1, W − 2 and
W − 3, newest first, across every change of W (R23, R24); a closed frame has exactly spf pairs (R21); outside
PLAY the buffer is empty (R23). -/
structure InputInv (s : State) : Prop where
  closedHeld : s.input.closed.length ≤ 3
  gatheringNumber : ∀ g, s.input.gathering = some g → g.number = s.position.w
  closedNumbers : ∀ i c, s.input.closed[i]? = some c → c.number = s.position.w - 1 - BitVec.ofNat 24 i
  noneGathering : s.input.gathering = none → s.input.closed = []
  outsidePlay : s.pins.transport ≠ .play → s.input.gathering = none
  closedPairs : ∀ c ∈ s.input.closed, c.pairs.length = spf s.input.rate
  gatheredPairs : ∀ g, s.input.gathering = some g →
    g.pairs.length = min g.received (spf s.input.rate) ∧ g.received ≤ 65535

/-! ## Record formatter -/

/-- The record formatter between commands: the written-frame list holds at most 8 numbers and no duplicates
(R47); an end reason is absent while RECORDING or STOPPING (R49); no more frames are silenced than written, and
the first and last frame are present exactly once one is written (R36); a frame in emission has 102 blocks of 126
bytes (R1, R2, R14) and is in emission only in PLAY (R26, R27). -/
structure FormatterInv (s : State) : Prop where
  writtenHeld : s.formatter.written.length ≤ 8
  writtenOnce : s.formatter.written.Nodup
  noEnd : s.formatter.state ≠ .idle → s.formatter.record.endReason = none
  silenced : s.formatter.record.framesSilenced ≤ s.formatter.record.framesWritten
  saturated : s.formatter.record.framesWritten ≤ 4294967295 ∧ s.formatter.unconfirmed ≤ 4294967295
  first : s.formatter.record.first.isSome = decide (0 < s.formatter.record.framesWritten)
  last : s.formatter.record.last.isSome = decide (0 < s.formatter.record.framesWritten)
  program : s.formatter.record.program.toNat ≤ 999
  blocks : ∀ e, s.formatter.emission = some e →
    e.blocks.length = 102 ∧ ∀ b ∈ e.blocks, b.length = 126
  outsidePlay : s.pins.transport ≠ .play → s.formatter.emission = none

/-! ## Frame decoder, ring and concealment unit -/

/-- A channel state lies in its ranges (R73). -/
def ChannelState.InRange (st : ChannelState) : Prop := st.h ≤ 65535 ∧ st.g ≤ 32

/-- The decoder, the ring and the concealment unit between commands: each frame in assembly is the judgement of
the blocks gathered for its head (R51); a history holds at most 16 records (R63); the ring holds at most 8
entries, no two with the same number (R67), each of spf pairs; gains and hold counts lie in their ranges
(R73). -/
structure DecoderInv (s : State) : Prop where
  judged : ∀ h, s.decoder.assembly.get h = (s.gathered.get h).foldl judgeBlock Assembly.empty
  history : ∀ h, (s.decoder.history.get h).length ≤ 16
  ringHeld : s.ring.length ≤ 8
  ringOnce : s.ring.Pairwise (fun a b => a.number ≠ b.number)
  ringPairs : ∀ e ∈ s.ring, e.pairs.length = spf s.input.rate
  limit : s.conceal.hlim ≤ 255
  channels : ∀ h, (s.conceal.chans.get h).l.InRange ∧ (s.conceal.chans.get h).r.InRange

end Sys2Proof.Machine
end

