-- ==== Sys2Proof/Certificates/Slice0/Obligations.lean ====
section
/-! DEFINITION. The statements about the part, for the provers. -/

open Sys2Proof Sys2Proof.Machine

/-! ## The step and the resets -/

/-- A step runs the command at the front of the queue with the queue's rest, and leaves the part as it stands on
an empty queue. The queue and the idle step are the model's choice (log 1). -/
def Obligations.StepRunsFrontCommand : Prop :=
  (∀ (c : Instr) (rest : List Instr) (s : State), s.pending = c :: rest →
    step s = exec c (s.setPending rest)) ∧
  (∀ s : State, s.pending = [] → step s = .next s)

/-- The values of State.reset that the spec's chapters give for power-on reset. -/
def Obligations.ResetHoldsTheSpecsValues : Prop :=
  let s := State.reset
  s.sampleCount = 0 ∧ s.input.source = .converter ∧ s.input.rate = .rate48 ∧
  s.input.gathering = none ∧ s.input.closed = [] ∧
  s.lineage.arrival = none ∧ s.lineage.absence = 0 ∧ s.lineage.cls = .absent ∧
  s.lineage.interval = none ∧ s.lineage.lastRuling = none ∧ s.lineage.origin = .free ∧
  s.lineage.action = .silence ∧ s.lineage.span = none ∧ s.lineage.refusals = [] ∧
  s.lineage.incomplete = false ∧
  s.formatter.state = .idle ∧ s.formatter.emission = none ∧ s.formatter.written = [] ∧
  s.formatter.unconfirmed = 0 ∧ s.formatter.record.mode = none ∧ s.formatter.record.first = none ∧
  s.formatter.record.last = none ∧ s.formatter.record.framesWritten = 0 ∧
  s.formatter.record.framesSilenced = 0 ∧ s.formatter.record.endReason = none ∧
  s.formatter.record.program = 0 ∧ s.formatter.record.take = 0 ∧
  s.decoder.preread = 2 ∧ (∀ h, s.decoder.history.get h = []) ∧
  (∀ h, s.decoder.assembly.get h = { tag := none, places := [], foreign := 0 }) ∧
  (∀ h, s.decoder.totals.get h = { decoded := 0, lossy := 0, interpolated := 0, held := 0 }) ∧
  s.ring = [] ∧ s.conceal.hlim = 48 ∧
  (∀ h, (s.conceal.chans.get h).l.h = 0 ∧ (s.conceal.chans.get h).l.g = 32 ∧
    (s.conceal.chans.get h).l.b = 0 ∧
    (s.conceal.chans.get h).l.prev = { value := 0, valid := false, number := none } ∧
    (s.conceal.chans.get h).r = (s.conceal.chans.get h).l) ∧
  s.position.w = 0 ∧ s.position.lock = .unlocked ∧ s.position.agree = 0 ∧ s.position.seq = 0 ∧
  s.position.disagree = 0 ∧ s.position.last = none ∧ s.position.age = 0 ∧
  (∀ i : Fin 4, s.position.gpi[i] = { function := .off, detection := .edge, depth := 1,
                                      clearOnStop := false, queue := [], overwrite := false }) ∧
  s.engine.cues = [] ∧ s.engine.lastId = none ∧ s.engine.state = .disarmed ∧
  s.engine.arm = { mode := .rehearse, loop := false } ∧ s.engine.cursor = .absent ∧
  s.engine.pendingAbort = false ∧ s.engine.lockAgeReq = 30 ∧ s.engine.log = [] ∧
  s.engine.recordsMade = 0 ∧
  s.query.entries = [] ∧ s.query.limit = 9000 ∧
  s.output.monitor = .auto ∧ s.output.port = { l := 0, r := 0 } ∧
  s.output.status = { format := .consumer, copy := .never, rate := .rate48 } ∧
  s.notice.pending = 0 ∧ s.notice.enabled = 0 ∧ s.notice.lr = -1 ∧
  allCauses.map s.notice.priorityOf = [4, 6, 12, 8, 10, 9, 7, 5, 5, 13, 11, 3, 4, 2, 3, 14, 6, 12] ∧
  s.link.assigned = none ∧ s.link.requests = [] ∧ s.link.hold = [] ∧ s.link.forward = [] ∧
  s.link.own = [] ∧ s.link.lastSide = .own ∧ s.link.runCount = 0 ∧ s.link.slice = 2 ∧
  s.link.flags = 0 ∧ s.link.upReceiver = .hunting ∧ s.link.downReceiver = .hunting ∧
  s.link.upSending = none ∧ s.link.downSending = none ∧
  attention s = false ∧ writeGate s = false ∧ upHoldOut s = false ∧ downHoldOut s = false

/-- POWER_ON_RESET brings every block to its reset values; the input pins keep their present levels, and the queue
of waiting commands stays. -/
def Obligations.PowerOnResetsEveryBlock : Prop :=
  ∀ s : State, ∃ t : State, exec .powerOnReset s = .next t ∧
    t.pending = s.pending ∧ t.pins = s.pins ∧ t.sampleCount = 0 ∧
    t.input = State.reset.input ∧ t.lineage = State.reset.lineage ∧
    t.formatter = State.reset.formatter ∧ (∀ h, t.gathered.get h = []) ∧
    t.decoder = State.reset.decoder ∧ t.conceal = State.reset.conceal ∧ t.ring = [] ∧
    t.position = State.reset.position ∧ t.engine = State.reset.engine ∧
    t.query = State.reset.query ∧ t.output = State.reset.output ∧ t.notice = State.reset.notice ∧
    t.link = State.reset.link

/-- A PART RESET that has fallen due takes effect: every block takes its reset values, A, last and S are kept, a frame
being sent on either port is sent to its end (its place gone, log 12), service is no longer paused, also while the
reply of an earlier served PART RESET is still being sent (the model's choice, log 41), the pins keep their levels. It
takes effect before any other command but POWER_ON_RESET does (log 11); with none due, PART_RESET_EFFECT changes
nothing, which is the model's choice (log 3). -/
def Obligations.PartResetTakesEffect : Prop :=
  (∀ s : State, s.link.resetDue = true → ∃ t : State, exec .partResetEffect s = .next t ∧
    t.pending = s.pending ∧ t.pins = s.pins ∧ t.sampleCount = 0 ∧
    t.input = State.reset.input ∧ t.lineage = State.reset.lineage ∧
    t.formatter = State.reset.formatter ∧ (∀ h, t.gathered.get h = []) ∧
    t.decoder = State.reset.decoder ∧ t.conceal = State.reset.conceal ∧ t.ring = [] ∧
    t.position = State.reset.position ∧ t.engine = State.reset.engine ∧
    t.query = State.reset.query ∧ t.output = State.reset.output ∧ t.notice = State.reset.notice ∧
    t.link = { State.reset.link with
      assigned := s.link.assigned,
      slice := s.link.slice,
      upSending := s.link.upSending.map (fun x => { x with orphan := true }),
      downSending := s.link.downSending.map (fun x => { x with orphan := true }) } ∧
    ∀ c : Instr, c ≠ .powerOnReset → exec c s = exec c t) ∧
  (∀ s : State, s.link.resetDue = false → exec .partResetEffect s = .next s)

/-- The state after reset meets every invariant stated below. -/
def Obligations.ResetMeetsEveryInvariant : Prop :=
  NoticeInv State.reset ∧ LinkInv State.reset ∧ GuardInv State.reset ∧ EngineInv State.reset ∧
  QueryInv State.reset ∧ PositionInv State.reset ∧ InputInv State.reset ∧ FormatterInv State.reset ∧
  DecoderInv State.reset

/-! ## The invariants that every step keeps -/

/-- Every step keeps the notice unit's invariant. -/
def Obligations.EveryStepKeepsNoticeInv : Prop := Keeps NoticeInv

/-- Every step keeps the link unit's invariant. -/
def Obligations.EveryStepKeepsLinkInv : Prop := Keeps LinkInv

/-- Every step keeps the lineage guard's invariant. -/
def Obligations.EveryStepKeepsGuardInv : Prop := Keeps GuardInv

/-- Every step keeps the edit engine's invariant, the cue list's among it. -/
def Obligations.EveryStepKeepsEngineInv : Prop := Keeps EngineInv

/-- Every step keeps the query table's invariant. -/
def Obligations.EveryStepKeepsQueryInv : Prop := Keeps QueryInv

/-- Every step keeps the position unit's invariant. -/
def Obligations.EveryStepKeepsPositionInv : Prop := Keeps PositionInv

/-- Every step keeps the input unit's invariant. -/
def Obligations.EveryStepKeepsInputInv : Prop := Keeps InputInv

/-- Every step keeps the record formatter's invariant. -/
def Obligations.EveryStepKeepsFormatterInv : Prop := Keeps FormatterInv

/-- Every step keeps the invariant of the decoder, the ring and the concealment unit. -/
def Obligations.EveryStepKeepsDecoderInv : Prop := Keeps DecoderInv

/-! ## Notices -/

/-- The leading cause is the enabled pending cause of highest priority, with the lowest code among equals. -/
def Obligations.LeadingCauseIsHighest : Prop :=
  ∀ n : NoticeUnit,
    (∀ c, n.leading = some c ↔ (hasCause n.reported c = true ∧
      ∀ d, hasCause n.reported d = true → n.priorityOf d < n.priorityOf c ∨
        (n.priorityOf d = n.priorityOf c ∧ (causeIndex c).val ≤ (causeIndex d).val))) ∧
    (n.leading = none ↔ ∀ c, hasCause n.reported c = false)

/-- A raised cause joins the pending set; one already pending changes nothing. When the highest priority among
enabled pending causes then exceeds Lr, one NOTICE with the leading cause, its priority and the enabled pending set
is queued, in the place of one that waits, and Lr becomes that priority; in every other case nothing more is
done. -/
def Obligations.RaisedCauseIsReported : Prop :=
  (∀ (c : Cause) (s : State), hasCause s.notice.pending c = true → raise c s = s) ∧
  (∀ (c : Cause) (s : State), hasCause s.notice.pending c = false →
    let n : NoticeUnit := { s.notice with pending := s.notice.pending ||| causeBit c }
    let exceeds := fun d => hasCause n.reported d = true ∧ s.notice.lr < (n.priorityOf d : Int)
    ((¬∃ d, exceeds d) → raise c s = s.setNotice n) ∧
    ((∃ d, exceeds d) → ∃ d, n.leading = some d ∧
      raise c s = (s.setNotice { n with lr := n.priorityOf d }).setLink
        { s.link with
          own := queueNotice s.link.own (makeFrame (partAddress s.link) 0x7F 0
            ([BitVec.ofNat 8 ((causeIndex d).val + 1), BitVec.ofNat 8 (n.priorityOf d)]
              ++ be 3 (n.pending &&& n.enabled).toNat)) })) ∧
  (∀ (own : List OwnFrame) (f : Frame), (∀ o ∈ own, o.kind ≠ .notice) →
    queueNotice own f = own ++ [{ kind := .notice, frame := f }]) ∧
  (∀ (pre post : List OwnFrame) (f g : Frame), (∀ o ∈ pre ++ post, o.kind ≠ .notice) →
    queueNotice (pre ++ { kind := .notice, frame := g } :: post) f
      = pre ++ { kind := .notice, frame := f } :: post)

/-- The pending set loses a cause only through NOTICE CLEAR and the resets: at the service of a NOTICE CLEAR whose mask
names the cause, by bytes from upstream that bring a whole broadcast NOTICE CLEAR whose mask names it or a whole
broadcast PART RESET, at a PART RESET that has fallen due, and at POWER_ON_RESET. -/
def Obligations.CausesLeaveOnlyByClearOrReset : Prop :=
  ∀ (c : Cause) (i : Instr) (s t : State), exec i s = .next t →
    hasCause s.notice.pending c = true → hasCause t.notice.pending c = false →
    let names := fun (mask : List Byte) => mask.length = 3 ∧ ofBe mask < 262144 ∧
      hasCause (BitVec.ofNat 24 (ofBe mask)) c = true
    let brings := fun (bytes : List Byte) (f : Frame) => ∃ (pre post : List Byte) (b : Byte),
      bytes = pre ++ b :: post ∧
      (receive (pre.foldl (fun r x => (receive r x).1) s.link.upReceiver) b).2 = .whole f
    i = .powerOnReset ∨ s.link.resetDue = true ∨
      (i = .noticeClear ∧ ∃ r, Serves s r ∧ r.kind = .noticeClear ∧ names r.payload) ∨
      ∃ (bytes : List Byte) (f : Frame),
        (i = .frameReceivedUpstream bytes ∨ i = .brokenFrame .up bytes) ∧ brings bytes f ∧
        f.address = 31 ∧
        ((f.kind = 0x09 ∧ names f.payload) ∨ (f.kind = 0x04 ∧ f.payload = []))

/-- NOTICE SETUP, NOTICE CLEAR and NOTICE READ at service: the values turned away with BAD_VALUE change nothing but
the reply; a taken NOTICE SETUP sets one cause's priority and enable, a taken NOTICE CLEAR removes the causes of the
mask and sets Lr to −1, and the unit evaluates once the reply is formed; NOTICE READ answers with the unit's state
and changes nothing. -/
def Obligations.NoticeRequestsServed : Prop :=
  (∀ (s : State) (r : LinkRequest) (c p e : Byte), Serves s r → r.kind = .noticeSetup →
    r.payload = [c, p, e] →
    if 1 ≤ c.toNat ∧ c.toNat ≤ 18 ∧ p.toNat ≤ 15 ∧ e.toNat ≤ 1 then
      ∃ n : NoticeUnit, exec .noticeSetup s = .next (evaluate (replied r [0, c, p, e] (s.setNotice n))) ∧
        n.pending = s.notice.pending ∧ n.lr = s.notice.lr ∧
        ∀ d : Cause,
          n.priorityOf d = (if (causeIndex d).val + 1 = c.toNat then p.toNat else s.notice.priorityOf d) ∧
          hasCause n.enabled d =
            (if (causeIndex d).val + 1 = c.toNat then e.toNat == 1 else hasCause s.notice.enabled d)
    else exec .noticeSetup s = .next (replied r [5] s)) ∧
  (∀ (s : State) (r : LinkRequest) (a b c : Byte), Serves s r → r.kind = .noticeClear →
    r.payload = [a, b, c] →
    let mask := BitVec.ofNat 24 (ofBe [a, b, c])
    if mask.toNat < 262144 then
      exec .noticeClear s = .next (evaluate (replied r (0 :: be 3 (s.notice.pending &&& ~~~mask).toNat)
        (s.setNotice { s.notice with pending := s.notice.pending &&& ~~~mask, lr := -1 })))
    else exec .noticeClear s = .next (replied r [5] s)) ∧
  (∀ (s : State) (r : LinkRequest), Serves s r → r.kind = .noticeRead → r.payload = [] →
    ∃ reply, exec .noticeRead s = .next (replied r reply s) ∧ reply.length = 26 ∧
      reply = 0 :: be 3 s.notice.pending.toNat ++ be 3 s.notice.enabled.toNat
        ++ [if s.notice.lr < 0 then 0xFF else BitVec.ofNat 8 s.notice.lr.toNat]
        ++ allCauses.map (fun c => BitVec.ofNat 8 (s.notice.priorityOf c)))

/-! ## The link: service, receiving, sending -/

/-- Every request kind: when a request of the kind comes up for service, its row serves it, marks it served and
forms exactly one reply, with KIND the request's plus 0x80, its TAG and the part's address, whose payload fits a
frame. -/
def Obligations.EveryServedRequestDrawsOneReply : Prop :=
  ∀ (s : State) (r : LinkRequest), Serves s r → s.lineage.refusals.length ≤ 8 →
    ∃ (t : State) (payload : List Byte), exec r.kind.row s = .next t ∧
      t.link.requests = markServed s.link.requests ∧
      t.link.own.filter (fun o => o.kind == .service) =
        s.link.own.filter (fun o => o.kind == .service)
          ++ [{ kind := .service,
                frame := makeFrame (partAddress t.link) (r.kind.code + 0x80) r.tag payload }] ∧
      1 ≤ payload.length ∧ payload.length ≤ 240

/-- A request row with nothing to serve leaves the part as it stands: service is paused, or the oldest request not
yet served is of another kind, or there is none. This is the model's choice (log 2). -/
def Obligations.RequestRowsWaitTheirTurn : Prop :=
  ∀ (k : RequestKind) (s : State), s.link.resetDue = false →
    (s.link.paused = true ∨ ∀ r, nextRequest s.link = some r → r.kind ≠ k) →
    exec k.row s = .next s

/-- A whole frame on the downstream line, taken byte by byte by a hunting receiver, is the frame that was sent: it
joins the forward buffer unchanged, or is dropped with BAD_FRAME and DOWN when the buffer holds 4 frames. -/
def Obligations.DownstreamFrameRoundTrip : Prop :=
  ∀ (s : State) (f : Frame), s.link.resetDue = false → s.link.downReceiver = .hunting → f.Whole →
    exec (.frameReceivedDownstream (wireBytes f)) s = .next
      (if s.link.forward.length < 4 then s.setLink { s.link with forward := s.link.forward ++ [f] }
       else setFlags (flagBadFrame ||| flagDown) s)

/-- A whole frame from upstream at the part's own address (0 while unassigned) is judged in the order of R168: its
kind, its length, room in the queue; otherwise it joins the request queue as the newest. The replies of the link unit
take a place of the hold store; that a reply without a place drops the frame with the flags of both is DEDUCED (log
14); that a BAD_KIND or BAD_LENGTH reply joins the own side before the LINK_FAULT NOTICE of its flags is the model's
choice (log 15). -/
def Obligations.UpstreamRequestIsJudged : Prop :=
  ∀ (s : State) (f : Frame), s.link.resetDue = false → s.link.upReceiver = .hunting → f.Whole →
    (match s.link.assigned with
      | none => f.address = 0
      | some a => f.address.toNat = a.a ∧ 1 ≤ a.a ∧ a.a ≤ 30) →
    let answer := fun (status : Byte) (flags : BitVec 8) =>
      if s.link.hold.length < 2 then
        setFlags flags (s.setLink { s.link with
          hold := s.link.hold ++ [.reply]
          own := s.link.own ++ [{ kind := .linkReply,
                                  frame := makeFrame (partAddress s.link) (f.kind + 0x80) f.tag [status] }] })
      else setFlags (flags ||| flagBadFrame ||| flagUp) s
    exec (.frameReceivedUpstream (wireBytes f)) s = .next
      (if f.kind.toNat = 0 ∨ 0x7F ≤ f.kind.toNat then setFlags (flagBadKind ||| flagUp) s
       else match kindOfByte f.kind with
        | none => answer 3 (flagBadKind ||| flagUp)
        | some k =>
          if f.payload.length ≠ k.length then answer 4 (flagBadLength ||| flagUp)
          else if 4 ≤ s.link.requests.length then answer 2 0
          else s.setLink { s.link with
            requests := s.link.requests ++
              [{ kind := k, tag := f.tag, payload := f.payload, served := false }] })

/-- An addressed whole frame from upstream that is not for this part: at an assigned part, address 0 and the
addresses above A up to last are placed in the hold store to be forwarded while PRESENT is high (or dropped with
BAD_FRAME and UP when it is full); every other one, and each of them while PRESENT is low, draws NO_DECK, or is
dropped with BAD_KIND and UP when its kind has no reply kind. That a NO_DECK which finds the hold store full is
dropped with BAD_FRAME and UP is DEDUCED (log 14). -/
def Obligations.UpstreamFrameIsRouted : Prop :=
  ∀ (s : State) (f : Frame), s.link.resetDue = false → s.link.upReceiver = .hunting → f.Whole →
    f.address.toNat ≤ 30 →
    (match s.link.assigned with
      | none => f.address.toNat ≠ 0
      | some a => f.address.toNat ≠ a.a) →
    let below := match s.link.assigned with
      | none => False
      | some a => f.address.toNat = 0 ∨ (a.a < f.address.toNat ∧ f.address.toNat ≤ a.last)
    ((below ∧ s.pins.present = true) →
      exec (.frameReceivedUpstream (wireBytes f)) s = .next
        (if s.link.hold.length < 2 then s.setLink { s.link with hold := s.link.hold ++ [.forward f] }
         else setFlags (flagBadFrame ||| flagUp) s)) ∧
    (¬(below ∧ s.pins.present = true) →
      exec (.frameReceivedUpstream (wireBytes f)) s = .next
        (if f.kind.toNat = 0 ∨ 0x7F ≤ f.kind.toNat then setFlags (flagBadKind ||| flagUp) s
         else if s.link.hold.length < 2 then s.setLink { s.link with
            hold := s.link.hold ++ [.reply]
            own := s.link.own ++ [{ kind := .linkReply,
                                    frame := makeFrame (partAddress s.link) (f.kind + 0x80) f.tag [11] }] }
         else setFlags (flagBadFrame ||| flagUp) s))

/-- A broadcast: the broadcast set has nine kinds, and a kind outside it is dropped with BAD_KIND and UP. While PRESENT
is high a copy is placed in the hold store, or is dropped with BAD_FRAME and UP when that is full. A broadcast of right
length that is no PART RESET (SOURCE SELECT, MONITOR SELECT, RECORD START, RECORD STOP, EDIT ARM, EDIT DISARM, EDIT
ABORT, NOTICE CLEAR) is served on arrival: it leaves what the service of the same request, were it the only one
waiting, leaves without its reply, and the request queue stays. A broadcast PART RESET falls due on arrival when
PRESENT is low or its copy finds the hold store full, and otherwise not before its copy has gone. A broadcast of wrong
length sets BAD_LENGTH and UP and has no other effect at this part than its forwarding. The order of copy, flags and
service is DEDUCED (log 24). -/
def Obligations.BroadcastsAreHandled : Prop :=
  (∀ k : RequestKind, k.broadcast = true ↔ k ∈ ([.partReset, .sourceSelect, .monitorSelect, .recordStart,
    .recordStop, .editArm, .editDisarm, .editAbort, .noticeClear] : List RequestKind)) ∧
  ∀ (s : State) (f : Frame), s.link.resetDue = false → s.link.upReceiver = .hunting → f.Whole →
    f.address = 31 →
    let copied := if s.pins.present = true ∧ s.link.hold.length < 2 then
        s.setLink { s.link with hold := s.link.hold ++ [.forward f] } else s
    let dropped := s.pins.present = true ∧ 2 ≤ s.link.hold.length
    ((∀ k, kindOfByte f.kind = some k → k.broadcast = false) →
      exec (.frameReceivedUpstream (wireBytes f)) s = .next (setFlags (flagBadKind ||| flagUp) s)) ∧
    (f.kind = 0x19 → f.payload = [] →
      exec (.frameReceivedUpstream (wireBytes f)) s = .next
        (let t := if dropped then setFlags (flagBadFrame ||| flagUp) copied else copied
         if s.formatter.state = .recording then
           t.setFormatter { t.formatter with state := .stopping } else t)) ∧
    (∀ k, kindOfByte f.kind = some k → k.broadcast = true → k ≠ .partReset →
      f.payload.length = k.length →
      let t := if dropped then setFlags (flagBadFrame ||| flagUp) copied else copied
      let r : LinkRequest := { kind := k, tag := f.tag, payload := f.payload, served := false }
      let asked := t.setLink { t.link with requests := [r], paused := false }
      let clears := k = .noticeClear ∧ ofBe f.payload < 262144
      ∃ (reply : List Byte) (v : State), v.link.requests = [r] ∧
        exec k.row asked =
          .next (if clears then evaluate (replied r reply v) else replied r reply v) ∧
        let kept := v.setLink { v.link with requests := s.link.requests, paused := s.link.paused }
        exec (.frameReceivedUpstream (wireBytes f)) s = .next (if clears then evaluate kept else kept)) ∧
    (f.kind = 0x04 → f.payload = [] →
      ∃ t, exec (.frameReceivedUpstream (wireBytes f)) s = .next t ∧
        (t.link.resetDue = true ↔ (s.pins.present = false ∨ 2 ≤ s.link.hold.length)) ∧
        t.link.hold = copied.link.hold ∧ t.formatter = s.formatter ∧ t.engine = s.engine ∧
        t.position = s.position ∧ t.link.requests = s.link.requests) ∧
    (∀ k, kindOfByte f.kind = some k → k.broadcast = true → f.payload.length ≠ k.length →
      exec (.frameReceivedUpstream (wireBytes f)) s = .next
        (setFlags (if dropped then flagBadFrame ||| flagBadLength ||| flagUp
          else flagBadLength ||| flagUp) copied))

/-- The frames that a receiver drops: an ADDRESS above 31 or a LENGTH above 240 breaks the frame at once, as does a
gap of more than 100 µs between its bytes, and BAD_FRAME is set with the port's side flag; a wrong CHECK drops a
gathered frame with BAD_CHECK and the side flag. Bytes met while hunting that are not LEAD change nothing. An event
that takes a flag from clear to set raises LINK_FAULT once, and one that finds its flags set changes nothing. -/
def Obligations.DroppedFramesSetFlags : Prop :=
  (∀ (s : State) (side : Side) (a : Byte), s.link.resetDue = false → s.link.receiver side = .hunting →
    31 < a.toNat →
    exec (.brokenFrame side [0x5A, a]) s = .next (setFlags (flagBadFrame ||| sideFlag side) s)) ∧
  (∀ (s : State) (side : Side) (a k t len : Byte), s.link.resetDue = false →
    s.link.receiver side = .hunting → a.toNat ≤ 31 → 240 < len.toNat →
    exec (.brokenFrame side [0x5A, a, k, t, len]) s =
      .next (setFlags (flagBadFrame ||| sideFlag side) s)) ∧
  (∀ (s : State) (side : Side), s.link.resetDue = false →
    exec (.linkByteGapTimeout side) s = .next
      (match s.link.receiver side with
        | .hunting => s
        | .gathering _ => setFlags (flagBadFrame ||| sideFlag side) (setReceiver side .hunting s))) ∧
  (∀ (s : State) (side : Side) (f : Frame), s.link.resetDue = false → s.link.receiver side = .hunting →
    f.address.toNat ≤ 31 → f.payload.length ≤ 240 →
    f.check ≠ crc8 (coveredBytes f.address f.kind f.tag f.payload) →
    exec (match side with
      | .up => .frameReceivedUpstream (wireBytes f)
      | .down => .frameReceivedDownstream (wireBytes f)) s =
        .next (setFlags (flagBadCheck ||| sideFlag side) s)) ∧
  (∀ (s : State) (side : Side) (bytes : List Byte), s.link.resetDue = false →
    s.link.receiver side = .hunting → (∀ b ∈ bytes, b ≠ 0x5A) →
    exec (match side with
      | .up => .frameReceivedUpstream bytes
      | .down => .frameReceivedDownstream bytes) s = .next s) ∧
  (∀ (s : State) (mask : BitVec 8),
    (s.link.flags &&& mask = mask → setFlags mask s = s) ∧
    (s.link.flags &&& mask ≠ mask →
      setFlags mask s = raise .linkFault (s.setLink { s.link with flags := s.link.flags ||| mask })))

/-- ARBITER_CHOICE: nothing starts while a frame is being sent, while UHLDI is asserted or while no frame waits.
Otherwise the side is the one that alone has frames waiting; or, with both waiting, the last side sent while the run
count is below S, and else the other side; its oldest frame starts, and the last side and the run count follow. With
both sides waiting, a run that does not exceed S does not exceed it after the choice. -/
def Obligations.ArbiterSharesTheLine : Prop :=
  (∀ s : State, s.link.resetDue = false →
    (s.link.upSending ≠ none ∨ s.pins.upHold = true ∨ (s.link.own = [] ∧ s.link.forward = [])) →
    exec .arbiterChoice s = .next s) ∧
  (∀ (s : State) (o : OwnFrame) (rest : List OwnFrame), s.link.resetDue = false →
    s.link.upSending = none → s.pins.upHold = false → s.link.own = o :: rest →
    (s.link.forward = [] ∨ (s.link.lastSide = .own ∧ s.link.runCount < s.link.slice) ∨
      (s.link.lastSide = .forward ∧ s.link.slice ≤ s.link.runCount)) →
    exec .arbiterChoice s = .next (s.setLink { s.link with
      own := rest
      upSending := some { frame := .own o, orphan := false }
      lastSide := .own
      runCount := if s.link.lastSide = .own then min (s.link.runCount + 1) 8 else 1 })) ∧
  (∀ (s : State) (f : Frame) (rest : List Frame), s.link.resetDue = false →
    s.link.upSending = none → s.pins.upHold = false → s.link.forward = f :: rest →
    (s.link.own = [] ∨ (s.link.lastSide = .forward ∧ s.link.runCount < s.link.slice) ∨
      (s.link.lastSide = .own ∧ s.link.slice ≤ s.link.runCount)) →
    exec .arbiterChoice s = .next (s.setLink { s.link with
      upSending := some { frame := .forward f, orphan := false }
      lastSide := .forward
      runCount := if s.link.lastSide = .forward then min (s.link.runCount + 1) 8 else 1 })) ∧
  (∀ s t : State, s.link.resetDue = false → s.link.own ≠ [] → s.link.forward ≠ [] →
    1 ≤ s.link.slice → s.link.runCount ≤ s.link.slice → exec .arbiterChoice s = .next t →
    t.link.runCount ≤ s.link.slice)

/-- UPSTREAM_FRAME_SENT: the place of the frame is freed (the oldest request, the forward buffer's oldest frame, or a
reply's place in the hold store), unless a PART RESET has taken it; the last byte of a NO_DECK reply of this part
sets NO_DECK_SENT and UP, and of its BUSY, BAD_KIND and BAD_LENGTH replies ERROR_SENT and UP; the last byte of a PART
RESET's reply makes the reset fall due. That nothing happens with no frame being sent is the model's choice (log 3);
that a frame whose place a PART RESET has taken frees nothing (log 12), still makes a second reset fall due (log 13) and
still sets its flags (log 34) is DEDUCED. -/
def Obligations.UpstreamFrameSentFreesItsPlace : Prop :=
  ∀ s : State, s.link.resetDue = false →
    (s.link.upSending = none → exec .upstreamFrameSent s = .next s) ∧
    (∀ (f : Frame) (orphan : Bool), s.link.upSending = some { frame := .forward f, orphan := orphan } →
      exec .upstreamFrameSent s = .next (s.setLink { s.link with
        upSending := none
        forward := if orphan then s.link.forward else s.link.forward.tail })) ∧
    (∀ (f : Frame) (orphan : Bool),
      s.link.upSending = some { frame := .own { kind := .service, frame := f }, orphan := orphan } →
      exec .upstreamFrameSent s = .next (s.setLink { s.link with
        upSending := none
        requests := if orphan then s.link.requests else s.link.requests.tail
        resetDue := f.kind == 0x84 })) ∧
    (∀ (f : Frame) (orphan : Bool),
      s.link.upSending = some { frame := .own { kind := .linkReply, frame := f }, orphan := orphan } →
      exec .upstreamFrameSent s = .next
        (setFlags (if f.payload = [11] then flagNoDeckSent ||| flagUp else flagErrorSent ||| flagUp)
          (s.setLink { s.link with
            upSending := none
            hold := if orphan then s.link.hold else s.link.hold.erase .reply }))) ∧
    (∀ (f : Frame) (orphan : Bool),
      s.link.upSending = some { frame := .own { kind := .notice, frame := f }, orphan := orphan } →
      exec .upstreamFrameSent s = .next (s.setLink { s.link with upSending := none }))

/-- DOWNSTREAM_SEND starts the oldest frame to be forwarded whenever DHLDI allows and no frame is being sent; it
keeps its place of the hold store until DOWNSTREAM_FRAME_SENT, which frees it, and which makes a broadcast PART
RESET fall due once its copy has gone. That each changes nothing with none to send or none being sent is the model's
choice (log 3); that a frame whose place a PART RESET has taken frees nothing (log 12) and still makes its reset fall
due (log 13) is DEDUCED. -/
def Obligations.DownstreamSending : Prop :=
  (∀ s : State, s.link.resetDue = false →
    exec .downstreamSend s = .next
      (match firstForward s.link.hold with
        | some f =>
          if s.link.downSending = none ∧ s.pins.downHold = false then
            s.setLink { s.link with downSending := some { frame := f, orphan := false } }
          else s
        | none => s)) ∧
  (∀ s : State, s.link.resetDue = false → s.link.downSending = none →
    exec .downstreamFrameSent s = .next s) ∧
  (∀ (s : State) (f : Frame) (pre post : List HoldSlot), s.link.resetDue = false →
    s.link.downSending = some { frame := f, orphan := false } →
    s.link.hold = pre ++ .forward f :: post → (∀ x ∈ pre, x = .reply) →
    exec .downstreamFrameSent s = .next (s.setLink { s.link with
      downSending := none
      hold := pre ++ post
      resetDue := f.address == 31 && f.kind == 0x04 && f.payload.isEmpty })) ∧
  (∀ (s : State) (f : Frame), s.link.resetDue = false →
    s.link.downSending = some { frame := f, orphan := true } →
    exec .downstreamFrameSent s = .next (s.setLink { s.link with
      downSending := none
      resetDue := f.address == 31 && f.kind == 0x04 && f.payload.isEmpty }))

/-- The HOLD inputs, PRESENT and the output pins. HOLD_INPUT_CHANGE sets the level that the senders examine and nothing
else; a rise of PRESENT, or a level it already had, changes nothing else. A fall, with a hold store of one or of two,
leaves the frame being sent and each reply, replaces each waiting addressed frame, in its place, by its NO_DECK reply
(or drops it with BAD_KIND and UP when its kind has no reply kind) and drops each waiting broadcast, a PART RESET among
them falling due; that the replies come before the NOTICE of those flags is the model's choice (log 15). ATTN is active
while an enabled cause is pending, WGATE while a frame is in emission, UHLDO while the hold store holds a frame, DHLDO
while the forward buffer holds 3 or more (computed from the state, log 25). -/
def Obligations.HoldAndPresentPins : Prop :=
  (∀ (s : State) (asserted : Bool), s.link.resetDue = false →
    exec (.holdInputChange .up asserted) s = .next (s.setPins { s.pins with upHold := asserted }) ∧
    exec (.holdInputChange .down asserted) s = .next (s.setPins { s.pins with downHold := asserted })) ∧
  (∀ (s : State) (high : Bool), s.link.resetDue = false → (high = true ∨ s.pins.present = false) →
    exec (.presentChange high) s = .next (s.setPins { s.pins with present := high })) ∧
  (∀ (s : State) (f : Frame), s.link.resetDue = false → s.pins.present = true →
    s.link.hold = [.forward f] →
    (∀ x, s.link.downSending = some { frame := x, orphan := false } → x = f) →
    let fallen := s.setPins { s.pins with present := false }
    exec (.presentChange false) s = .next
      (if s.link.downSending = some { frame := f, orphan := false } then fallen
       else if f.address = 31 then
         fallen.setLink { s.link with
           hold := []
           resetDue := f.kind == 0x04 && f.payload.isEmpty }
       else if f.kind.toNat = 0 ∨ 0x7F ≤ f.kind.toNat then
         setFlags (flagBadKind ||| flagUp) (fallen.setLink { s.link with hold := [] })
       else fallen.setLink { s.link with
         hold := [.reply]
         own := s.link.own ++ [{ kind := .linkReply,
                                 frame := makeFrame (partAddress s.link) (f.kind + 0x80) f.tag [11] }] })) ∧
  (∀ (s : State) (x y : HoldSlot), s.link.resetDue = false → s.pins.present = true →
    s.link.hold = [x, y] →
    (∀ f, s.link.downSending = some { frame := f, orphan := false } → firstForward [x, y] = some f) →
    let sending := match s.link.downSending with
      | some d => !d.orphan
      | none => false
    let fall := fun (kept : Bool) (z : HoldSlot) => match z with
      | .reply => (([.reply], [], false, false) : List HoldSlot × List OwnFrame × Bool × Bool)
      | .forward f =>
        if kept then ([.forward f], [], false, false)
        else if f.address = 31 then ([], [], false, f.kind == 0x04 && f.payload.isEmpty)
        else if f.kind.toNat = 0 ∨ 0x7F ≤ f.kind.toNat then ([], [], true, false)
        else ([.reply], [{ kind := .linkReply,
                           frame := makeFrame (partAddress s.link) (f.kind + 0x80) f.tag [11] }],
              false, false)
    let a := fall sending x
    let b := fall (sending && x == .reply) y
    let fallen := (s.setPins { s.pins with present := false }).setLink { s.link with
      hold := a.1 ++ b.1
      own := s.link.own ++ a.2.1 ++ b.2.1 }
    let flagged := if (a.2.2.1 || b.2.2.1) = true then setFlags (flagBadKind ||| flagUp) fallen else fallen
    exec (.presentChange false) s = .next
      (if (a.2.2.2 || b.2.2.2) = true then flagged.setLink { flagged.link with resetDue := true }
       else flagged)) ∧
  (∀ s : State, NoticeInv s →
    (attention s = true ↔ ∃ c, hasCause s.notice.pending c = true ∧ hasCause s.notice.enabled c = true)) ∧
  (∀ s : State, (writeGate s = true ↔ ∃ e, s.formatter.emission = some e) ∧
    (upHoldOut s = true ↔ 1 ≤ s.link.hold.length) ∧
    (downHoldOut s = true ↔ 3 ≤ s.link.forward.length))

/-- PROBE, LINK STATUS, LINK SETUP and ASSIGN at service. PROBE answers and changes nothing; LINK STATUS answers with
the flags before the clear and clears those of the mask; LINK SETUP takes S from 1 to 8; ASSIGN takes A from 1 to 30
and last from A to 30 and is answered under the new A; a value outside its range draws BAD_VALUE and changes
nothing. -/
def Obligations.LinkRequestsServed : Prop :=
  RequestKind.probe.length = 0 ∧ RequestKind.linkStatus.length = 1 ∧
  RequestKind.linkSetup.length = 1 ∧ RequestKind.assign.length = 2 ∧
  (∀ (s : State) (r : LinkRequest), Serves s r → r.kind = .probe → r.payload = [] →
    exec .probe s = .next (replied r
      ([0, 0x48, 0x24, 0x01] ++ (match s.link.assigned with
        | some a => [1, BitVec.ofNat 8 a.a, BitVec.ofNat 8 a.last]
        | none => [0, 0, 0]) ++ [if s.pins.present then 1 else 0]) s)) ∧
  (∀ (s : State) (r : LinkRequest) (mask : Byte), Serves s r → r.kind = .linkStatus →
    r.payload = [mask] →
    exec .linkStatus s = .next (replied r
      ([0, s.link.flags] ++ (match s.link.assigned with
        | some a => [1, BitVec.ofNat 8 a.a, BitVec.ofNat 8 a.last]
        | none => [0, 0, 0]) ++ [BitVec.ofNat 8 s.link.slice, if s.pins.present then 1 else 0,
          BitVec.ofNat 8 s.link.requests.length, BitVec.ofNat 8 s.link.forward.length,
          BitVec.ofNat 8 s.link.hold.length])
      (s.setLink { s.link with flags := s.link.flags &&& ~~~mask }))) ∧
  (∀ (s : State) (r : LinkRequest) (b : Byte), Serves s r → r.kind = .linkSetup → r.payload = [b] →
    exec .linkSetup s = .next
      (if 1 ≤ b.toNat ∧ b.toNat ≤ 8 then
        replied r [0, b] (s.setLink { s.link with slice := b.toNat })
       else replied r [5] s)) ∧
  (∀ (s : State) (r : LinkRequest) (a last : Byte), Serves s r → r.kind = .assign →
    r.payload = [a, last] →
    exec .assign s = .next
      (if 1 ≤ a.toNat ∧ a.toNat ≤ last.toNat ∧ last.toNat ≤ 30 then
        replied r [0, a, last]
          (s.setLink { s.link with assigned := some { a := a.toNat, last := last.toNat } })
       else replied r [5] s))

/-- PART RESET at service: the reply is DONE with no content, the part goes on as before, and no later request is
served while service is paused. -/
def Obligations.PartResetRequestPausesService : Prop :=
  ∀ (s : State) (r : LinkRequest), Serves s r → r.kind = .partReset → r.payload = [] →
    ∃ t, exec .partReset s = .next t ∧
      t = replied r [0] (s.setLink { s.link with paused := true }) ∧
      ∀ k : RequestKind, exec k.row t = .next t

/-! ## Sample ports -/

/-- SAMPLE_CLOCK: the tick-relative count rises by 1 and stops at 65,535; the converter's pair enters a CONVERTER
frame in gathering in PLAY and is discarded in any other case; a boundary that is due is taken first, as OUTPUT_BOUNDARY
takes it; and the next pair of the frame playing goes out and the play-out position moves past it, the last pair going
out again when the frame has been played out. The monitor selection stays. The counts behind a boundary (clocks,
freeRun, unstarted) are the model's (log 8); that a tick whose sample clock comes outside PLAY is forgotten, unless the
first boundary is still to come, is DEDUCED (log 9); that the count stands at spf is the model's choice (log 37). -/
def Obligations.SampleClockPlaysTheNextPair : Prop :=
  ∀ (s : State) (p : Pair), s.link.resetDue = false →
    let due := ((s.pins.transport = .play ∨ s.output.unstarted = true) ∧ s.output.tickWaiting = true) ∨
      ((s.pins.transport ≠ .play ∨ s.output.freeRun = true) ∧ spf s.input.rate ≤ s.output.clocks)
    ∃ (inp : InputUnit) (out : OutputUnit),
      exec (.sampleClock p) s = .next
        (((s.setInput inp).setSampleCount (min (s.sampleCount + 1) 65535)).setOutput out) ∧
      inp = (match s.input.gathering with
        | some g =>
          if g.source = .converter ∧ s.pins.transport = .play then
            { s.input with gathering := some { g with
                pairs := if g.pairs.length < spf s.input.rate then g.pairs ++ [p] else g.pairs
                received := min (g.received + 1) 65535 } }
          else s.input
        | none => s.input) ∧
      out.monitor = s.output.monitor ∧ out.tickWaiting = false ∧
      (¬due → out = { s.output with
        port := (s.output.playing[s.output.playPos]?).getD ((s.output.playing.getLast?).getD Pair.zero)
        playPos := min (s.output.playPos + 1) s.output.playing.length
        clocks := min (s.output.clocks + 1) (spf s.input.rate)
        tickWaiting := false }) ∧
      (due → ∃ u, exec .outputBoundary s = .next u ∧ out = { u.output with
        port := (u.output.playing[0]?).getD Pair.zero
        playPos := min 1 u.output.playing.length
        clocks := 1
        tickWaiting := false })

/-- OUTPUT_BOUNDARY: with no boundary due nothing changes. At a boundary the newest frame of the effective monitor
source that closed since the last one is chosen, or silence, and the first boundary after a reset plays silence; its
status record goes to the output status port: a FREE frame as PRO, any other, and silence, as CONSUMER with its
mark (NEVER for silence) and the session rate. That a command with no boundary due changes nothing is the model's choice
(log 3); the counters clocks, freeRun and unstarted are the model's (log 8); the copy field FREE of a PRO record is
DEDUCED (log 26). -/
def Obligations.BoundaryChoosesTheFrame : Prop :=
  ∀ s : State, s.link.resetDue = false →
    let due := ((s.pins.transport = .play ∨ s.output.unstarted = true) ∧ s.output.tickWaiting = true) ∨
      ((s.pins.transport ≠ .play ∨ s.output.freeRun = true) ∧ spf s.input.rate ≤ s.output.clocks)
    let chosen : Option PlayFrame :=
      if s.output.unstarted = true then none
      else match s.output.monitor with
        | .input => s.output.fresh.input
        | .advance => s.output.fresh.advance
        | .confidence => s.output.fresh.confidence
        | .auto =>
          if s.engine.state = .active then s.output.fresh.splice
          else if s.formatter.state = .recording ∨ s.formatter.state = .stopping then
            s.output.fresh.input
          else s.output.fresh.advance
    let mark : Mark := match chosen with
      | some f => f.mark
      | none => .never
    (¬due → exec .outputBoundary s = .next s) ∧
    (due → exec .outputBoundary s = .next (s.setOutput { s.output with
      playing := match chosen with
        | some f => f.pairs
        | none => List.replicate (spf s.input.rate) Pair.zero
      playPos := 0
      status := { format := if mark = .free then .pro else .consumer, copy := mark,
                  rate := s.input.rate }
      fresh := { input := none, advance := none, confidence := none, splice := none }
      tickWaiting := false
      clocks := 0
      freeRun := false
      unstarted := false }))

/-- RECEIVER_PAIR_STROBE: the pair enters a DIGITAL frame in gathering in PLAY while the lock indication is active,
and is discarded in any other case. -/
def Obligations.ReceiverPairEntersOrIsDiscarded : Prop :=
  ∀ (s : State) (p : Pair), s.link.resetDue = false →
    exec (.receiverPairStrobe p) s = .next
      (match s.input.gathering with
        | some g =>
          if g.source = .digital ∧ s.pins.transport = .play ∧ s.pins.locked = true then
            s.setInput { s.input with gathering := some { g with
              pairs := if g.pairs.length < spf s.input.rate then g.pairs ++ [p] else g.pairs
              received := min (g.received + 1) 65535 } }
          else s
        | none => s)

/-- A status arrival becomes the latest arrival and sets the absence count to 0; a change of the lock indication sets
its level; an absence count of 6 makes the input status ABSENT. At each of these events the class is derived again,
the interval status becomes the more restrictive of itself and the new effective status, an ABSENT class is seen by
the frame in gathering, and INPUT_STATUS_CHANGE is raised once exactly when the class differs. That
ABSENCE_COUNT_EXPIRY is this stage of the tick by itself is DEDUCED (log 7). -/
def Obligations.InputStatusFollowsItsEvents : Prop :=
  let follow := fun (cls : InputClass) (s : State) =>
    let eff : Mark := match cls with
      | .absent => .once
      | .pro => .free
      | .consumer copy => copy
    let t := (s.setLineage { s.lineage with
        cls := cls
        interval := s.lineage.interval.map (fun m => if markCode m < markCode eff then eff else m) }).setInput
      { s.input with
        gathering := s.input.gathering.map
          (fun g => { g with absentSeen := g.absentSeen || cls == .absent }) }
    if cls = s.lineage.cls then t else raise .inputStatusChange t
  let derive := fun (a : Option StatusArrival) (absence : Nat) (locked : Bool) (rate : Rate) =>
    match a with
    | none => InputClass.absent
    | some a =>
      if 6 ≤ absence ∨ locked = false ∨
          ¬((a.rate = .rate48 ∧ rate = .rate48) ∨ (a.rate = .rate44 ∧ rate = .rate44)) then .absent
      else if a.format = .pro then .pro
      else .consumer a.copy
  (∀ (s : State) (a : StatusArrival), s.link.resetDue = false →
    exec (.statusArrival a) s = .next
      (follow (derive (some a) 0 s.pins.locked s.input.rate)
        (s.setLineage { s.lineage with arrival := some a, absence := 0 }))) ∧
  (∀ (s : State) (active : Bool), s.link.resetDue = false →
    exec (.lockIndicationChange active) s = .next
      (follow (derive s.lineage.arrival s.lineage.absence active s.input.rate)
        (s.setPins { s.pins with locked := active }))) ∧
  (∀ s : State, s.link.resetDue = false →
    exec .absenceCountExpiry s = .next
      (if 6 ≤ s.lineage.absence then follow .absent s else s))

/-- SOURCE SELECT, MONITOR SELECT and INPUT STATUS READ at service. A change of rate is refused with STATE while the
formatter is not IDLE or the engine not DISARMED; otherwise it empties the input buffer, the cue list and the ring,
releases the queries held behind the entries that leave, makes the concealment records forget, and restarts the count
to the next boundary; until the first boundary after a reset the status port takes the new rate. A SOURCE SELECT that
repeats the rate takes the source alone. The count from 1 is the model's (log 8), that the frame playing and the
frames closed stay is DEDUCED (log 10), that a tick whose sample clock is still to come keeps it as a boundary is the
model's choice (log 38), and that a NOTICE raised at service stands before the reply is the model's choice (log 15).
-/
def Obligations.PortRequestsServed : Prop :=
  (∀ (s : State) (r : LinkRequest) (src rt : Byte), Serves s r → r.kind = .sourceSelect →
    r.payload = [src, rt] →
    let source : Source := if src = 0 then .converter else .digital
    let rate : Rate := if rt = 0 then .rate48 else .rate44
    if 1 < src.toNat ∨ 1 < rt.toNat then exec .sourceSelect s = .next (replied r [5] s)
    else if rate = s.input.rate then
      exec .sourceSelect s = .next (replied r [0] (s.setInput { s.input with source := source }))
    else if s.formatter.state ≠ .idle ∨ s.engine.state ≠ .disarmed then
      exec .sourceSelect s = .next (replied r [6] s)
    else ∃ t, exec .sourceSelect s = .next (replied r [0] t) ∧
      t.input = { source := source, rate := rate, gathering := none, closed := [] } ∧
      t.lineage.interval = none ∧ t.lineage.cls = classNow t ∧
      t.lineage.arrival = s.lineage.arrival ∧ t.lineage.absence = s.lineage.absence ∧
      t.lineage.origin = s.lineage.origin ∧ t.lineage.refusals = s.lineage.refusals ∧
      (t.lineage.cls ≠ s.lineage.cls → hasCause t.notice.pending .inputStatusChange = true) ∧
      t.engine = { s.engine with cues := [] } ∧ t.ring = [] ∧
      t.query.limit = s.query.limit ∧
      t.query.entries = s.query.entries.map (fun e => match e.state with
        | .held id =>
          if s.engine.cues.any (fun c => c.id == id) then { e with state := .waiting } else e
        | .waiting | .complete _ _ => e) ∧
      t.conceal.hlim = s.conceal.hlim ∧
      (∀ h, (t.conceal.chans.get h).l = { (s.conceal.chans.get h).l with
          prev := { (s.conceal.chans.get h).l.prev with valid := false, number := none } } ∧
        (t.conceal.chans.get h).r = { (s.conceal.chans.get h).r with
          prev := { (s.conceal.chans.get h).r.prev with valid := false, number := none } }) ∧
      t.output = { s.output with
        clocks := 1
        freeRun := true
        status := if s.output.unstarted = true then { format := .consumer, copy := .never, rate := rate }
                  else s.output.status } ∧
      t.formatter = s.formatter ∧ t.decoder = s.decoder ∧ t.gathered = s.gathered ∧
      t.position = s.position ∧ t.pins = s.pins ∧ t.sampleCount = s.sampleCount) ∧
  (∀ (s : State) (r : LinkRequest) (m : Byte), Serves s r → r.kind = .monitorSelect →
    r.payload = [m] →
    exec .monitorSelect s = .next
      (if m = 0 then replied r [0] (s.setOutput { s.output with monitor := .input })
       else if m = 1 then replied r [0] (s.setOutput { s.output with monitor := .advance })
       else if m = 2 then replied r [0] (s.setOutput { s.output with monitor := .confidence })
       else if m = 3 then replied r [0] (s.setOutput { s.output with monitor := .auto })
       else replied r [5] s)) ∧
  (∀ (s : State) (r : LinkRequest), Serves s r → r.kind = .inputStatusRead → r.payload = [] →
    ∃ reply, exec .inputStatusRead s = .next (replied r reply s) ∧ reply.length = 15 ∧
      reply = [0, if s.input.source = .converter then 0 else 1,
          if s.input.rate = .rate48 then 0 else 1, if s.pins.locked then 1 else 0]
        ++ (match s.lineage.cls, s.lineage.arrival with
          | .absent, _ => [0, 0, 0, 0]
          | _, none => [0, 0, 0, 0]
          | _, some a => [1, if a.format = .pro then 0 else 1, BitVec.ofNat 8 (markCode a.copy),
              BitVec.ofNat 8 (arrivalRateCode a.rate)])
        ++ (match s.input.closed with
          | [] => [0, 0, 0, 0, 0, 0, 0]
          | c :: _ => 1 :: be 3 c.number.toNat ++ [BitVec.ofNat 8 (conditionCode c.condition)]
              ++ be 2 c.received))

/-- FRAME_TICK in PLAY at the input unit: the frame in gathering closes with exactly spf pairs under the condition and
the ruling of the tables, joins the three most recently closed frames, raises INPUT_SLIP when TRIMMED or FILLED, and
is handed to the output unit's INPUT source with its pairs as closed, under its written mark or, ruled REFUSE, NEVER
(with no frame in gathering nothing is handed over); the next frame opens with the number W has after the tick and the
selected source, its interval status the effective status of the moment. -/
def Obligations.TickClosesAndOpensCaptureFrames : Prop :=
  ∀ (s : State) (low : BitVec 4), s.link.resetDue = false → s.pins.transport = .play →
    ∃ t, exec (.frameTick low) s = .next t ∧
      t.input.source = s.input.source ∧ t.input.rate = s.input.rate ∧
      t.input.gathering = some { number := s.position.w + 1, source := s.input.source, pairs := [],
                                 received := 0, absentSeen := t.lineage.cls == .absent } ∧
      t.lineage.interval = some (effective t.lineage.cls) ∧
      t.lineage.absence = min (s.lineage.absence + 1) 6 ∧
      (s.input.gathering = none →
        t.input.closed = s.input.closed ∧ t.lineage.lastRuling = s.lineage.lastRuling ∧
        t.output.fresh.input = s.output.fresh.input) ∧
      t.output = { s.output with
        tickWaiting := true
        fresh := { s.output.fresh with
          input := t.output.fresh.input
          splice := t.output.fresh.splice } } ∧
      ∀ g, s.input.gathering = some g →
        let n := spf s.input.rate
        let status := s.lineage.interval.getD (effective s.lineage.cls)
        let ruling : Ruling := match g.source, status with
          | .converter, _ => .permit s.lineage.origin
          | .digital, .free => .permit .free
          | .digital, .once => .permit .never
          | .digital, .never => .refuse
        let condition : Condition :=
          if g.source = .digital ∧ g.absentSeen = true then .absent
          else if g.received = n then .normal
          else if n < g.received then .trimmed
          else .filled
        (∃ pairs, pairs.length = n ∧
          t.input.closed = ((⟨g.number, g.source, pairs, condition, g.received, ruling⟩ : CaptureFrame)
            :: s.input.closed).take 3 ∧
          t.output.fresh.input = some { pairs := pairs
                                        mark := match ruling with
                                          | .permit m => m
                                          | .refuse => .never } ∧
          (condition = .absent → pairs = List.replicate n Pair.zero) ∧
          (condition ≠ .absent → pairs.take g.pairs.length = g.pairs.take n) ∧
          (condition ≠ .absent → ∀ p, g.pairs.getLast? = some p →
            ∀ i, g.pairs.length ≤ i → i < n → pairs[i]? = some p) ∧
          (condition ≠ .absent → g.pairs = [] →
            ∀ i, i < n → pairs[i]? = some ((s.input.closed.head?.bind
              (fun c => c.pairs.getLast?)).getD Pair.zero))) ∧
        t.lineage.lastRuling = some { number := g.number, ruling := ruling } ∧
        ((condition = .trimmed ∨ condition = .filled) →
          hasCause t.notice.pending .inputSlip = true)

/-! ## Recording -/

/-- RECORD START, RECORD STOP and RECORD STATUS at service. A mode above 1 or a program above 999 draws BAD_VALUE; a
formatter not IDLE, an engine not DISARMED, a transport not in PLAY, or CONTINUE without LOCKED draws STATE. A taken
RECORD START sets up the recording record and the count; CONTINUE keeps W and the lock; NEW sets W to the start frame,
forgets the lock (raising LOCK_CHANGE when it was not UNLOCKED) and renumbers the capture frames held by the change of
W. That an emission still in progress belongs to the earlier recording is DEDUCED (log 17); that the NOTICE of
LOCK_CHANGE stands before the reply is the model's choice (log 15). RECORD STOP turns RECORDING into STOPPING and
nothing else; RECORD STATUS reads the record in 31 bytes. -/
def Obligations.RecordRequestsServed : Prop :=
  (∀ (s : State) (r : LinkRequest) (m f0 f1 f2 p0 p1 t0 t1 : Byte), Serves s r →
    r.kind = .recordStart → r.payload = [m, f0, f1, f2, p0, p1, t0, t1] →
    let program := BitVec.ofNat 16 (ofBe [p0, p1])
    let start := BitVec.ofNat 24 (ofBe [f0, f1, f2])
    if 1 < m.toNat ∨ 999 < ofBe [p0, p1] then exec .recordStart s = .next (replied r [5] s)
    else if s.formatter.state ≠ .idle ∨ s.engine.state ≠ .disarmed ∨ s.pins.transport ≠ .play ∨
        (m = 0 ∧ s.position.lock ≠ .locked) then exec .recordStart s = .next (replied r [6] s)
    else
      let started := s.setFormatter { s.formatter with
        state := .recording
        record := { mode := some (if m = 0 then .continuing else .new), program := program,
                    take := BitVec.ofNat 16 (ofBe [t0, t1]), first := none, last := none,
                    framesWritten := 0, framesSilenced := 0, endReason := none }
        unconfirmed := 0
        emission := s.formatter.emission.map (fun e =>
          { e with origin := if e.origin = .splice then .splice else .earlier }) }
      if m = 0 then
        exec .recordStart s = .next (replied r ([0, 1] ++ be 3 (s.position.w + 1).toNat) started)
      else
        let diff := start - s.position.w
        exec .recordStart s = .next (replied r ([0, 1] ++ be 3 (start + 1).toNat)
          (raiseIf (s.position.lock != .unlocked) .lockChange
            ((started.setPosition { s.position with
                w := start
                lock := .unlocked
                agree := 0
                seq := 0
                disagree := 0
                last := none
                age := 0 }).setInput { s.input with
                gathering := s.input.gathering.map (fun g => { g with number := g.number + diff })
                closed := s.input.closed.map (fun c => { c with number := c.number + diff }) })))) ∧
  (∀ (s : State) (r : LinkRequest), Serves s r → r.kind = .recordStop → r.payload = [] →
    let last := match s.formatter.record.last with
      | some n => 1 :: be 3 n.toNat
      | none => [0, 0, 0, 0]
    exec .recordStop s = .next (match s.formatter.state with
      | .recording => replied r ([0, 2] ++ last)
          (s.setFormatter { s.formatter with state := .stopping })
      | .stopping => replied r ([0, 2] ++ last) s
      | .idle => replied r ([0, 0] ++ last) s)) ∧
  (∀ (s : State) (r : LinkRequest), Serves s r → r.kind = .recordStatus → r.payload = [] →
    let rec' := s.formatter.record
    let frame := fun (o : Option FrameNo) => match o with
      | some n => 1 :: be 3 n.toNat
      | none => [0, 0, 0, 0]
    ∃ reply, exec .recordStatus s = .next (replied r reply s) ∧ reply.length = 31 ∧
      reply = [(0 : Byte), match s.formatter.state with
          | .idle => 0
          | .recording => 1
          | .stopping => 2]
        ++ (match rec'.mode with
          | none => [0, 0]
          | some .continuing => [1, 0]
          | some .new => [1, 1])
        ++ be 2 rec'.program.toNat ++ be 2 rec'.take.toNat ++ frame rec'.first ++ frame rec'.last
        ++ be 4 rec'.framesWritten ++ be 4 rec'.framesSilenced
        ++ (match rec'.endReason with
          | none => [0, 0]
          | some .stopped => [1, 0]
          | some .transport => [1, 1]
          | some .refused => [1, 2])
        ++ [BitVec.ofNat 8 s.formatter.written.length] ++ be 4 s.formatter.unconfirmed)

/-- FRAME_TICK in PLAY while RECORDING or STOPPING: frame W (W after the tick) is coded from capture frame W − 2, or
from the stand-in of zeros under PERMIT and NEVER when the buffer lacks it. PERMIT hands over the capture frame's
pairs under its written mark; REFUSE with SILENCE hands over zeros under NEVER with the refused flag; REFUSE with HALT
hands over nothing and ends the recording with REFUSED. A frame handed over in STOPPING ends it with STOPPED. A
refused frame opens a refused span, listed while the list has room, or extends the open one; a permitted frame and
every end close the open span, the refused frame of the same tick within it, and its list entry takes the last refused
frame as its end frame. A frame still in emission at the tick counts as written first (DEDUCED, log 16). -/
def Obligations.TickWritesTheRecordedFrame : Prop :=
  (∀ (s u : State) (low : BitVec 4), s.link.resetDue = false → s.pins.transport = .play →
    exec .frameWritten s = .next u → exec (.frameTick low) s = exec (.frameTick low) u) ∧
  (∀ (s : State) (low : BitVec 4), s.link.resetDue = false → s.pins.transport = .play →
    InputInv s → CueListInv s → 1 ≤ s.decoder.preread → s.engine.state = .disarmed → s.formatter.emission = none →
    s.formatter.state ≠ .idle →
    let w := s.position.w + 1
    let n := spf s.input.rate
    let capture : List Pair × Ruling := match s.input.closed with
      | c :: _ => (c.pairs, c.ruling)
      | [] => (List.replicate n Pair.zero, .permit .never)
    let subcode := fun (mark : Mark) (refused : Bool) =>
      ({ number := w, program := s.formatter.record.program, take := s.formatter.record.take,
         mark := mark, rate := s.input.rate, kind := .normal, refused := refused } : Subcode)
    let ended := fun (r : EndReason) => { s.formatter.record with endReason := some r }
    let shut := fun (listed : Bool) (last : FrameNo) (entries : List RefusedEntry) =>
      if listed then entries.map (fun e => if e.stop = none then { e with stop := some last } else e)
      else entries
    let room := s.lineage.refusals.length < 8
    let entered : List RefusedEntry := match s.lineage.span with
      | some _ => s.lineage.refusals
      | none =>
        if room then s.lineage.refusals ++ [{ start := w, stop := none, context := .record }]
        else s.lineage.refusals
    let listed : Bool := match s.lineage.span with
      | some o => o.listed
      | none => decide room
    ∃ t, exec (.frameTick low) s = .next t ∧
      t.formatter.written = s.formatter.written ∧ t.formatter.unconfirmed = s.formatter.unconfirmed ∧
      (∀ mark, capture.2 = .permit mark →
        t.formatter.emission = some { number := w, blocks := codeFrame capture.1 (subcode mark false),
                                      origin := .recording false } ∧
        t.lineage.span = none ∧
        t.lineage.refusals = (match s.lineage.span with
          | some o => shut o.listed o.last s.lineage.refusals
          | none => s.lineage.refusals)) ∧
      (capture.2 = .refuse → s.lineage.action = .silence →
        t.formatter.emission = some
          { number := w, blocks := codeFrame (List.replicate n Pair.zero) (subcode .never true),
            origin := .recording true } ∧
        (s.formatter.state = .recording → ∃ sp, t.lineage.span = some sp ∧ sp.last = w ∧
          (∀ o, s.lineage.span = some o → sp = { o with last := w }) ∧
          (s.lineage.span = none → sp.start = w ∧ sp.context = .record ∧
            sp.listed = decide (s.lineage.refusals.length < 8) ∧
            t.lineage.refusals = (if s.lineage.refusals.length < 8 then
                s.lineage.refusals ++ [{ start := w, stop := none, context := .record }]
              else s.lineage.refusals)) ∧
          (s.lineage.span ≠ none → t.lineage.refusals = s.lineage.refusals)) ∧
        (s.formatter.state = .stopping → t.lineage.span = none ∧
          t.lineage.refusals = shut listed w entered ∧
          hasCause t.notice.pending .copyResumed = true)) ∧
      (capture.2 = .refuse → s.lineage.action = .halt →
        t.formatter.emission = none ∧ t.formatter.state = .idle ∧
        t.formatter.record = ended .refused ∧ t.lineage.span = none ∧
        t.lineage.refusals = shut listed w entered ∧
        hasCause t.notice.pending .copyResumed = true) ∧
      (¬(capture.2 = .refuse ∧ s.lineage.action = .halt) →
        t.formatter.state = (if s.formatter.state = .recording then .recording else .idle) ∧
        t.formatter.record = (if s.formatter.state = .recording then s.formatter.record
          else ended .stopped)) ∧
      (capture.2 = .refuse → s.lineage.span = none →
        hasCause t.notice.pending .copyRefused = true ∧
        (8 ≤ s.lineage.refusals.length → t.lineage.incomplete = true ∧
          hasCause t.notice.pending .refusalListFull = true)) ∧
      (t.lineage.span = none → s.lineage.span ≠ none →
        hasCause t.notice.pending .copyResumed = true))

/-- FRAME_WRITTEN: with nothing in emission nothing changes (the model's choice, log 3). Otherwise the gate closes and
the frame is written: its number joins the written-frame list as the newest, once, the oldest of a full list leaving
with a count; a frame of the recording enters the recording record, and one of the edit engine does not. A splice
frame is counted in the ACTIVE entry's run; when the tick had decided the entry's end, the entry ends now, in EXECUTE,
with its splice log record, its cause, its removal from the list, and the cursor on the entry that followed. That a
frame of an earlier recording does not enter the record is DEDUCED (log 17). -/
def Obligations.FrameWrittenRecordsTheFrame : Prop :=
  let written := fun (e : Emission) (f : Formatter) =>
    let others := f.written.filter (fun x => x != e.number)
    let full := 8 ≤ others.length
    { f with
      emission := none
      written := (if full then others.tail else others) ++ [e.number]
      unconfirmed := if full then min (f.unconfirmed + 1) 4294967295 else f.unconfirmed
      record := match e.origin with
        | .recording silenced => { f.record with
            first := some (f.record.first.getD e.number)
            last := some e.number
            framesWritten := min (f.record.framesWritten + 1) 4294967295
            framesSilenced := if silenced then min (f.record.framesSilenced + 1) 4294967295
                              else f.record.framesSilenced }
        | .earlier | .splice => f.record }
  (∀ s : State, s.link.resetDue = false → s.formatter.emission = none →
    exec .frameWritten s = .next s) ∧
  (∀ (s : State) (e : Emission), s.link.resetDue = false → s.formatter.emission = some e →
    (e.origin ≠ .splice ∨ s.engine.state ≠ .active) →
    exec .frameWritten s = .next (s.setFormatter (written e s.formatter))) ∧
  (∀ (s : State) (e : Emission), s.link.resetDue = false → s.formatter.emission = some e →
    e.origin = .splice → s.engine.state = .active → s.engine.run.ending = none →
    exec .frameWritten s = .next ((s.setFormatter (written e s.formatter)).setEngine
      { s.engine with run := { s.engine.run with
                               last := some e.number
                               framesWritten := min (s.engine.run.framesWritten + 1) 4294967295 } })) ∧
  (∀ (s : State) (e : Emission) (c : CueEntry) (x : Ending) (pre post : List CueEntry),
    s.link.resetDue = false → s.formatter.emission = some e → e.origin = .splice →
    s.engine.state = .active → s.engine.arm = { mode := .execute, loop := false } →
    s.engine.run.ending = some x → s.engine.cues = pre ++ c :: post →
    (∀ d ∈ pre ++ post, d.id ≠ c.id) → s.engine.cursor = .entry c.id →
    ∃ t, exec .frameWritten s = .next t ∧ t.formatter = written e s.formatter ∧
      t.engine = { s.engine with
        cues := pre ++ post
        state := if post = [] then .disarmed else .armed
        cursor := match post with
          | [] => .absent
          | d :: _ => .entry d.id
        pendingAbort := false
        run := EntryRun.empty
        log := ({ id := c.id, mode := .execute,
                  outcome := if x = .complete then .completed else .aborted,
                  reason := match x with
                    | .complete => none
                    | .refusal => some .refused
                    | .request => some .requested,
                  first := s.engine.run.first, last := some e.number,
                  framesWritten := min (s.engine.run.framesWritten + 1) 4294967295,
                  degraded := c.degraded, openEnded := false } :: s.engine.log).take 16
        recordsMade := min (s.engine.recordsMade + 1) 4294967295 } ∧
      t.query.entries = s.query.entries.map (fun q =>
        if q.state = .held c.id then { q with state := .waiting } else q) ∧
      t.lineage.span = none ∧
      hasCause t.notice.pending (if x = .complete then .editFinished else .editAborted) = true)

/-- TRANSPORT_STATE: the level the pins already show changes nothing (log 19), and between two states outside PLAY,
or into PLAY, the pins alone change, with the queues of the clear-on-stop lines emptied on entering STOPPED. Leaving
PLAY empties the input buffer, cuts the emission short (the frame is not written), ends a recording with TRANSPORT
(also in place of STOPPED when its stopping frame is cut short), unlocks the position unit with W kept, and aborts
the ACTIVE entry, open-ended in EXECUTE; each block's cause is raised. In EXECUTE the aborted entry leaves the list and
what is HELD behind it becomes WAITING; in REHEARSE it returns to PENDING and the queries stay; the cursor advances to
the entry that followed. -/
def Obligations.TransportChangesReachEveryBlock : Prop :=
  let cleared := fun (x : Transport) (p : Position) =>
    { p with gpi := p.gpi.map (fun l =>
        if x = .stopped ∧ l.clearOnStop = true then { l with queue := [] } else l) }
  (∀ (s : State) (x : Transport), s.link.resetDue = false →
    (x = s.pins.transport → exec (.transportState x) s = .next s) ∧
    (x ≠ s.pins.transport → s.pins.transport ≠ .play →
      exec (.transportState x) s = .next
        ((s.setPins { s.pins with transport := x }).setPosition (cleared x s.position)))) ∧
  (∀ (s : State) (x : Transport), s.link.resetDue = false → s.pins.transport = .play → x ≠ .play →
    let own := s.formatter.emission.any (fun e => e.origin != .earlier && e.origin != .splice)
    let ends := s.formatter.state ≠ .idle ∨ own = true
    ∃ t, exec (.transportState x) s = .next t ∧
      t.pins = { s.pins with transport := x } ∧ t.sampleCount = s.sampleCount ∧
      t.input = { s.input with gathering := none, closed := [] } ∧ t.lineage.interval = none ∧
      t.formatter.state = .idle ∧ t.formatter.emission = none ∧
      t.formatter.written = s.formatter.written ∧ t.formatter.unconfirmed = s.formatter.unconfirmed ∧
      (ends → t.formatter.record = { s.formatter.record with endReason := some .transport }) ∧
      (¬ends → t.formatter.record = s.formatter.record) ∧
      (s.formatter.state ≠ .idle → t.lineage.span = none) ∧
      (s.lineage.span ≠ none → t.lineage.span = none →
        hasCause t.notice.pending .copyResumed = true) ∧
      t.position = cleared x { s.position with
        lock := .unlocked
        agree := 0
        seq := 0
        disagree := 0
        last := none
        age := 0 } ∧
      (s.position.lock ≠ .unlocked → hasCause t.notice.pending .lockChange = true) ∧
      t.output = s.output ∧ t.ring = s.ring ∧ t.decoder = s.decoder ∧ t.conceal = s.conceal ∧
      t.gathered = s.gathered ∧
      (s.engine.state ≠ .active → t.engine = s.engine ∧ t.query = s.query) ∧
      (∀ c, s.engine.state = .active → cursorCue s = some c → t.engine.state ≠ .active ∧
        hasCause t.notice.pending .editAborted = true ∧
        t.engine.log.head? = some
          { id := c.id, mode := s.engine.arm.mode, outcome := .aborted,
            reason := some (match s.engine.run.ending with
              | some .refusal => .refused
              | some .request => .requested
              | some .complete => .transport
              | none => .transport),
            first := s.engine.run.first, last := s.engine.run.last,
            framesWritten := s.engine.run.framesWritten, degraded := c.degraded,
            openEnded := decide (s.engine.arm.mode = .execute) }) ∧
      (∀ (c : CueEntry) (pre post : List CueEntry), EngineInv s → s.engine.state = .active →
        s.engine.cues = pre ++ c :: post → s.engine.cursor = .entry c.id →
        let execute := s.engine.arm.mode = .execute
        t.engine = s.engine.ended
          (if execute then pre ++ post else pre ++ { c with state := .pending, degraded := 0 } :: post) post
          { id := c.id, mode := s.engine.arm.mode, outcome := .aborted,
            reason := some (match s.engine.run.ending with
              | some .refusal => .refused
              | some .request => .requested
              | some .complete => .transport
              | none => .transport),
            first := s.engine.run.first, last := s.engine.run.last,
            framesWritten := s.engine.run.framesWritten, degraded := c.degraded,
            openEnded := decide execute } ∧
        t.query = { s.query with entries := s.query.entries.map (fun q =>
          if execute ∧ q.state = .held c.id then { q with state := .waiting } else q) } ∧
        (execute → t.lineage.span = none)))

/-! ## Lineage -/

/-- LINEAGE SETUP, LINEAGE STATUS and REFUSAL LIST READ at service. The setup takes the origin mark and the refusal
action, or turns an unlisted code away with BAD_VALUE; the status reads 31 bytes and changes nothing; the list read
answers with the list as it stood, and its clear removes the closed entries and clears INCOMPLETE unless an unlisted
span is open. -/
def Obligations.LineageRequestsServed : Prop :=
  RequestKind.lineageSetup.length = 2 ∧ RequestKind.lineageStatus.length = 0 ∧
  RequestKind.refusalListRead.length = 1 ∧
  (∀ (s : State) (r : LinkRequest) (m a : Byte), Serves s r → r.kind = .lineageSetup →
    r.payload = [m, a] →
    exec .lineageSetup s = .next
      (if 2 < m.toNat ∨ 1 < a.toNat then replied r [5] s
       else replied r [0, m, a] (s.setLineage { s.lineage with
          origin := if m = 0 then .free else if m = 1 then .once else .never
          action := if a = 0 then .silence else .halt }))) ∧
  (∀ (s : State) (r : LinkRequest), Serves s r → r.kind = .lineageStatus → r.payload = [] →
    let l := s.lineage
    let mark := fun (m : Mark) => BitVec.ofNat 8 (markCode m)
    let ruling := fun (x : Ruling) => match x with
      | .permit m => [0, 1, mark m]
      | .refuse => [1, 0, 0]
    let context := fun (x : SpanContext) => match x with
      | .record => [0, 0, 0]
      | .edit id => [1, 1, BitVec.ofNat 8 id]
    let status : Mark := match l.cls with
      | .absent => .once
      | .pro => .free
      | .consumer m => m
    let current : Ruling := match s.input.source, status with
      | .converter, _ => .permit l.origin
      | .digital, .free => .permit .free
      | .digital, .once => .permit .never
      | .digital, .never => .refuse
    ∃ reply, exec .lineageStatus s = .next (replied r reply s) ∧ reply.length = 31 ∧
      reply = [(0 : Byte), match l.cls with
          | .absent => 0
          | .pro => 1
          | .consumer .free => 2
          | .consumer .once => 3
          | .consumer .never => 4]
        ++ [BitVec.ofNat 8 l.absence, mark status]
        ++ (match l.interval with
          | some m => [1, mark m]
          | none => [0, 0])
        ++ ruling current
        ++ [mark l.origin, if l.action = .silence then 0 else 1]
        ++ (match l.lastRuling with
          | some x => 1 :: be 3 x.number.toNat ++ ruling x.ruling
          | none => [0, 0, 0, 0, 0, 0, 0])
        ++ (match l.span with
          | some sp => 1 :: be 3 sp.start.toNat ++ be 3 sp.last.toNat ++ context sp.context
              ++ [if sp.listed then 1 else 0]
          | none => [0, 0, 0, 0, 0, 0, 0, 0, 0, 0, 0])
        ++ [BitVec.ofNat 8 l.refusals.length, if l.incomplete then 1 else 0]) ∧
  (∀ (s : State) (r : LinkRequest) (c : Byte), Serves s r → r.kind = .refusalListRead →
    r.payload = [c] →
    let entry := fun (e : RefusedEntry) =>
      be 3 e.start.toNat
        ++ (match e.stop with
          | some n => 1 :: be 3 n.toNat
          | none => [0, 0, 0, 0])
        ++ (match e.context with
          | .record => [0, 0, 0]
          | .edit id => [1, 1, BitVec.ofNat 8 id])
    let reply := [0, if s.lineage.incomplete then 1 else 0, BitVec.ofNat 8 s.lineage.refusals.length]
      ++ s.lineage.refusals.flatMap entry
    let unlistedOpen := ∃ sp, s.lineage.span = some sp ∧ sp.listed = false
    (s.lineage.refusals.length ≤ 8 → reply.length ≤ 83) ∧
    (1 < c.toNat → exec .refusalListRead s = .next (replied r [5] s)) ∧
    (c = 0 → exec .refusalListRead s = .next (replied r reply s)) ∧
    (c = 1 → ∃ t, exec .refusalListRead s = .next (replied r reply t) ∧
      t = s.setLineage { s.lineage with
        refusals := s.lineage.refusals.filter (fun e => e.stop.isNone)
        incomplete := t.lineage.incomplete } ∧
      (t.lineage.incomplete = true ↔ (s.lineage.incomplete = true ∧ unlistedOpen))))

/-! ## Tape and decoder -/

/-- The 102 blocks of a coded frame, read one by one by a head whose frame in assembly is empty, give back the
subcode record (from track A), every place filled, and every sample of both channels. -/
def Obligations.WrittenFrameIsReadBack : Prop :=
  ∀ (s : State) (h : Head) (pairs : List Pair) (r : Subcode), s.link.resetDue = false →
    s.decoder.assembly.get h = Assembly.empty → pairs.length = spf s.input.rate →
    r.program.toNat ≤ 999 →
    (codeFrame pairs r).length = 102 ∧ (∀ b ∈ codeFrame pairs r, b.length = 126) ∧
    ∃ t, runCommands ((codeFrame pairs r).map (Instr.blockArrival h)) s = .next t ∧
      let a := t.decoder.assembly.get h
      chooseSubcode a = (some r, .a) ∧ erasedCount a = 0 ∧ lostCount a = 0 ∧ a.foreign = 0 ∧
      frameSamples (spf s.input.rate) a =
        ⟨pairs.map (fun p => some p.l), pairs.map (fun p => some p.r)⟩

/-- Ten consecutive positions hold one member of each group at most, so that a coded frame that loses any run of up to
10 blocks in write order, also across the two tracks, keeps its subcode and every sample. A run of 11 positions of one
track, from p to p + 10, loses the data blocks of positions p and p + 10 for good, and no other: none when it covers
positions 40 to 50. -/
def Obligations.BurstOfTenBlocksIsRepaired : Prop :=
  (∀ p x y : Nat, p ≤ x → x < y → y < p + 10 → x % 10 ≠ y % 10) ∧
  (∀ (s : State) (h : Head) (pairs : List Pair) (r : Subcode) (i k : Nat), s.link.resetDue = false →
    s.decoder.assembly.get h = Assembly.empty → pairs.length = spf s.input.rate →
    r.program.toNat ≤ 999 → k ≤ 10 →
    ∃ t, runCommands (((codeFrame pairs r).take i ++ (codeFrame pairs r).drop (i + k)).map
        (Instr.blockArrival h)) s = .next t ∧
      let a := t.decoder.assembly.get h
      (chooseSubcode a).1 = some r ∧ lostCount a = 0 ∧
      frameSamples (spf s.input.rate) a =
        ⟨pairs.map (fun p => some p.l), pairs.map (fun p => some p.r)⟩) ∧
  (∀ (s : State) (h : Head) (pairs : List Pair) (r : Subcode) (track : Track) (p : Nat),
    s.link.resetDue = false → s.decoder.assembly.get h = Assembly.empty → p ≤ 40 →
    let first := (if track = .a then 0 else 51) + p
    ∃ t, runCommands (((codeFrame pairs r).take first ++ (codeFrame pairs r).drop (first + 11)).map
        (Instr.blockArrival h)) s = .next t ∧
      ∀ j, j < 40 → (dataBlock (t.decoder.assembly.get h) track j = none ↔ (j = p ∨ j = p + 10)))

/-- BLOCK_ARRIVAL: the channel interface gathers the bytes. A block that is not usable (its length, its CRC, its track
or its position) leaves the frame in assembly as it stood, and so does a usable block with any one byte changed. The
first usable block fixes the tag; one of the same tag fills its place, or is discarded when the place is filled; one
of another tag counts as foreign, up to 255. The other head is not touched. That bytes of another length than 126 are
gathered and discarded is DEDUCED (log 20). -/
def Obligations.BlockArrivalIsJudged : Prop :=
  ∀ (s : State) (h : Head), s.link.resetDue = false →
    let a := s.decoder.assembly.get h
    let gathered := fun (bytes : List Byte) =>
      s.setGathered (s.gathered.set h (s.gathered.get h ++ [bytes]))
    (∀ bytes : List Byte,
      (bytes.length ≠ 126 ∨ be 2 (crc16 (bytes.take 124)).toNat ≠ bytes.drop 124 ∨
        1 < (bytes.getD 0 0).toNat ∨ 50 < (bytes.getD 1 0).toNat) →
      exec (.blockArrival h bytes) s = .next (gathered bytes)) ∧
    (∀ (track : Track) (position : Nat) (tag : Word16) (payload : List Byte),
      position ≤ 50 → payload.length = 120 →
      let bytes := blockBytes track position tag payload
      let places := a.places ++ [{ track := track, position := position, payload := payload }]
      exec (.blockArrival h bytes) s = .next ((gathered bytes).setDecoder { s.decoder with
        assembly := s.decoder.assembly.set h (match a.tag with
          | none => { a with tag := some tag, places := places }
          | some x =>
            if x ≠ tag then { a with foreign := min (a.foreign + 1) 255 }
            else if a.places.any (fun p => p.track == track && p.position == position) then a
            else { a with places := places }) }) ∧
      ∀ (i : Nat) (x : Byte), i < 126 → bytes.getD i 0 ≠ x →
        exec (.blockArrival h (bytes.set i x)) s = .next (gathered (bytes.set i x)))

/-- HEAD_FRAME_END: the head's assembly and gathering are empty again, and one quality record, numbered by the
subcode, by the expected number under lock, or by the written-frame list, joins the head's history (of 16) and totals.
A subcode of the other rate makes every sample invalid and raises RATE_MISMATCH. The frame's samples are concealed by
the stream's two channel states (the rules of one channel stand in ConcealmentFollowsItsRuns): pairs, flags, counts and
channel states are what that gives, and an entry into MUTED of the ADVANCE stream raises PLAY_MUTE, one raising standing
for several (DEDUCED, log 33). The concealed frame of spf pairs goes to the output unit under its subcode's mark, or
NEVER; a numbered ADVANCE frame not below W enters the ring in place of
one of its number or as the newest of 8; a numbered CONFIDENCE frame is struck off the written-frame list, with
CONFIDENCE_FAULT when it lost blocks. With no block lost, no mismatch and full gain the pairs are the tape's. The other
head's assembly, history, totals and channels stay. -/
def Obligations.HeadFrameEndRecordsTheFrame : Prop :=
  ∀ (s : State) (h : Head), s.link.resetDue = false →
    let a := s.decoder.assembly.get h
    let sub := (chooseSubcode a).1
    let n := spf s.input.rate
    let samples := frameSamples n a
    let expected := s.position.w + BitVec.ofNat 24 s.decoder.preread
    let number : Option FrameNo := match sub, h with
      | some r, _ => some r.number
      | none, .advance =>
        if s.position.lock = .locked ∧ (a.tag = none ∨ a.tag = some (expected.setWidth 16)) then
          some expected
        else none
      | none, .confidence => s.formatter.written.find? (fun x => a.tag == some (x.setWidth 16))
    let mismatch := sub.any (fun r => r.rate != s.input.rate)
    let concealed := concealFrame s.conceal h number (if mismatch then
      ⟨List.replicate n none, List.replicate n none⟩ else samples)
    ∃ (t : State) (q : QualityRecord) (f : PlayFrame), exec (.headFrameEnd h) s = .next t ∧
      q.number = number ∧ q.head = h ∧ q.erased = erasedCount a ∧ q.recovered = recoveredCount a ∧
      q.lost = lostCount a ∧ q.source = (chooseSubcode a).2 ∧ q.foreign = a.foreign ∧
      q.mismatch = mismatch ∧ q.interpolated + q.held ≤ 2 * n ∧ q.lowest ≤ 32 ∧
      q.interpolated = concealed.2.interpolated ∧ q.held = concealed.2.held ∧
      q.lowest = concealed.2.lowest ∧ t.conceal = concealed.1 ∧ f.pairs = concealed.2.pairs ∧
      (h = .advance → 0 < concealed.2.mutes → hasCause t.notice.pending .playMute = true) ∧
      ((h = .confidence ∨ concealed.2.mutes = 0) →
        hasCause t.notice.pending .playMute = hasCause s.notice.pending .playMute) ∧
      (mismatch = true → q.interpolated = 0 ∧ q.held = 2 * n ∧
        hasCause t.notice.pending .rateMismatch = true) ∧
      t.gathered = s.gathered.set h [] ∧
      t.decoder = { s.decoder with
        assembly := s.decoder.assembly.set h Assembly.empty
        history := s.decoder.history.set h ((q :: s.decoder.history.get h).take 16)
        totals := s.decoder.totals.set h
          { decoded := min ((s.decoder.totals.get h).decoded + 1) 4294967295,
            lossy := if 0 < q.lost then min ((s.decoder.totals.get h).lossy + 1) 4294967295
                     else (s.decoder.totals.get h).lossy,
            interpolated := min ((s.decoder.totals.get h).interpolated + q.interpolated) 4294967295,
            held := min ((s.decoder.totals.get h).held + q.held) 4294967295 } } ∧
      f.pairs.length = n ∧
      f.mark = (match sub with
        | some r => r.mark
        | none => .never) ∧
      t.output = { s.output with
        fresh := match h with
          | .advance => { s.output.fresh with advance := some f }
          | .confidence => { s.output.fresh with confidence := some f } } ∧
      (mismatch = false → q.lost = 0 → (s.conceal.chans.get h).l.g = 32 →
        (s.conceal.chans.get h).r.g = 32 →
        q.interpolated = 0 ∧ q.held = 0 ∧ q.lowest = 32 ∧
        f.pairs.map (fun p => some p.l) = samples.l ∧ f.pairs.map (fun p => some p.r) = samples.r) ∧
      (match h, number with
        | .advance, some x =>
          (x.toNat < t.position.w.toNat → t.ring = s.ring) ∧
          (t.position.w.toNat ≤ x.toNat → ∃ e : RingEntry, e.number = x ∧ e.pairs = f.pairs ∧
            e.flags.length = n ∧ e.flags = concealed.2.flags ∧ e.subcode = sub ∧
            t.ring = (if s.ring.any (fun y => y.number == x) then
                s.ring.filter (fun y => y.number != x)
              else if s.ring.length < 8 then s.ring else s.ring.tail) ++ [e])
        | .advance, none => t.ring = s.ring
        | .confidence, _ => t.ring = s.ring) ∧
      (match h, number with
        | .confidence, some x =>
          t.formatter = { s.formatter with
            written := s.formatter.written.filter (fun y => y != x) } ∧
          (x ∈ s.formatter.written → 0 < q.lost → hasCause t.notice.pending .confidenceFault = true)
        | .confidence, none => t.formatter = s.formatter
        | .advance, _ => t.formatter = s.formatter) ∧
      t.conceal.hlim = s.conceal.hlim ∧
      (∀ g, g ≠ h → t.conceal.chans.get g = s.conceal.chans.get g) ∧
      t.pins = s.pins ∧ t.sampleCount = s.sampleCount ∧ t.lineage = s.lineage

/-- HEAD_FRAME_END at the query table: a WAITING entry whose frame is the subcode's completes as FOUND with the record
of its kind, the quality record as it joined the history; an ADVANCE frame closed under LOCKED without a subcode is a
pass for the WAITING entries of the expected number, and the third pass completes one as UNREADABLE; no other entry is
touched. That a frame left unnumbered because its tag disagrees with the expected number is a pass too, and may be the
third (R59 against R155), is the model's choice (log 39). QUERY_COMPLETE is raised when an entry completes. -/
def Obligations.HeadFrameEndAnswersQueries : Prop :=
  ∀ (s : State) (h : Head), s.link.resetDue = false →
    let sub := (chooseSubcode (s.decoder.assembly.get h)).1
    let expected := s.position.w + BitVec.ofNat 24 s.decoder.preread
    ∃ (t : State) (q : QualityRecord), exec (.headFrameEnd h) s = .next t ∧
      (t.decoder.history.get h).head? = some q ∧
      let answer := fun (e : QueryEntry) =>
        if e.state ≠ .waiting then e
        else match sub with
          | some r =>
            if r.number = e.frame then
              { e with state := .complete 0 (.found (match e.kind with
                  | .subcode => .subcode r
                  | .quality => .quality q)) }
            else e
          | none =>
            if h = .advance ∧ s.position.lock = .locked ∧ expected = e.frame then
              if 3 ≤ e.passes + 1 then
                { e with passes := e.passes + 1, state := .complete 0 .unreadable }
              else { e with passes := e.passes + 1 }
            else e
      t.query = { s.query with entries := s.query.entries.map answer } ∧
      ((∃ e ∈ s.query.entries, e.state = .waiting ∧ (answer e).state ≠ .waiting) →
        hasCause t.notice.pending .queryComplete = true)

/-- An ADVANCE frame with a subcode X, closed in PLAY, is judged: the sequence run and the last number first, then the
lock state's own rule. LOCKED is entered on three agreeing or three rising numbers, W being re-taken as X − D on the
latter, SLIPPED on the second disagreement; a change of the lock state raises LOCK_CHANGE, a re-take renumbers the
capture frames, and a lower W re-places the cursor of an engine ARMED in REHEARSE with LOOP. Outside PLAY, without a
subcode, and for CONFIDENCE frames, nothing of this happens. That W + D is not reduced where the cursor is re-placed is
DEDUCED (log 27). -/
def Obligations.AdvanceSubcodeIsJudged : Prop :=
  (∀ (s : State) (r : Subcode), s.link.resetDue = false → s.pins.transport = .play →
    (chooseSubcode (s.decoder.assembly.get .advance)).1 = some r →
    let p := s.position
    let x := r.number
    let d := BitVec.ofNat 24 s.decoder.preread
    let agrees := x = p.w + d
    let seq := if p.last = some (x - 1) then min (p.seq + 1) 3 else 1
    let agree := if agrees then min (p.agree + 1) 3 else 0
    let judged : Position := { p with seq := seq, last := some x }
    let locked : Position := { judged with lock := .locked, agree := 0, disagree := 0, age := 0 }
    let after : Position := match p.lock with
      | .unlocked =>
        if agree = 3 then locked
        else if seq = 3 then { locked with w := x - d }
        else { judged with agree := agree }
      | .locked =>
        if agrees then { judged with disagree := 0 }
        else if 1 ≤ p.disagree then
          { judged with lock := .slipped, age := 0, seq := 1, disagree := 0 }
        else { judged with disagree := p.disagree + 1 }
      | .slipped => if seq = 3 then { locked with w := x - d } else judged
    let diff := after.w - p.w
    ∃ t, exec (.headFrameEnd .advance) s = .next t ∧ t.position = after ∧
      (after.lock ≠ p.lock → hasCause t.notice.pending .lockChange = true) ∧
      t.input = { s.input with
        gathering := s.input.gathering.map (fun g => { g with number := g.number + diff })
        closed := s.input.closed.map (fun c => { c with number := c.number + diff }) } ∧
      t.engine = (if after.w.toNat < p.w.toNat ∧ s.engine.state = .armed ∧
          s.engine.arm.mode = .rehearse ∧ s.engine.arm.loop = true then
        { s.engine with
          cursor := match s.engine.cues.find? (fun e =>
              after.w.toNat + s.decoder.preread ≤ e.startFrame (spf s.input.rate)) with
            | some e => .entry e.id
            | none => .passed }
      else s.engine)) ∧
  (∀ (s : State) (h : Head), s.link.resetDue = false →
    (h = .confidence ∨ s.pins.transport ≠ .play ∨
      (chooseSubcode (s.decoder.assembly.get .advance)).1 = none) →
    ∃ t, exec (.headFrameEnd h) s = .next t ∧ t.position = s.position ∧ t.input = s.input ∧
      t.engine = s.engine)

/-- QUALITY READ, QUALITY TOTALS, PREREAD SETUP and CONCEAL SETUP at service: the ranges that draw BAD_VALUE, the
states in which PREREAD SETUP draws STATE, what each sets, and the fields that each reply carries, the quality record's
16 bytes field by field. -/
def Obligations.DecoderRequestsServed : Prop :=
  RequestKind.qualityRead.length = 3 ∧ RequestKind.qualityTotals.length = 1 ∧
  RequestKind.prereadSetup.length = 1 ∧ RequestKind.concealSetup.length = 2 ∧
  (∀ (s : State) (r : LinkRequest) (hd start count : Byte), Serves s r → r.kind = .qualityRead →
    r.payload = [hd, start, count] →
    if 1 < hd.toNat ∨ 15 < start.toNat ∨ count.toNat < 1 ∨ 14 < count.toNat then
      exec .qualityRead s = .next (replied r [5] s)
    else
      let h : Head := if hd = 0 then .advance else .confidence
      let history := s.decoder.history.get h
      let records := (history.drop start.toNat).take count.toNat
      exec .qualityRead s = .next (replied r
        ([0, BitVec.ofNat 8 history.length] ++ be 4 (s.decoder.totals.get h).decoded
          ++ [BitVec.ofNat 8 records.length] ++ records.flatMap qualityBytes) s) ∧
      ∀ q, (qualityBytes q).length = 16 ∧
        qualityBytes q = (match q.number with
            | some x => 1 :: be 3 x.toNat
            | none => [0, 0, 0, 0])
          ++ [if q.head = .advance then 0 else 1, BitVec.ofNat 8 q.erased, BitVec.ofNat 8 q.recovered,
            BitVec.ofNat 8 q.lost]
          ++ be 2 q.interpolated ++ be 2 q.held
          ++ [BitVec.ofNat 8 q.lowest, match q.source with
              | .a => 0
              | .b => 1
              | .none => 2,
            BitVec.ofNat 8 q.foreign, if q.mismatch then 1 else 0]) ∧
  (∀ (s : State) (r : LinkRequest) (c : Byte), Serves s r → r.kind = .qualityTotals →
    r.payload = [c] →
    let four := fun (x : Totals) => be 4 x.decoded ++ be 4 x.lossy ++ be 4 x.interpolated ++ be 4 x.held
    let reply := 0 :: four s.decoder.totals.advance ++ four s.decoder.totals.confidence
    exec .qualityTotals s = .next
      (if 1 < c.toNat then replied r [5] s
       else if c = 0 then replied r reply s
       else replied r reply (s.setDecoder { s.decoder with
          totals := ⟨{ decoded := 0, lossy := 0, interpolated := 0, held := 0 },
                     { decoded := 0, lossy := 0, interpolated := 0, held := 0 }⟩ }))) ∧
  (∀ (s : State) (r : LinkRequest) (d : Byte), Serves s r → r.kind = .prereadSetup →
    r.payload = [d] →
    exec .prereadSetup s = .next
      (if d.toNat < 1 ∨ 4 < d.toNat then replied r [5] s
       else if s.formatter.state ≠ .idle ∨ s.engine.state ≠ .disarmed then replied r [6] s
       else replied r [0, d] (s.setDecoder { s.decoder with preread := d.toNat }))) ∧
  (∀ (s : State) (r : LinkRequest) (apply lim : Byte), Serves s r → r.kind = .concealSetup →
    r.payload = [apply, lim] →
    let report := fun (limit : Nat) (x : ChannelState) =>
      [if x.g = 0 then 4 else if limit < x.h then 2 else if 1 ≤ x.h then 1
        else if x.g < 32 then 3 else 0, BitVec.ofNat 8 x.g] ++ be 2 x.h
    let reply := fun (limit : Nat) => [0, BitVec.ofNat 8 limit]
      ++ report limit s.conceal.chans.advance.l ++ report limit s.conceal.chans.advance.r
      ++ report limit s.conceal.chans.confidence.l ++ report limit s.conceal.chans.confidence.r
    exec .concealSetup s = .next
      (if 1 < apply.toNat then replied r [5] s
       else if apply = 0 then replied r (reply s.conceal.hlim) s
       else replied r (reply lim.toNat) (s.setConceal { s.conceal with hlim := lim.toNat })))

/-! ## Concealment -/

/-- Concealing the samples of one channel: one output and one flag each. Sample by sample, each from the state that
the one before it left: the base is the sample where valid, the floor of its two neighbours' mean where both are, and
else the held base; a good sample clears the hold count and raises the gain, a held one counts and lowers the gain
beyond Hlim; the output is the base at that gain, the reduced-gain flag says that the gain is below 32, the lowest
gain is the smallest of them (32 with no samples), and the interpolated, the held and the entries into MUTED are
counted. No output is greater in magnitude than the base it came from or of the other sign; a run of 32 good samples
brings the gain to 32 and every run of them clears the hold count; a run of k held samples from the gain g and hold
count h of a state lowers the gain by one for each sample beyond Hlim, so that from 32 and 0 it is 0 after Hlim + 32
of them and not before; a sample between two valid ones takes the floor of their mean, which lies between them. A run
enters MUTED once where it brings the gain from above 0 to 0, and a good run never. At the first index of a frame the
sample before it is the previous-sample record's value, when that record is valid and the frame's number follows its
number; the frame leaves the record its last sample's value (the base where it was invalid), its valid flag and its
own number. A frame is its two channels, each against its own state, and the other stream's states stay. -/
def Obligations.ConcealmentFollowsItsRuns : Prop :=
  (∀ (hlim : Nat) (st : ChannelState) (before : Option Sample) (xs : List (Option Sample)),
    (concealRun hlim st before xs).outs.length = xs.length ∧
    (concealRun hlim st before xs).flags.length = xs.length ∧
    (st.InRange → (concealRun hlim st before xs).state.InRange)) ∧
  (∀ (hlim : Nat) (st : ChannelState) (before : Option Sample) (xs : List (Option Sample)),
    let valid := fun (i : Nat) => (xs[i]?).join
    let prior := fun (i : Nat) => if i = 0 then before else valid (i - 1)
    let mean := fun (i : Nat) => (prior i).isSome && (valid (i + 1)).isSome
    let run := concealRun hlim st before xs
    ∃ left : List ChannelState, left.length = xs.length ∧
      (∀ (i : Nat) (p y : ChannelState), (st :: left)[i]? = some p → left[i]? = some y →
        (∀ v, valid i = some v → y.b = v) ∧
        (∀ a c, valid i = none → prior i = some a → valid (i + 1) = some c →
          y.b.toInt = (a.toInt + c.toInt).fdiv 2) ∧
        (valid i = none → mean i = false → y.b = p.b) ∧ y.prev = p.prev ∧
        let good := (valid i).isSome || mean i
        y.h = (if good then 0 else min (p.h + 1) 65535) ∧
        y.g = (if good then min (p.g + 1) 32 else if hlim < y.h then p.g - 1 else p.g)) ∧
      run.state = left.getLastD st ∧
      run.outs = left.map (fun y => outputAt y.b y.g) ∧
      run.flags = left.map (fun y => decide (y.g < 32)) ∧
      run.lowest = (left.map (fun y => y.g)).foldr min 32 ∧
      run.interpolated = (List.range xs.length).countP (fun i => (valid i).isNone && mean i) ∧
      run.held = (List.range xs.length).countP (fun i => (valid i).isNone && !mean i) ∧
      run.mutes = ((st :: left).zip left).countP (fun x => x.2.g == 0 && x.1.g != 0)) ∧
  (∀ (base : Sample) (g : Nat), g ≤ 32 →
    (outputAt base g).toInt.natAbs ≤ base.toInt.natAbs ∧
    (0 ≤ base.toInt → 0 ≤ (outputAt base g).toInt) ∧ (base.toInt ≤ 0 → (outputAt base g).toInt ≤ 0) ∧
    outputAt base 32 = base ∧ outputAt base 0 = 0) ∧
  (∀ (hlim : Nat) (st : ChannelState) (before : Option Sample) (vs : List Sample), st.g ≤ 32 →
    vs ≠ [] →
    let run := concealRun hlim st before (vs.map some)
    run.state.h = 0 ∧ run.state.g = min 32 (st.g + vs.length) ∧ run.held = 0 ∧ run.interpolated = 0 ∧
    run.mutes = 0 ∧
    (32 ≤ vs.length → run.state.g = 32) ∧ vs.getLast? = some run.state.b) ∧
  (∀ (hlim : Nat) (st : ChannelState) (before : Option Sample) (k : Nat), hlim ≤ 255 →
    st.h + k ≤ 65535 →
    let run := concealRun hlim st before (List.replicate k none)
    run.state.h = st.h + k ∧ run.state.b = st.b ∧ run.held = k ∧ run.interpolated = 0 ∧
    run.state.g = st.g - min k (st.h + k - hlim) ∧
    run.mutes = (if 0 < st.g ∧ run.state.g = 0 then 1 else 0) ∧
    (st.h = 0 → st.g = 32 → (run.state.g = 0 ↔ hlim + 32 ≤ k))) ∧
  (∀ b u v : Sample,
    let x := (chooseBase b (some u) none (some v)).1
    x.toInt = (u.toInt + v.toInt).fdiv 2 ∧ min u.toInt v.toInt ≤ x.toInt ∧
    x.toInt ≤ max u.toInt v.toInt ∧
    chooseBase b none none (some v) = (b, .held) ∧ chooseBase b (some u) none none = (b, .held)) ∧
  (∀ (hlim : Nat) (number : Option FrameNo) (st : ChannelState) (xs : List (Option Sample))
      (x : Option Sample), xs.getLast? = some x →
    let run := concealChannel hlim number st xs
    run.state.prev = { value := x.getD run.state.b, valid := x.isSome, number := number }) ∧
  (∀ (hlim : Nat) (number : Option FrameNo) (st : ChannelState) (v : Sample)
      (rest : List (Option Sample)),
    let follows : Bool := match number, st.prev.number with
      | some n, some m => m + 1 == n && st.prev.valid
      | some _, none => false
      | none, _ => false
    let run := concealChannel hlim number st (none :: some v :: rest)
    if follows then
      ∃ base : Sample, base.toInt = (st.prev.value.toInt + v.toInt).fdiv 2 ∧
        run.outs.head? = some (outputAt base (min (st.g + 1) 32))
    else
      run.outs.head? = some (outputAt st.b (if hlim < min (st.h + 1) 65535 then st.g - 1 else st.g))) ∧
  (∀ (c : Conceal) (h : Head) (number : Option FrameNo) (ls rs : List (Option Sample)),
    ls.length = rs.length →
    let out := concealFrame c h number ⟨ls, rs⟩
    let l := concealChannel c.hlim number (c.chans.get h).l ls
    let r := concealChannel c.hlim number (c.chans.get h).r rs
    out.1.hlim = c.hlim ∧ out.1.chans.get h = ⟨l.state, r.state⟩ ∧
    (∀ g, g ≠ h → out.1.chans.get g = c.chans.get g) ∧
    out.2.pairs.map (fun p => p.l) = l.outs ∧ out.2.pairs.map (fun p => p.r) = r.outs ∧
    out.2.flags.map (fun p => p.1) = l.flags ∧ out.2.flags.map (fun p => p.2) = r.flags ∧
    out.2.interpolated = l.interpolated + r.interpolated ∧ out.2.held = l.held + r.held ∧
    out.2.lowest = min l.lowest r.lowest ∧ out.2.mutes = l.mutes + r.mutes)

/-! ## Position -/

/-- POSITION READ, GPI SETUP and MARK READ at service: the first reads 23 bytes and changes nothing; the second gives
the line its configuration, an empty queue and a clear flag, or BAD_VALUE; the third takes the oldest mark of a MARK
line and clears its flag, or answers BAD_VALUE or STATE. -/
def Obligations.PositionRequestsServed : Prop :=
  RequestKind.positionRead.length = 0 ∧ RequestKind.gpiSetup.length = 5 ∧
  RequestKind.markRead.length = 1 ∧
  (∀ (s : State) (r : LinkRequest), Serves s r → r.kind = .positionRead → r.payload = [] →
    let p := s.position
    ∃ reply, exec .positionRead s = .next (replied r reply s) ∧ reply.length = 23 ∧
      reply = 0 :: be 3 p.w.toNat
        ++ (if s.pins.transport = .play then 1 :: be 2 (min s.sampleCount (spf s.input.rate - 1))
            else [0, 0, 0])
        ++ [match p.lock with
            | .unlocked => (0 : Byte)
            | .locked => 1
            | .slipped => 2]
        ++ be 2 p.age
        ++ [match s.pins.transport with
            | .play => (0 : Byte)
            | .shuttle => 1
            | .stopped => 2]
        ++ (match p.last with
            | some x => 1 :: be 3 x.toNat
            | none => [0, 0, 0, 0])
        ++ ([0, 1, 2, 3] : List (Fin 4)).flatMap (fun i =>
            [BitVec.ofNat 8 p.gpi[i].queue.length, if p.gpi[i].overwrite then 1 else 0])) ∧
  (∀ (s : State) (r : LinkRequest) (line fn dt depth clear : Byte), Serves s r →
    r.kind = .gpiSetup → r.payload = [line, fn, dt, depth, clear] →
    if h : line.toNat < 4 ∧ fn.toNat ≤ 3 ∧ dt.toNat ≤ 1 ∧ 1 ≤ depth.toNat ∧ depth.toNat ≤ 2 ∧
        clear.toNat ≤ 1 then
      exec .gpiSetup s = .next (replied r [0] (s.setPosition { s.position with
        gpi := s.position.gpi.set line.toNat
          { function := if fn = 0 then .off else if fn = 1 then .mark else if fn = 2 then .arm
                        else .abort,
            detection := if dt = 0 then .edge else .level, depth := depth.toNat,
            clearOnStop := clear == 1, queue := [], overwrite := false } h.1 }))
    else exec .gpiSetup s = .next (replied r [5] s)) ∧
  (∀ (s : State) (r : LinkRequest) (line : Byte), Serves s r → r.kind = .markRead →
    r.payload = [line] →
    if h : line.toNat < 4 then
      let l := s.position.gpi[line.toNat]
      if l.function = .mark then
        exec .markRead s = .next (replied r
          ([0] ++ (match l.queue with
              | x :: _ => 1 :: be 5 x.position ++ [match x.lock with
                | .unlocked => (0 : Byte)
                | .locked => 1
                | .slipped => 2]
              | [] => [0, 0, 0, 0, 0, 0, 0])
            ++ [BitVec.ofNat 8 (l.queue.length - 1), if l.overwrite then 1 else 0])
          (s.setPosition { s.position with
            gpi := s.position.gpi.set line.toNat { l with queue := l.queue.tail, overwrite := false } }))
      else exec .markRead s = .next (replied r [6] s)
    else exec .markRead s = .next (replied r [5] s))

/-- GPI_FALLING_EDGE: a line that is OFF, or under LEVEL, makes no request. An EDGE line makes one in any transport
state, with the sample position W × spf + n (n limited to spf − 1) and the lock state of the moment: it joins the
queue as the newest, or replaces the newest of a full queue, sets the flag and raises MARK_OVERWRITE; a MARK line
raises MARK_CAPTURED. The other lines stay. The next tick hands the requests of ARM and ABORT lines to the edit engine.
One ARM disarms an ARMED engine, and a DISARMED one takes it as an EDIT ARM of the last mode with the tick's W, or turns
it away while the formatter is not IDLE, the list is empty, or, in EXECUTE with a DIGITAL source, the current ruling is
REFUSE; the cursor compares with W + D not reduced (DEDUCED, log 27), and the formatter acts before the engine (DEDUCED,
log 6). An ABORT does nothing to a DISARMED engine (to an ACTIVE one: CrossfadeLiesBetween). -/
def Obligations.FallingEdgeMakesARequest : Prop :=
  (∀ (s : State) (i : Fin 4), s.link.resetDue = false →
    let l := s.position.gpi[i]
    let request : GpiRequest :=
      { position := s.position.w.toNat * spf s.input.rate + min s.sampleCount (spf s.input.rate - 1),
        lock := s.position.lock }
    let full := l.depth ≤ l.queue.length
    ((l.function = .off ∨ l.detection = .level) → exec (.gpiFallingEdge i) s = .next s) ∧
    (l.function ≠ .off → l.detection = .edge →
      ∃ t, exec (.gpiFallingEdge i) s = .next t ∧
        t.position = { s.position with
          gpi := s.position.gpi.set i { l with
            queue := (if full then l.queue.dropLast else l.queue) ++ [request]
            overwrite := l.overwrite || decide full } } ∧
        (l.function = .mark → hasCause t.notice.pending .markCaptured = true) ∧
        (full → hasCause t.notice.pending .markOverwrite = true) ∧
        (l.function ≠ .mark → ¬full → t.notice = s.notice ∧ t.link = s.link) ∧
        t.engine = s.engine ∧ t.formatter = s.formatter ∧ t.input = s.input ∧
        request.position / spf s.input.rate = s.position.w.toNat)) ∧
  (∀ (s : State) (low : BitVec 4), s.link.resetDue = false → s.pins.transport = .play →
    EngineInv s → 1 ≤ s.decoder.preread → s.formatter.emission = none →
    s.engine.recordsMade ≤ 4294967295 →
    let handed := ([0, 1, 2, 3] : List (Fin 4)).flatMap (fun i =>
      let l := s.position.gpi[i]
      if l.function = .arm ∨ l.function = .abort then l.queue.map (fun _ => l.function) else [])
    let mode := s.engine.arm.mode
    let limit := (s.position.w + 1).toNat + s.decoder.preread
    let passed := s.engine.cues.takeWhile (fun c => c.startFrame (spf s.input.rate) < limit)
    let ahead := s.engine.cues.dropWhile (fun c => c.startFrame (spf s.input.rate) < limit)
    let waits := mode = .rehearse ∧ s.engine.arm.loop = true
    let record := fun (c : CueEntry) =>
      ({ id := c.id, mode := .execute, outcome := .missed, reason := some .passed, first := none,
         last := none, framesWritten := 0, degraded := 0, openEnded := false } : SpliceRecord)
    let placed := { s.engine with
      pendingAbort := false
      run := EntryRun.empty
      state := if ahead = [] ∧ ¬waits then .disarmed else .armed
      cursor := match ahead with
        | c :: _ => .entry c.id
        | [] => if waits then .passed else .absent }
    ∃ t, exec (.frameTick low) s = .next t ∧
      (handed = [.arm] → s.engine.state = .armed →
        t.engine = { s.engine with state := .disarmed, cursor := .absent, pendingAbort := false }) ∧
      (handed = [.arm] → s.engine.state = .disarmed →
        let turnedAway := t.formatter.state ≠ .idle ∨ s.engine.cues = [] ∨
          (mode = .execute ∧ s.input.source = .digital ∧ t.lineage.cls = .consumer .never)
        (turnedAway → t.engine = s.engine) ∧
        (¬turnedAway → mode = .rehearse → t.engine = placed) ∧
        (¬turnedAway → mode = .execute → t.engine = { placed with
            cues := ahead
            log := ((passed.map record).reverse ++ s.engine.log).take
              (if passed = [] then s.engine.log.length else 16)
            recordsMade := min (s.engine.recordsMade + passed.length) 4294967295 } ∧
          (passed ≠ [] → hasCause t.notice.pending .editMissed = true) ∧
          ∀ c ∈ passed, ∀ q ∈ t.query.entries, q.state ≠ .held c.id)) ∧
      ((∀ f ∈ handed, f = .abort) → s.engine.state = .disarmed → t.engine = s.engine))

/-- FRAME_TICK: outside PLAY it is ignored. In PLAY W rises by 1 modulo 16,777,216, the tick-relative count becomes
0, the lock age rises while LOCKED, the lock state and the runs stay, and the ring loses its entries below the new W.
Of each GPI line: the queue of an ARM or ABORT line goes to the edit engine; then a LEVEL line held low makes a
request at the new W. The output unit's next boundary awaits the tick's sample clock. -/
def Obligations.TickCountsThePosition : Prop :=
  ∀ (s : State) (low : BitVec 4), s.link.resetDue = false →
    (s.pins.transport ≠ .play → exec (.frameTick low) s = .next s) ∧
    (s.pins.transport = .play →
      let w := s.position.w + 1
      ∃ t, exec (.frameTick low) s = .next t ∧ t.sampleCount = 0 ∧
        t.position = { s.position with
          w := w
          age := if s.position.lock = .locked then min (s.position.age + 1) 65535
                 else s.position.age
          gpi := t.position.gpi } ∧
        t.ring = s.ring.filter (fun e => w.toNat ≤ e.number.toNat) ∧
        t.output.tickWaiting = true ∧ t.decoder = s.decoder ∧ t.gathered = s.gathered ∧
        t.pins = s.pins ∧
        ∀ i : Fin 4,
          let l := s.position.gpi[i]
          let rest := if l.function = .arm ∨ l.function = .abort then [] else l.queue
          let makes := l.function ≠ .off ∧ l.detection = .level ∧ low.getLsbD i = true
          let full := l.depth ≤ rest.length
          t.position.gpi[i] =
            if makes then { l with
              queue := (if full then rest.dropLast else rest)
                ++ [{ position := w.toNat * spf s.input.rate, lock := s.position.lock }]
              overwrite := l.overwrite || decide full }
            else { l with queue := rest })

/-! ## The cue list and the edit engine -/

/-- CUE ADD, CUE REMOVE and CUE READ at service. CUE ADD is judged in the order BAD_VALUE, FULL, ORDER, STATE; a taken
one inserts a PENDING entry at the place its in-point gives, under the next id after the last assigned, counting 1 to
255 and then 1 again, that no entry of the list carries. CUE REMOVE
of a PENDING entry removes it, releases the queries held behind it, and moves a cursor that stood on it; of an ACTIVE
one it draws STATE, of none NOT_FOUND. CUE READ changes nothing, and its reply carries the engine's state, mode and
LOOP, the cursor's index, the ACTIVE entry's degraded count, and 18 bytes an entry, field by field. -/
def Obligations.CueRequestsServed : Prop :=
  (∀ (s : State) (r : LinkRequest) (i0 i1 i2 i3 i4 o0 o1 o2 o3 o4 f0 f1 p0 p1 t0 t1 : Byte),
    Serves s r → r.kind = .cueAdd →
    r.payload = [i0, i1, i2, i3, i4, o0, o1, o2, o3, o4, f0, f1, p0, p1, t0, t1] →
    let n := spf s.input.rate
    let inP := ofBe [i0, i1, i2, i3, i4]
    let outP := ofBe [o0, o1, o2, o3, o4]
    let fade := ofBe [f0, f1]
    let bad := fade < 16 ∨ 4096 < fade ∨ 999 < ofBe [p0, p1] ∨ 16777216 * n ≤ inP ∨
      16777216 * n ≤ outP ∨ outP < inP + fade ∨ 16777216 * n ≤ outP + fade - 1
    let meets := ∃ c ∈ s.engine.cues,
      inP / n ≤ c.lastFrame n ∧ c.startFrame n ≤ (outP + fade - 1) / n
    let behind := s.engine.state ≠ .disarmed ∧
      (∀ c, cursorCue s = some c → inP < c.inPoint)
    (bad → exec .cueAdd s = .next (replied r [5] s)) ∧
    (¬bad → 16 ≤ s.engine.cues.length → exec .cueAdd s = .next (replied r [7] s)) ∧
    (¬bad → s.engine.cues.length < 16 → meets → exec .cueAdd s = .next (replied r [9] s)) ∧
    (¬bad → s.engine.cues.length < 16 → ¬meets → behind →
      exec .cueAdd s = .next (replied r [6] s)) ∧
    (¬bad → s.engine.cues.length < 16 → ¬meets → ¬behind →
      ∃ (id : Nat) (pre post : List CueEntry), s.engine.cues = pre ++ post ∧
        1 ≤ id ∧ id ≤ 255 ∧ (∀ c ∈ s.engine.cues, c.id ≠ id) ∧
        (∀ l, s.engine.lastId = some l → l < 255 → (∀ c ∈ s.engine.cues, c.id ≠ l + 1) → id = l + 1) ∧
        (s.engine.lastId = none → (∀ c ∈ s.engine.cues, c.id ≠ 1) → id = 1) ∧
        (∃ k, k < 255 ∧ id = (s.engine.lastId.getD 0 + k) % 255 + 1 ∧
          ∀ j, j < k → ∃ c ∈ s.engine.cues, c.id = (s.engine.lastId.getD 0 + j) % 255 + 1) ∧
        (∀ c ∈ pre, c.inPoint < inP) ∧ (∀ c, post.head? = some c → inP ≤ c.inPoint) ∧
        exec .cueAdd s = .next (replied r [0, BitVec.ofNat 8 id, BitVec.ofNat 8 pre.length]
          (s.setEngine { s.engine with
            cues := pre ++ { id := id, inPoint := inP, outPoint := outP, fade := fade,
                             program := BitVec.ofNat 16 (ofBe [p0, p1]),
                             take := BitVec.ofNat 16 (ofBe [t0, t1]), state := .pending,
                             degraded := 0 } :: post
            lastId := some id })))) ∧
  (∀ (s : State) (r : LinkRequest) (b : Byte), Serves s r → r.kind = .cueRemove → r.payload = [b] →
    ((∀ c ∈ s.engine.cues, c.id ≠ b.toNat) → exec .cueRemove s = .next (replied r [8] s)) ∧
    (∀ (pre post : List CueEntry) (c : CueEntry), s.engine.cues = pre ++ c :: post →
      c.id = b.toNat → (∀ d ∈ pre ++ post, d.id ≠ b.toNat) →
      (c.state ≠ .pending → exec .cueRemove s = .next (replied r [6] s)) ∧
      (c.state = .pending → ∃ t, exec .cueRemove s =
          .next (replied r [0, BitVec.ofNat 8 (pre ++ post).length] t) ∧
        (∃ engine query, t = (s.setEngine engine).setQuery query) ∧
        t.engine.cues = pre ++ post ∧ t.engine.log = s.engine.log ∧
        t.engine.arm = s.engine.arm ∧
        t.query.entries = s.query.entries.map (fun q =>
          if q.state = .held c.id then { q with state := .waiting } else q) ∧
        (s.engine.cursor ≠ .entry c.id → t.engine.cursor = s.engine.cursor ∧
          t.engine.state = s.engine.state) ∧
        (s.engine.cursor = .entry c.id → ∀ d, post.head? = some d →
          t.engine.cursor = .entry d.id ∧ t.engine.state = .armed) ∧
        (s.engine.cursor = .entry c.id → post = [] →
          if s.engine.arm.mode = .rehearse ∧ s.engine.arm.loop = true then
            t.engine.cursor = .passed ∧ t.engine.state = .armed
          else t.engine.cursor = .absent ∧ t.engine.state = .disarmed)))) ∧
  (∀ (s : State) (r : LinkRequest) (start count : Byte), Serves s r → r.kind = .cueRead →
    r.payload = [start, count] →
    let entries := (s.engine.cues.drop start.toNat).take count.toNat
    if 15 < start.toNat ∨ count.toNat < 1 ∨ 12 < count.toNat then
      exec .cueRead s = .next (replied r [5] s)
    else
      ∃ head, exec .cueRead s = .next (replied r (head ++ entries.flatMap cueBytes) s) ∧
        head.length = 12 ∧ head.take 2 = [0, BitVec.ofNat 8 s.engine.cues.length] ∧
        head.drop 11 = [BitVec.ofNat 8 entries.length] ∧
        (head.drop 2).take 3 = [match s.engine.state with
            | .disarmed => 0
            | .armed => 1
            | .active => 2,
          if s.engine.arm.mode = .execute then 0 else 1, if s.engine.arm.loop then 1 else 0] ∧
        ((∀ id, s.engine.cursor ≠ .entry id) → (head.drop 5).take 6 = [0, 0, 0, 0, 0, 0]) ∧
        (∀ (c : CueEntry) (pre post : List CueEntry), s.engine.cues = pre ++ c :: post →
          (∀ d ∈ pre, d.id ≠ c.id) → s.engine.cursor = .entry c.id →
          (head.drop 5).take 6 = [1, BitVec.ofNat 8 pre.length]
            ++ be 4 (if s.engine.state = .active then c.degraded else 0)) ∧
        ∀ c, (cueBytes c).length = 18 ∧
          cueBytes c = [BitVec.ofNat 8 c.id] ++ be 5 c.inPoint ++ be 5 c.outPoint ++ be 2 c.fade
            ++ be 2 c.program.toNat ++ be 2 c.take.toNat
            ++ [match c.state with
              | .pending => (0 : Byte)
              | .active .fadeIn => 1
              | .active .insert => 2
              | .active .fadeOut => 3])

/-- EDIT ARM, EDIT DISARM, EDIT ABORT, EDIT SETUP and SPLICE LOG READ at service. EDIT ARM is judged in the order
BAD_VALUE, STATE, REFUSED; a taken one places the cursor on the first entry whose start frame is at least W + D,
removing those before it as MISSED with PASSED in EXECUTE and passing them over silently in REHEARSE (the count in the
reply is 0 there, DEDUCED, log 23). W + D is not reduced there (DEDUCED, log 27), and the NOTICE of EDIT_MISSED stands
before the reply (the model's choice, log 15). EDIT DISARM draws STATE while ACTIVE; EDIT ABORT sets the pending abort
while ACTIVE and draws STATE otherwise; EDIT SETUP takes L from 2 to 255 while DISARMED; SPLICE LOG READ gives the
log's records in 22 bytes each, field by field. -/
def Obligations.EditRequestsServed : Prop :=
  (∀ (s : State) (r : LinkRequest) (m l : Byte), Serves s r → r.kind = .editArm →
    r.payload = [m, l] → CueListInv s → s.engine.recordsMade ≤ 4294967295 →
    let limit := s.position.w.toNat + s.decoder.preread
    let passed := s.engine.cues.takeWhile (fun c => c.startFrame (spf s.input.rate) < limit)
    let ahead := s.engine.cues.dropWhile (fun c => c.startFrame (spf s.input.rate) < limit)
    let armed : ArmMode :=
      { mode := if m = 0 then .execute else .rehearse, loop := m == 1 && l == 1 }
    let placed := { s.engine with
      arm := armed
      pendingAbort := false
      run := EntryRun.empty
      state := if ahead = [] ∧ armed.loop = false then .disarmed else .armed
      cursor := match ahead with
        | c :: _ => .entry c.id
        | [] => if armed.loop then .passed else .absent }
    let answer := fun (missed : Nat) =>
      [0, if ahead = [] ∧ armed.loop = false then 0 else 1] ++ (match ahead with
        | c :: _ => [1, BitVec.ofNat 8 c.id]
        | [] => [0, 0]) ++ [BitVec.ofNat 8 missed]
    let record := fun (c : CueEntry) =>
      ({ id := c.id, mode := .execute, outcome := .missed, reason := some .passed, first := none,
         last := none, framesWritten := 0, degraded := 0, openEnded := false } : SpliceRecord)
    let wrong := 1 < m.toNat ∨ 1 < l.toNat
    let busy := s.engine.state ≠ .disarmed ∨ s.formatter.state ≠ .idle ∨ s.engine.cues = []
    let refused := m = 0 ∧ s.input.source = .digital ∧ s.lineage.cls = .consumer .never
    (wrong → exec .editArm s = .next (replied r [5] s)) ∧
    (¬wrong → busy → exec .editArm s = .next (replied r [6] s)) ∧
    (¬wrong → ¬busy → refused → exec .editArm s = .next (replied r [10] s)) ∧
    (¬wrong → ¬busy → m = 1 → exec .editArm s = .next (replied r (answer 0) (s.setEngine placed))) ∧
    (¬wrong → ¬busy → ¬refused → m = 0 →
      ∃ t, exec .editArm s = .next (replied r (answer passed.length) t) ∧
        t.engine = { placed with
          cues := ahead
          log := ((passed.map record).reverse ++ s.engine.log).take
            (if passed = [] then s.engine.log.length else 16)
          recordsMade := min (s.engine.recordsMade + passed.length) 4294967295 } ∧
        (passed ≠ [] → hasCause t.notice.pending .editMissed = true) ∧
        t.query.entries = s.query.entries.map (fun q =>
          if passed.any (fun c => q.state == .held c.id) then { q with state := .waiting } else q) ∧
        t.position = s.position ∧ t.formatter = s.formatter ∧ t.lineage = s.lineage)) ∧
  (∀ (s : State) (r : LinkRequest), Serves s r → r.kind = .editDisarm → r.payload = [] →
    exec .editDisarm s = .next
      (if s.engine.state = .active then replied r [6] s
       else replied r [0] (s.setEngine { s.engine with
          state := .disarmed
          cursor := .absent
          pendingAbort := false }))) ∧
  (∀ (s : State) (r : LinkRequest), Serves s r → r.kind = .editAbort → r.payload = [] →
    (s.engine.state ≠ .active → exec .editAbort s = .next (replied r [6] s)) ∧
    (∀ id, s.engine.state = .active → s.engine.cursor = .entry id →
      exec .editAbort s = .next (replied r [0, BitVec.ofNat 8 id]
        (s.setEngine { s.engine with pendingAbort := true })))) ∧
  (∀ (s : State) (r : LinkRequest) (l : Byte), Serves s r → r.kind = .editSetup → r.payload = [l] →
    exec .editSetup s = .next
      (if l.toNat < 2 then replied r [5] s
       else if s.engine.state ≠ .disarmed then replied r [6] s
       else replied r [0, l] (s.setEngine { s.engine with lockAgeReq := l.toNat }))) ∧
  (∀ (s : State) (r : LinkRequest) (start count : Byte), Serves s r → r.kind = .spliceLogRead →
    r.payload = [start, count] →
    let records := (s.engine.log.drop start.toNat).take count.toNat
    (if 15 < start.toNat ∨ count.toNat < 1 ∨ 10 < count.toNat then
      exec .spliceLogRead s = .next (replied r [5] s)
     else exec .spliceLogRead s = .next (replied r
      ([0, BitVec.ofNat 8 s.engine.log.length] ++ be 4 s.engine.recordsMade
        ++ [BitVec.ofNat 8 records.length] ++ records.flatMap spliceRecordBytes) s)) ∧
    ∀ x, (spliceRecordBytes x).length = 22 ∧
      spliceRecordBytes x =
        [BitVec.ofNat 8 x.id, if x.mode = .execute then 0 else 1, match x.outcome with
          | .completed => (0 : Byte)
          | .rehearsed => 1
          | .missed => 2
          | .refused => 3
          | .aborted => 4]
        ++ (match x.reason with
          | none => ([0, 0] : List Byte)
          | some .passed => [1, 0]
          | some .noLock => [1, 1]
          | some .lostLock => [1, 2]
          | some .transport => [1, 3]
          | some .refused => [1, 4]
          | some .requested => [1, 5])
        ++ (match x.first with
          | some n => 1 :: be 3 n.toNat
          | none => [0, 0, 0, 0])
        ++ (match x.last with
          | some n => 1 :: be 3 n.toNat
          | none => [0, 0, 0, 0])
        ++ be 4 x.framesWritten ++ be 4 x.degraded ++ [if x.openEnded then 1 else 0])

/-- A crossfade of two samples with weights F − k and k over F lies between them, inclusive, is the exact quotient
rounded to the nearest with ties away from zero, gives the first sample at k = 0 and the second at k = F. A LOCKED
tick that aborts the ACTIVE entry, in EXECUTE for a REFUSE on capture frame W − 2, or else on request (EDIT ABORT, or
a GPI ABORT handed at this tick), produces frame W as an emergency fade: from the last sample of frame W − 1 to the
old side over 16 samples, then the old side, from the ring or from concealment when the ring lacks W; kind SPLICE, the
more restrictive of the mark of W − 1 and the old mark, the refused flag on refusal. The old samples of reduced gain
at indices 1 and above are counted, and the phase stays. In EXECUTE the frame is handed over and the entry stays
ACTIVE until it is written (FrameWrittenRecordsTheFrame), a refusal opening or extending a refused span; in REHEARSE
it goes to the output unit alone and the entry ends, ABORTED with REQUESTED. -/
def Obligations.CrossfadeLiesBetween : Prop :=
  (∀ (a b : Sample) (k f : Nat), 1 ≤ f → k ≤ f →
    let x := (crossfade a b k f).toInt
    let exact := a.toInt * ((f : Int) - k) + b.toInt * k
    min a.toInt b.toInt ≤ x ∧ x ≤ max a.toInt b.toInt ∧
    2 * (f * x - exact).natAbs ≤ f ∧
    (2 * (f * x - exact).natAbs = f → exact.natAbs < (f * x).natAbs) ∧
    crossfade a b 0 f = a ∧ crossfade a b f f = b) ∧
  (∀ (s : State) (low : BitVec 4) (c : CueEntry) (pre post : List CueEntry),
    s.link.resetDue = false → s.pins.transport = .play → EngineInv s → InputInv s →
    s.formatter.emission = none → s.position.lock = .locked → s.engine.state = .active →
    s.engine.cues = pre ++ c :: post → s.engine.cursor = .entry c.id →
    let n := spf s.input.rate
    let w := s.position.w + 1
    let execute := s.engine.arm.mode = .execute
    let refusal := execute ∧ (nextCapture s).2 = .refuse
    let request := s.engine.pendingAbort = true ∨
      ∃ i : Fin 4, s.position.gpi[i].function = .abort ∧ s.position.gpi[i].queue ≠ []
    (refusal ∨ request) →
    let old := oldView w s
    let mark := if markCode s.engine.run.endMark < markCode old.mark then old.mark else s.engine.run.endMark
    let degraded := min (c.degraded + old.reduced n (fun i => decide (1 ≤ i))) 4294967295
    ∃ (t : State) (pairs : List Pair), exec (.frameTick low) s = .next t ∧ pairs.length = n ∧
      (∀ i, i < n →
        let o := old.pairs.getD i Pair.zero
        let hc := s.engine.run.endPair
        pairs[i]? = some (if i < 16 then { l := crossfade hc.l o.l i 16, r := crossfade hc.r o.r i 16 }
          else o)) ∧
      t.conceal = old.conceal ∧ t.output.fresh.splice = some { pairs := pairs, mark := mark } ∧
      (execute →
        t.formatter.emission = some
          { number := w,
            blocks := codeFrame pairs { number := w, program := c.program, take := c.take, mark := mark,
                                        rate := s.input.rate, kind := .splice,
                                        refused := decide refusal },
            origin := .splice } ∧
        t.engine = { s.engine with
          cues := pre ++ { c with degraded := degraded } :: post
          pendingAbort := t.engine.pendingAbort
          run := { s.engine.run with
            first := some (s.engine.run.first.getD w)
            endPair := (pairs.getLast?).getD Pair.zero
            endMark := mark
            ending := some (if refusal then .refusal else .request) } } ∧
        (t.engine.pendingAbort = true ↔ request) ∧
        (¬refusal → t.lineage.span = s.lineage.span) ∧
        (refusal → ∃ sp, t.lineage.span = some sp ∧ sp.last = w ∧
          (∀ o, s.lineage.span = some o → sp = { o with last := w }) ∧
          (s.lineage.span = none → sp.start = w ∧ sp.context = .edit c.id ∧
            sp.listed = decide (s.lineage.refusals.length < 8) ∧
            hasCause t.notice.pending .copyRefused = true))) ∧
      (¬execute →
        t.formatter.emission = none ∧
        t.engine = s.engine.ended (pre ++ { c with state := .pending, degraded := 0 } :: post) post
          { id := c.id, mode := .rehearse, outcome := .aborted, reason := some .requested,
            first := some (s.engine.run.first.getD w), last := some w,
            framesWritten := s.engine.run.framesWritten, degraded := degraded, openEnded := false } ∧
        hasCause t.notice.pending .editAborted = true ∧ t.lineage.span = s.lineage.span))

/-- FRAME_TICK with the lock state not LOCKED: the edit engine produces nothing and hands nothing to the formatter or
to the output unit, and no entry is ACTIVE after it. An entry that was ACTIVE is aborted with LOST_LOCK, open-ended in
EXECUTE. At any tick of an ARMED engine whose cursor stands on an entry: a start frame above W waits; one below W is
MISSED with PASSED, and one at W is MISSED with NO_LOCK when the tick's lock age is below L. A MISSED entry produces
nothing, makes its splice log record, raises EDIT_MISSED, leaves the list in EXECUTE (releasing what is HELD behind it)
and stays PENDING in REHEARSE, and the cursor moves to the entry that followed, which is compared at the same tick: an
engine still ARMED after the tick waits for an entry that starts above W. A cursor past the last entry waits. -/
def Obligations.NoSpliceFrameWithoutLock : Prop :=
  (∀ (s : State) (low : BitVec 4), s.link.resetDue = false → s.pins.transport = .play →
    EngineInv s → PositionInv s → s.position.lock ≠ .locked → s.formatter.emission = none →
    ∃ t, exec (.frameTick low) s = .next t ∧ t.engine.state ≠ .active ∧
      (∀ e, t.formatter.emission = some e → e.origin ≠ .splice) ∧
      t.output.fresh.splice = s.output.fresh.splice ∧ t.conceal = s.conceal ∧
      ∀ c ∈ s.engine.cues, s.engine.state = .active → s.engine.cursor = .entry c.id →
        hasCause t.notice.pending .editAborted = true ∧
        t.engine.log.head? = some
          { id := c.id, mode := s.engine.arm.mode, outcome := .aborted, reason := some .lostLock,
            first := s.engine.run.first, last := s.engine.run.last,
            framesWritten := s.engine.run.framesWritten, degraded := c.degraded,
            openEnded := decide (s.engine.arm.mode = .execute) }) ∧
  (∀ (s : State) (low : BitVec 4), s.link.resetDue = false → s.pins.transport = .play →
    EngineInv s → PositionInv s → s.formatter.emission = none →
    (∀ i : Fin 4, s.position.gpi[i].function = .arm → s.position.gpi[i].queue = []) →
    s.engine.state = .armed →
    let n := spf s.input.rate
    let w := s.position.w + 1
    let age := if s.position.lock = .locked then min (s.position.age + 1) 65535 else 0
    let execute := s.engine.arm.mode = .execute
    ∃ t, exec (.frameTick low) s = .next t ∧
      (s.engine.cursor = .passed → t.engine = s.engine) ∧
      (t.engine.state = .armed → ∀ d ∈ t.engine.cues, t.engine.cursor = .entry d.id →
        w.toNat < d.startFrame n) ∧
      ∀ (c : CueEntry) (pre post : List CueEntry), s.engine.cues = pre ++ c :: post →
        s.engine.cursor = .entry c.id →
        (w.toNat < c.startFrame n → t.engine = s.engine) ∧
        ((c.startFrame n < w.toNat ∨ (c.startFrame n = w.toNat ∧ age < s.engine.lockAgeReq)) →
          hasCause t.notice.pending .editMissed = true ∧
          (execute → (∀ d ∈ t.engine.cues, d.id ≠ c.id) ∧
            ∀ q ∈ t.query.entries, q.state ≠ .held c.id) ∧
          ((∀ d, post.head? = some d → w.toNat < d.startFrame n) →
            t.engine = s.engine.ended
              (if execute then pre ++ post
               else pre ++ { c with state := .pending, degraded := 0 } :: post) post
              { id := c.id, mode := s.engine.arm.mode, outcome := .missed,
                reason := some (if c.startFrame n < w.toNat then .passed else .noLock),
                first := none, last := none, framesWritten := 0, degraded := 0, openEnded := false } ∧
            t.formatter = s.formatter ∧ t.conceal = s.conceal ∧
            t.output.fresh.splice = s.output.fresh.splice)))

/-- FRAME_TICK at which an entry's frame is produced from input, LOCKED: at the start tick of the cursor entry of an
ARMED engine, the lock age at least L, where the entry becomes ACTIVE with EDIT_STARTED and a degraded count of 0, and
at each tick after it while no abort is set or handed; in EXECUTE, capture frame W − 2 is not ruled REFUSE. Frame W has
spf pairs, each by its position's region: the old pair before in, the crossfade of old and new from in to in + F − 1,
the new pair (of capture frame W − 2) from in + F to out − 1, the crossfade back from out, and the old pair after. It is
INSERTED when all its positions lie in the new region, and then fetches no old side and carries the new mark; else
SPLICE, the old side being the ring's frame W or, when the ring lacks it, a concealed all-invalid frame, with the more
restrictive of the new and the old mark. Samples that take the old side at reduced gain are counted (the fade-in's
last, k = F − 1, among them: the model's choice, log 40), and the phase follows the last position. In EXECUTE the frame
is coded under the entry's program and take numbers and handed over, and an open refused span closes; in REHEARSE
nothing is handed over. At the entry's last frame it completes: in EXECUTE once the frame is written
(FrameWrittenRecordsTheFrame), in REHEARSE at the tick, as REHEARSED and PENDING again. A start tick in EXECUTE that
finds REFUSE ends the entry with REFUSED, nothing produced, its refused span opened and closed. -/
def Obligations.EntryStartsAtItsStartTick : Prop :=
  (∀ (s : State) (low : BitVec 4) (c : CueEntry) (pre post : List CueEntry),
    s.link.resetDue = false → s.pins.transport = .play → EngineInv s → InputInv s →
    s.formatter.emission = none → s.position.lock = .locked →
    s.engine.cues = pre ++ c :: post → s.engine.cursor = .entry c.id →
    let n := spf s.input.rate
    let w := s.position.w + 1
    let base := w.toNat * n
    let execute := s.engine.arm.mode = .execute
    let free := fun (f : GpiFunction) =>
      ∀ i : Fin 4, s.position.gpi[i].function = f → s.position.gpi[i].queue = []
    let starts := s.engine.state = .armed ∧ free .arm ∧ c.startFrame n = w.toNat ∧
      s.engine.lockAgeReq ≤ min (s.position.age + 1) 65535
    let goesOn := s.engine.state = .active ∧ free .abort ∧ s.engine.pendingAbort = false
    (starts ∨ goesOn) → (execute → (nextCapture s).2 ≠ .refuse) →
    let inserted := c.inPoint + c.fade ≤ base ∧ base + n ≤ c.outPoint
    let old : OldView := if inserted then { pairs := [], flags := [], mark := .free, conceal := s.conceal }
      else oldView w s
    let newMark : Mark := match (nextCapture s).2 with
      | .permit m => m
      | .refuse => .never
    let mark := if markCode newMark < markCode old.mark then old.mark else newMark
    let run := if s.engine.state = .armed then EntryRun.empty else s.engine.run
    let degraded := min ((if s.engine.state = .armed then 0 else c.degraded) + old.reduced n
      (fun i => decide (base + i < c.inPoint + c.fade ∨ c.outPoint < base + i))) 4294967295
    let last := base + n - 1
    let phase : Phase := if last < c.inPoint + c.fade then .fadeIn
      else if last < c.outPoint then .insert else .fadeOut
    ∃ (t : State) (pairs : List Pair), exec (.frameTick low) s = .next t ∧ pairs.length = n ∧
      (∀ i, i < n →
        let p := base + i
        let o := old.pairs.getD i Pair.zero
        let v := (nextCapture s).1.getD i Pair.zero
        pairs[i]? = some (
          if p < c.inPoint then o
          else if p < c.inPoint + c.fade then
            { l := crossfade o.l v.l (p - c.inPoint) c.fade,
              r := crossfade o.r v.r (p - c.inPoint) c.fade }
          else if p < c.outPoint then v
          else if p < c.outPoint + c.fade then
            { l := crossfade v.l o.l (p - c.outPoint) c.fade,
              r := crossfade v.r o.r (p - c.outPoint) c.fade }
          else o)) ∧
      (s.engine.state = .armed → hasCause t.notice.pending .editStarted = true) ∧
      t.conceal = old.conceal ∧ t.output.fresh.splice = some { pairs := pairs, mark := mark } ∧
      t.formatter.emission = (if execute then
        some { number := w,
               blocks := codeFrame pairs { number := w, program := c.program, take := c.take,
                                           mark := mark, rate := s.input.rate,
                                           kind := if inserted then .inserted else .splice,
                                           refused := false },
               origin := .splice }
        else none) ∧
      (execute → t.lineage.span = none) ∧
      ((execute ∨ w.toNat ≠ c.lastFrame n) →
        t.engine = { s.engine with
          state := .active
          cues := pre ++ { c with state := .active phase, degraded := degraded } :: post
          run := { run with
            first := some (run.first.getD w)
            last := if execute then run.last else some w
            endPair := (pairs.getLast?).getD Pair.zero
            endMark := mark
            ending := if w.toNat = c.lastFrame n then some .complete else run.ending } }) ∧
      ((¬execute ∧ w.toNat = c.lastFrame n) →
        t.engine = s.engine.ended (pre ++ { c with state := .pending, degraded := 0 } :: post) post
          { id := c.id, mode := .rehearse, outcome := .rehearsed, reason := none,
            first := some (run.first.getD w), last := some w, framesWritten := run.framesWritten,
            degraded := degraded, openEnded := false } ∧
        hasCause t.notice.pending .editFinished = true)) ∧
  (∀ (s : State) (low : BitVec 4) (c : CueEntry) (pre post : List CueEntry),
    s.link.resetDue = false → s.pins.transport = .play → EngineInv s → InputInv s →
    s.formatter.emission = none → s.position.lock = .locked → s.engine.state = .armed →
    (∀ i : Fin 4, s.position.gpi[i].function = .arm → s.position.gpi[i].queue = []) →
    s.engine.cues = pre ++ c :: post → s.engine.cursor = .entry c.id →
    c.startFrame (spf s.input.rate) = (s.position.w + 1).toNat →
    s.engine.lockAgeReq ≤ min (s.position.age + 1) 65535 →
    s.engine.arm.mode = .execute → (nextCapture s).2 = .refuse →
    ∃ t, exec (.frameTick low) s = .next t ∧
      t.engine = s.engine.ended (pre ++ post) post
        { id := c.id, mode := .execute, outcome := .refused, reason := none, first := none,
          last := none, framesWritten := 0, degraded := 0, openEnded := false } ∧
      t.formatter.emission = none ∧ t.output.fresh.splice = s.output.fresh.splice ∧
      t.conceal = s.conceal ∧ hasCause t.notice.pending .editAborted = true ∧
      (s.lineage.span = none → hasCause t.notice.pending .copyRefused = true) ∧
      hasCause t.notice.pending .copyResumed = true ∧ t.lineage.span = none ∧
      (s.lineage.span = none → s.lineage.refusals.length < 8 →
        t.lineage.refusals.getLast? = some
          { start := s.position.w + 1, stop := some (s.position.w + 1), context := .edit c.id }) ∧
      ∀ q ∈ t.query.entries, q.state ≠ .held c.id)

/-! ## Queries -/

/-- TAPE QUERY, QUERY CANCEL and QUERY SETUP at service. A kind above 1 draws BAD_VALUE. A repeat is answered PENDING
with the entry kept, or, of a COMPLETE entry, DONE with the outcome and its record, the entry removed; only then does a
full table draw FULL; otherwise a new entry is made, HELD behind the cue entry whose span holds its frame, or WAITING.
QUERY CANCEL removes the entry in whatever state it stands, or draws NOT_FOUND. QUERY SETUP takes the wait limit, any
value, and nothing else changes. None of the three is in the broadcast set. The subcode record of a DONE reply has 11
bytes, field by field (the quality record's stand in DecoderRequestsServed). -/
def Obligations.QueryRequestsServed : Prop :=
  RequestKind.tapeQuery.broadcast = false ∧ RequestKind.queryCancel.broadcast = false ∧
  RequestKind.querySetup.broadcast = false ∧
  RequestKind.tapeQuery.length = 4 ∧ RequestKind.queryCancel.length = 4 ∧
  RequestKind.querySetup.length = 2 ∧
  let content := fun (e : QueryEntry) =>
    [if e.kind = .subcode then 0 else 1] ++ be 3 e.frame.toNat ++ (match e.state with
      | .held id => [0, 1, BitVec.ofNat 8 id]
      | .waiting | .complete _ _ => [1, 0, 0]) ++ [BitVec.ofNat 8 e.passes] ++ be 2 e.wait
  (∀ (s : State) (r : LinkRequest) (k f0 f1 f2 : Byte), Serves s r → r.kind = .tapeQuery →
    r.payload = [k, f0, f1, f2] →
    let kind : QueryKind := if k = 0 then .subcode else .quality
    let frame := BitVec.ofNat 24 (ofBe [f0, f1, f2])
    let own := fun (e : QueryEntry) => e.kind = kind ∧ e.frame = frame
    (1 < k.toNat → exec .tapeQuery s = .next (replied r [5] s)) ∧
    (k.toNat ≤ 1 → ∀ e ∈ s.query.entries, own e → (∀ d ∈ s.query.entries, own d → d = e) →
      ((∀ age o, e.state ≠ .complete age o) →
        exec .tapeQuery s = .next (replied r (1 :: content e) s)) ∧
      (∀ age o, e.recordFits → e.state = .complete age o →
        ∃ reply, exec .tapeQuery s = .next (replied r reply (s.setQuery { s.query with
            entries := s.query.entries.filter (fun d => decide (¬own d)) })) ∧
          reply.length = (if k = 0 then 23 else 28) ∧
          ∃ record, reply = 0 :: k :: be 3 frame.toNat
            ++ [match o with
              | .found _ => (0 : Byte)
              | .unreadable => 1
              | .expired => 2, BitVec.ofNat 8 e.passes] ++ be 2 e.wait ++ be 2 age ++ record ∧
          (∀ x, o = .found (.subcode x) → k = 0 → record = 1 :: subcodeBytes x ∧
            subcodeBytes x = be 3 x.number.toNat ++ be 2 x.program.toNat ++ be 2 x.take.toNat
              ++ [BitVec.ofNat 8 (markCode x.mark), if x.rate = .rate48 then 0 else 1, match x.kind with
                  | .normal => 0
                  | .inserted => 1
                  | .splice => 2,
                if x.refused then 1 else 0]) ∧
          (∀ x, o = .found (.quality x) → k = 1 → record = 1 :: qualityBytes x) ∧
          ((∀ x, o ≠ .found x) → ∀ b ∈ record, b = 0))) ∧
    (k.toNat ≤ 1 → (∀ e ∈ s.query.entries, ¬own e) →
      (4 ≤ s.query.entries.length → exec .tapeQuery s = .next (replied r [7] s)) ∧
      (s.query.entries.length < 4 →
        ∃ e : QueryEntry, own e ∧ e.passes = 0 ∧ e.wait = 0 ∧
          ((∃ c ∈ s.engine.cues, e.state = .held c.id ∧
              c.startFrame (spf s.input.rate) ≤ frame.toNat ∧
              frame.toNat ≤ c.lastFrame (spf s.input.rate)) ∨
            (e.state = .waiting ∧ ∀ c ∈ s.engine.cues,
              frame.toNat < c.startFrame (spf s.input.rate) ∨
              c.lastFrame (spf s.input.rate) < frame.toNat)) ∧
          exec .tapeQuery s = .next (replied r (1 :: content e)
            (s.setQuery { s.query with entries := s.query.entries ++ [e] }))))) ∧
  (∀ (s : State) (r : LinkRequest) (k f0 f1 f2 : Byte), Serves s r → r.kind = .queryCancel →
    r.payload = [k, f0, f1, f2] →
    let kind : QueryKind := if k = 0 then .subcode else .quality
    let own := fun (e : QueryEntry) => e.kind = kind ∧ e.frame = BitVec.ofNat 24 (ofBe [f0, f1, f2])
    (1 < k.toNat → exec .queryCancel s = .next (replied r [5] s)) ∧
    (k.toNat ≤ 1 → (∀ e ∈ s.query.entries, ¬own e) →
      exec .queryCancel s = .next (replied r [8] s)) ∧
    (k.toNat ≤ 1 → ∀ e ∈ s.query.entries, own e → (∀ d ∈ s.query.entries, own d → d = e) →
      exec .queryCancel s = .next (replied r
        [0, match e.state with
          | .held _ => 0
          | .waiting => 1
          | .complete _ _ => 2]
        (s.setQuery { s.query with
          entries := s.query.entries.filter (fun d => decide (¬own d)) })))) ∧
  (∀ (s : State) (r : LinkRequest) (a b : Byte), Serves s r → r.kind = .querySetup →
    r.payload = [a, b] →
    exec .querySetup s = .next
      (replied r [0, a, b] (s.setQuery { s.query with limit := ofBe [a, b] })))

/-- The ticks of the query table. FRAME_TICK in PLAY raises the wait counts of the WAITING entries and the ages of the
COMPLETE ones, whatever the cue list holds, then expires, by the limit in force, and discards; what is HELD keeps its
kind and frame, and with an empty cue list its state too. QUERY_WAIT_EXPIRY is that expiry by itself: in PLAY it
completes as EXPIRED the WAITING entries whose wait count is at the limit that the last tick found, when that is not
0, so that a limit lowered after the tick waits for the next one; QUERY_DISCARD removes the COMPLETE entries of age
300. With none such each leaves the part as it stands, and under the table's invariant QUERY_WAIT_EXPIRY always does,
the tick having expired them (DEDUCED, log 7). A completion raises QUERY_COMPLETE and a discard QUERY_DISCARDED. -/
def Obligations.QueryTimersComplete : Prop :=
  let expire := fun (limit : Nat) (e : QueryEntry) =>
    if e.state = .waiting ∧ limit ≠ 0 ∧ limit ≤ e.wait then
      { e with state := .complete 0 .expired } else e
  let tick := fun (limit : Nat) (e : QueryEntry) => match e.state with
    | .waiting => expire limit { e with wait := min (e.wait + 1) 65535 }
    | .complete age o => { e with state := .complete (min (age + 1) 300) o }
    | .held _ => e
  let stale := fun (e : QueryEntry) => match e.state with
    | .complete age _ => decide (300 ≤ age)
    | .held _ | .waiting => false
  (∀ s : State, s.link.resetDue = false →
    let entries := s.query.entries.map (expire s.query.tickLimit)
    exec .queryWaitExpiry s = .next (if s.pins.transport ≠ .play ∨ entries = s.query.entries then s
      else raise .queryComplete (s.setQuery { s.query with entries := entries }))) ∧
  (∀ s : State, s.link.resetDue = false → QueryInv s → exec .queryWaitExpiry s = .next s) ∧
  (∀ s : State, s.link.resetDue = false →
    let entries := s.query.entries.filter (fun e => !stale e)
    exec .queryDiscard s = .next (if entries = s.query.entries then s
      else raise .queryDiscarded (s.setQuery { s.query with entries := entries }))) ∧
  (∀ (s : State) (low : BitVec 4), s.link.resetDue = false → s.pins.transport = .play →
    s.engine.cues = [] →
    let ticked := s.query.entries.map (tick s.query.limit)
    ∃ t, exec (.frameTick low) s = .next t ∧
      t.query = { s.query with
        entries := ticked.filter (fun e => !stale e)
        tickLimit := s.query.limit } ∧
      ((∃ e ∈ s.query.entries, e.state = .waiting ∧ (tick s.query.limit e).state ≠ .waiting) →
        hasCause t.notice.pending .queryComplete = true) ∧
      ((∃ e ∈ ticked, stale e = true) → hasCause t.notice.pending .queryDiscarded = true)) ∧
  (∀ (s : State) (low : BitVec 4), s.link.resetDue = false → s.pins.transport = .play →
    let kept := s.query.entries.filter (fun e => !stale (tick s.query.limit e))
    ∃ t, exec (.frameTick low) s = .next t ∧
      t.query.limit = s.query.limit ∧ t.query.tickLimit = s.query.limit ∧
      t.query.entries.length = kept.length ∧
      (∀ (i : Nat) (e : QueryEntry), kept[i]? = some e → (∀ id, e.state ≠ .held id) →
        t.query.entries[i]? = some (tick s.query.limit e)) ∧
      (∀ (i : Nat) (e : QueryEntry) (id : Nat), kept[i]? = some e → e.state = .held id →
        ∃ x, t.query.entries[i]? = some x ∧ x.kind = e.kind ∧ x.frame = e.frame) ∧
      ((∃ e ∈ s.query.entries, e.state = .waiting ∧ (tick s.query.limit e).state ≠ .waiting) →
        hasCause t.notice.pending .queryComplete = true) ∧
      ((∃ e ∈ s.query.entries, stale (tick s.query.limit e) = true) →
        hasCause t.notice.pending .queryDiscarded = true))
end

