-- ==== Sys2Proof/Laws/State.lean ====
section
/-! SUPPORT. What each setter of a block leaves: one lemma for each block and setter, so that no proof unfolds a
record update. -/

namespace Sys2Proof.Machine

/-! ## setPending -/

@[simp] theorem State.setPending_pending (s : State) (x : List Instr) : (s.setPending x).pending = x := rfl
@[simp] theorem State.setPending_pins (s : State) (x : List Instr) : (s.setPending x).pins = s.pins := rfl
@[simp] theorem State.setPending_sampleCount (s : State) (x : List Instr) : (s.setPending x).sampleCount = s.sampleCount := rfl
@[simp] theorem State.setPending_input (s : State) (x : List Instr) : (s.setPending x).input = s.input := rfl
@[simp] theorem State.setPending_lineage (s : State) (x : List Instr) : (s.setPending x).lineage = s.lineage := rfl
@[simp] theorem State.setPending_formatter (s : State) (x : List Instr) : (s.setPending x).formatter = s.formatter := rfl
@[simp] theorem State.setPending_gathered (s : State) (x : List Instr) : (s.setPending x).gathered = s.gathered := rfl
@[simp] theorem State.setPending_decoder (s : State) (x : List Instr) : (s.setPending x).decoder = s.decoder := rfl
@[simp] theorem State.setPending_conceal (s : State) (x : List Instr) : (s.setPending x).conceal = s.conceal := rfl
@[simp] theorem State.setPending_ring (s : State) (x : List Instr) : (s.setPending x).ring = s.ring := rfl
@[simp] theorem State.setPending_position (s : State) (x : List Instr) : (s.setPending x).position = s.position := rfl
@[simp] theorem State.setPending_engine (s : State) (x : List Instr) : (s.setPending x).engine = s.engine := rfl
@[simp] theorem State.setPending_query (s : State) (x : List Instr) : (s.setPending x).query = s.query := rfl
@[simp] theorem State.setPending_output (s : State) (x : List Instr) : (s.setPending x).output = s.output := rfl
@[simp] theorem State.setPending_notice (s : State) (x : List Instr) : (s.setPending x).notice = s.notice := rfl
@[simp] theorem State.setPending_link (s : State) (x : List Instr) : (s.setPending x).link = s.link := rfl
@[simp] theorem State.setPending_self (s : State) : s.setPending s.pending = s := rfl
@[simp] theorem State.setPending_setPending (s : State) (x y : List Instr) :
    (s.setPending x).setPending y = s.setPending y := rfl

/-! ## setPins -/

@[simp] theorem State.setPins_pending (s : State) (x : Pins) : (s.setPins x).pending = s.pending := rfl
@[simp] theorem State.setPins_pins (s : State) (x : Pins) : (s.setPins x).pins = x := rfl
@[simp] theorem State.setPins_sampleCount (s : State) (x : Pins) : (s.setPins x).sampleCount = s.sampleCount := rfl
@[simp] theorem State.setPins_input (s : State) (x : Pins) : (s.setPins x).input = s.input := rfl
@[simp] theorem State.setPins_lineage (s : State) (x : Pins) : (s.setPins x).lineage = s.lineage := rfl
@[simp] theorem State.setPins_formatter (s : State) (x : Pins) : (s.setPins x).formatter = s.formatter := rfl
@[simp] theorem State.setPins_gathered (s : State) (x : Pins) : (s.setPins x).gathered = s.gathered := rfl
@[simp] theorem State.setPins_decoder (s : State) (x : Pins) : (s.setPins x).decoder = s.decoder := rfl
@[simp] theorem State.setPins_conceal (s : State) (x : Pins) : (s.setPins x).conceal = s.conceal := rfl
@[simp] theorem State.setPins_ring (s : State) (x : Pins) : (s.setPins x).ring = s.ring := rfl
@[simp] theorem State.setPins_position (s : State) (x : Pins) : (s.setPins x).position = s.position := rfl
@[simp] theorem State.setPins_engine (s : State) (x : Pins) : (s.setPins x).engine = s.engine := rfl
@[simp] theorem State.setPins_query (s : State) (x : Pins) : (s.setPins x).query = s.query := rfl
@[simp] theorem State.setPins_output (s : State) (x : Pins) : (s.setPins x).output = s.output := rfl
@[simp] theorem State.setPins_notice (s : State) (x : Pins) : (s.setPins x).notice = s.notice := rfl
@[simp] theorem State.setPins_link (s : State) (x : Pins) : (s.setPins x).link = s.link := rfl
@[simp] theorem State.setPins_self (s : State) : s.setPins s.pins = s := rfl
@[simp] theorem State.setPins_setPins (s : State) (x y : Pins) :
    (s.setPins x).setPins y = s.setPins y := rfl

/-! ## setSampleCount -/

@[simp] theorem State.setSampleCount_pending (s : State) (x : Nat) : (s.setSampleCount x).pending = s.pending := rfl
@[simp] theorem State.setSampleCount_pins (s : State) (x : Nat) : (s.setSampleCount x).pins = s.pins := rfl
@[simp] theorem State.setSampleCount_sampleCount (s : State) (x : Nat) : (s.setSampleCount x).sampleCount = x := rfl
@[simp] theorem State.setSampleCount_input (s : State) (x : Nat) : (s.setSampleCount x).input = s.input := rfl
@[simp] theorem State.setSampleCount_lineage (s : State) (x : Nat) : (s.setSampleCount x).lineage = s.lineage := rfl
@[simp] theorem State.setSampleCount_formatter (s : State) (x : Nat) : (s.setSampleCount x).formatter = s.formatter := rfl
@[simp] theorem State.setSampleCount_gathered (s : State) (x : Nat) : (s.setSampleCount x).gathered = s.gathered := rfl
@[simp] theorem State.setSampleCount_decoder (s : State) (x : Nat) : (s.setSampleCount x).decoder = s.decoder := rfl
@[simp] theorem State.setSampleCount_conceal (s : State) (x : Nat) : (s.setSampleCount x).conceal = s.conceal := rfl
@[simp] theorem State.setSampleCount_ring (s : State) (x : Nat) : (s.setSampleCount x).ring = s.ring := rfl
@[simp] theorem State.setSampleCount_position (s : State) (x : Nat) : (s.setSampleCount x).position = s.position := rfl
@[simp] theorem State.setSampleCount_engine (s : State) (x : Nat) : (s.setSampleCount x).engine = s.engine := rfl
@[simp] theorem State.setSampleCount_query (s : State) (x : Nat) : (s.setSampleCount x).query = s.query := rfl
@[simp] theorem State.setSampleCount_output (s : State) (x : Nat) : (s.setSampleCount x).output = s.output := rfl
@[simp] theorem State.setSampleCount_notice (s : State) (x : Nat) : (s.setSampleCount x).notice = s.notice := rfl
@[simp] theorem State.setSampleCount_link (s : State) (x : Nat) : (s.setSampleCount x).link = s.link := rfl
@[simp] theorem State.setSampleCount_self (s : State) : s.setSampleCount s.sampleCount = s := rfl
@[simp] theorem State.setSampleCount_setSampleCount (s : State) (x y : Nat) :
    (s.setSampleCount x).setSampleCount y = s.setSampleCount y := rfl

/-! ## setInput -/

@[simp] theorem State.setInput_pending (s : State) (x : InputUnit) : (s.setInput x).pending = s.pending := rfl
@[simp] theorem State.setInput_pins (s : State) (x : InputUnit) : (s.setInput x).pins = s.pins := rfl
@[simp] theorem State.setInput_sampleCount (s : State) (x : InputUnit) : (s.setInput x).sampleCount = s.sampleCount := rfl
@[simp] theorem State.setInput_input (s : State) (x : InputUnit) : (s.setInput x).input = x := rfl
@[simp] theorem State.setInput_lineage (s : State) (x : InputUnit) : (s.setInput x).lineage = s.lineage := rfl
@[simp] theorem State.setInput_formatter (s : State) (x : InputUnit) : (s.setInput x).formatter = s.formatter := rfl
@[simp] theorem State.setInput_gathered (s : State) (x : InputUnit) : (s.setInput x).gathered = s.gathered := rfl
@[simp] theorem State.setInput_decoder (s : State) (x : InputUnit) : (s.setInput x).decoder = s.decoder := rfl
@[simp] theorem State.setInput_conceal (s : State) (x : InputUnit) : (s.setInput x).conceal = s.conceal := rfl
@[simp] theorem State.setInput_ring (s : State) (x : InputUnit) : (s.setInput x).ring = s.ring := rfl
@[simp] theorem State.setInput_position (s : State) (x : InputUnit) : (s.setInput x).position = s.position := rfl
@[simp] theorem State.setInput_engine (s : State) (x : InputUnit) : (s.setInput x).engine = s.engine := rfl
@[simp] theorem State.setInput_query (s : State) (x : InputUnit) : (s.setInput x).query = s.query := rfl
@[simp] theorem State.setInput_output (s : State) (x : InputUnit) : (s.setInput x).output = s.output := rfl
@[simp] theorem State.setInput_notice (s : State) (x : InputUnit) : (s.setInput x).notice = s.notice := rfl
@[simp] theorem State.setInput_link (s : State) (x : InputUnit) : (s.setInput x).link = s.link := rfl
@[simp] theorem State.setInput_self (s : State) : s.setInput s.input = s := rfl
@[simp] theorem State.setInput_setInput (s : State) (x y : InputUnit) :
    (s.setInput x).setInput y = s.setInput y := rfl

/-! ## setLineage -/

@[simp] theorem State.setLineage_pending (s : State) (x : Lineage) : (s.setLineage x).pending = s.pending := rfl
@[simp] theorem State.setLineage_pins (s : State) (x : Lineage) : (s.setLineage x).pins = s.pins := rfl
@[simp] theorem State.setLineage_sampleCount (s : State) (x : Lineage) : (s.setLineage x).sampleCount = s.sampleCount := rfl
@[simp] theorem State.setLineage_input (s : State) (x : Lineage) : (s.setLineage x).input = s.input := rfl
@[simp] theorem State.setLineage_lineage (s : State) (x : Lineage) : (s.setLineage x).lineage = x := rfl
@[simp] theorem State.setLineage_formatter (s : State) (x : Lineage) : (s.setLineage x).formatter = s.formatter := rfl
@[simp] theorem State.setLineage_gathered (s : State) (x : Lineage) : (s.setLineage x).gathered = s.gathered := rfl
@[simp] theorem State.setLineage_decoder (s : State) (x : Lineage) : (s.setLineage x).decoder = s.decoder := rfl
@[simp] theorem State.setLineage_conceal (s : State) (x : Lineage) : (s.setLineage x).conceal = s.conceal := rfl
@[simp] theorem State.setLineage_ring (s : State) (x : Lineage) : (s.setLineage x).ring = s.ring := rfl
@[simp] theorem State.setLineage_position (s : State) (x : Lineage) : (s.setLineage x).position = s.position := rfl
@[simp] theorem State.setLineage_engine (s : State) (x : Lineage) : (s.setLineage x).engine = s.engine := rfl
@[simp] theorem State.setLineage_query (s : State) (x : Lineage) : (s.setLineage x).query = s.query := rfl
@[simp] theorem State.setLineage_output (s : State) (x : Lineage) : (s.setLineage x).output = s.output := rfl
@[simp] theorem State.setLineage_notice (s : State) (x : Lineage) : (s.setLineage x).notice = s.notice := rfl
@[simp] theorem State.setLineage_link (s : State) (x : Lineage) : (s.setLineage x).link = s.link := rfl
@[simp] theorem State.setLineage_self (s : State) : s.setLineage s.lineage = s := rfl
@[simp] theorem State.setLineage_setLineage (s : State) (x y : Lineage) :
    (s.setLineage x).setLineage y = s.setLineage y := rfl

/-! ## setFormatter -/

@[simp] theorem State.setFormatter_pending (s : State) (x : Formatter) : (s.setFormatter x).pending = s.pending := rfl
@[simp] theorem State.setFormatter_pins (s : State) (x : Formatter) : (s.setFormatter x).pins = s.pins := rfl
@[simp] theorem State.setFormatter_sampleCount (s : State) (x : Formatter) : (s.setFormatter x).sampleCount = s.sampleCount := rfl
@[simp] theorem State.setFormatter_input (s : State) (x : Formatter) : (s.setFormatter x).input = s.input := rfl
@[simp] theorem State.setFormatter_lineage (s : State) (x : Formatter) : (s.setFormatter x).lineage = s.lineage := rfl
@[simp] theorem State.setFormatter_formatter (s : State) (x : Formatter) : (s.setFormatter x).formatter = x := rfl
@[simp] theorem State.setFormatter_gathered (s : State) (x : Formatter) : (s.setFormatter x).gathered = s.gathered := rfl
@[simp] theorem State.setFormatter_decoder (s : State) (x : Formatter) : (s.setFormatter x).decoder = s.decoder := rfl
@[simp] theorem State.setFormatter_conceal (s : State) (x : Formatter) : (s.setFormatter x).conceal = s.conceal := rfl
@[simp] theorem State.setFormatter_ring (s : State) (x : Formatter) : (s.setFormatter x).ring = s.ring := rfl
@[simp] theorem State.setFormatter_position (s : State) (x : Formatter) : (s.setFormatter x).position = s.position := rfl
@[simp] theorem State.setFormatter_engine (s : State) (x : Formatter) : (s.setFormatter x).engine = s.engine := rfl
@[simp] theorem State.setFormatter_query (s : State) (x : Formatter) : (s.setFormatter x).query = s.query := rfl
@[simp] theorem State.setFormatter_output (s : State) (x : Formatter) : (s.setFormatter x).output = s.output := rfl
@[simp] theorem State.setFormatter_notice (s : State) (x : Formatter) : (s.setFormatter x).notice = s.notice := rfl
@[simp] theorem State.setFormatter_link (s : State) (x : Formatter) : (s.setFormatter x).link = s.link := rfl
@[simp] theorem State.setFormatter_self (s : State) : s.setFormatter s.formatter = s := rfl
@[simp] theorem State.setFormatter_setFormatter (s : State) (x y : Formatter) :
    (s.setFormatter x).setFormatter y = s.setFormatter y := rfl

/-! ## setGathered -/

@[simp] theorem State.setGathered_pending (s : State) (x : PerHead (List (List Byte))) : (s.setGathered x).pending = s.pending := rfl
@[simp] theorem State.setGathered_pins (s : State) (x : PerHead (List (List Byte))) : (s.setGathered x).pins = s.pins := rfl
@[simp] theorem State.setGathered_sampleCount (s : State) (x : PerHead (List (List Byte))) : (s.setGathered x).sampleCount = s.sampleCount := rfl
@[simp] theorem State.setGathered_input (s : State) (x : PerHead (List (List Byte))) : (s.setGathered x).input = s.input := rfl
@[simp] theorem State.setGathered_lineage (s : State) (x : PerHead (List (List Byte))) : (s.setGathered x).lineage = s.lineage := rfl
@[simp] theorem State.setGathered_formatter (s : State) (x : PerHead (List (List Byte))) : (s.setGathered x).formatter = s.formatter := rfl
@[simp] theorem State.setGathered_gathered (s : State) (x : PerHead (List (List Byte))) : (s.setGathered x).gathered = x := rfl
@[simp] theorem State.setGathered_decoder (s : State) (x : PerHead (List (List Byte))) : (s.setGathered x).decoder = s.decoder := rfl
@[simp] theorem State.setGathered_conceal (s : State) (x : PerHead (List (List Byte))) : (s.setGathered x).conceal = s.conceal := rfl
@[simp] theorem State.setGathered_ring (s : State) (x : PerHead (List (List Byte))) : (s.setGathered x).ring = s.ring := rfl
@[simp] theorem State.setGathered_position (s : State) (x : PerHead (List (List Byte))) : (s.setGathered x).position = s.position := rfl
@[simp] theorem State.setGathered_engine (s : State) (x : PerHead (List (List Byte))) : (s.setGathered x).engine = s.engine := rfl
@[simp] theorem State.setGathered_query (s : State) (x : PerHead (List (List Byte))) : (s.setGathered x).query = s.query := rfl
@[simp] theorem State.setGathered_output (s : State) (x : PerHead (List (List Byte))) : (s.setGathered x).output = s.output := rfl
@[simp] theorem State.setGathered_notice (s : State) (x : PerHead (List (List Byte))) : (s.setGathered x).notice = s.notice := rfl
@[simp] theorem State.setGathered_link (s : State) (x : PerHead (List (List Byte))) : (s.setGathered x).link = s.link := rfl
@[simp] theorem State.setGathered_self (s : State) : s.setGathered s.gathered = s := rfl
@[simp] theorem State.setGathered_setGathered (s : State) (x y : PerHead (List (List Byte))) :
    (s.setGathered x).setGathered y = s.setGathered y := rfl

/-! ## setDecoder -/

@[simp] theorem State.setDecoder_pending (s : State) (x : Decoder) : (s.setDecoder x).pending = s.pending := rfl
@[simp] theorem State.setDecoder_pins (s : State) (x : Decoder) : (s.setDecoder x).pins = s.pins := rfl
@[simp] theorem State.setDecoder_sampleCount (s : State) (x : Decoder) : (s.setDecoder x).sampleCount = s.sampleCount := rfl
@[simp] theorem State.setDecoder_input (s : State) (x : Decoder) : (s.setDecoder x).input = s.input := rfl
@[simp] theorem State.setDecoder_lineage (s : State) (x : Decoder) : (s.setDecoder x).lineage = s.lineage := rfl
@[simp] theorem State.setDecoder_formatter (s : State) (x : Decoder) : (s.setDecoder x).formatter = s.formatter := rfl
@[simp] theorem State.setDecoder_gathered (s : State) (x : Decoder) : (s.setDecoder x).gathered = s.gathered := rfl
@[simp] theorem State.setDecoder_decoder (s : State) (x : Decoder) : (s.setDecoder x).decoder = x := rfl
@[simp] theorem State.setDecoder_conceal (s : State) (x : Decoder) : (s.setDecoder x).conceal = s.conceal := rfl
@[simp] theorem State.setDecoder_ring (s : State) (x : Decoder) : (s.setDecoder x).ring = s.ring := rfl
@[simp] theorem State.setDecoder_position (s : State) (x : Decoder) : (s.setDecoder x).position = s.position := rfl
@[simp] theorem State.setDecoder_engine (s : State) (x : Decoder) : (s.setDecoder x).engine = s.engine := rfl
@[simp] theorem State.setDecoder_query (s : State) (x : Decoder) : (s.setDecoder x).query = s.query := rfl
@[simp] theorem State.setDecoder_output (s : State) (x : Decoder) : (s.setDecoder x).output = s.output := rfl
@[simp] theorem State.setDecoder_notice (s : State) (x : Decoder) : (s.setDecoder x).notice = s.notice := rfl
@[simp] theorem State.setDecoder_link (s : State) (x : Decoder) : (s.setDecoder x).link = s.link := rfl
@[simp] theorem State.setDecoder_self (s : State) : s.setDecoder s.decoder = s := rfl
@[simp] theorem State.setDecoder_setDecoder (s : State) (x y : Decoder) :
    (s.setDecoder x).setDecoder y = s.setDecoder y := rfl

/-! ## setConceal -/

@[simp] theorem State.setConceal_pending (s : State) (x : Conceal) : (s.setConceal x).pending = s.pending := rfl
@[simp] theorem State.setConceal_pins (s : State) (x : Conceal) : (s.setConceal x).pins = s.pins := rfl
@[simp] theorem State.setConceal_sampleCount (s : State) (x : Conceal) : (s.setConceal x).sampleCount = s.sampleCount := rfl
@[simp] theorem State.setConceal_input (s : State) (x : Conceal) : (s.setConceal x).input = s.input := rfl
@[simp] theorem State.setConceal_lineage (s : State) (x : Conceal) : (s.setConceal x).lineage = s.lineage := rfl
@[simp] theorem State.setConceal_formatter (s : State) (x : Conceal) : (s.setConceal x).formatter = s.formatter := rfl
@[simp] theorem State.setConceal_gathered (s : State) (x : Conceal) : (s.setConceal x).gathered = s.gathered := rfl
@[simp] theorem State.setConceal_decoder (s : State) (x : Conceal) : (s.setConceal x).decoder = s.decoder := rfl
@[simp] theorem State.setConceal_conceal (s : State) (x : Conceal) : (s.setConceal x).conceal = x := rfl
@[simp] theorem State.setConceal_ring (s : State) (x : Conceal) : (s.setConceal x).ring = s.ring := rfl
@[simp] theorem State.setConceal_position (s : State) (x : Conceal) : (s.setConceal x).position = s.position := rfl
@[simp] theorem State.setConceal_engine (s : State) (x : Conceal) : (s.setConceal x).engine = s.engine := rfl
@[simp] theorem State.setConceal_query (s : State) (x : Conceal) : (s.setConceal x).query = s.query := rfl
@[simp] theorem State.setConceal_output (s : State) (x : Conceal) : (s.setConceal x).output = s.output := rfl
@[simp] theorem State.setConceal_notice (s : State) (x : Conceal) : (s.setConceal x).notice = s.notice := rfl
@[simp] theorem State.setConceal_link (s : State) (x : Conceal) : (s.setConceal x).link = s.link := rfl
@[simp] theorem State.setConceal_self (s : State) : s.setConceal s.conceal = s := rfl
@[simp] theorem State.setConceal_setConceal (s : State) (x y : Conceal) :
    (s.setConceal x).setConceal y = s.setConceal y := rfl

/-! ## setRing -/

@[simp] theorem State.setRing_pending (s : State) (x : List RingEntry) : (s.setRing x).pending = s.pending := rfl
@[simp] theorem State.setRing_pins (s : State) (x : List RingEntry) : (s.setRing x).pins = s.pins := rfl
@[simp] theorem State.setRing_sampleCount (s : State) (x : List RingEntry) : (s.setRing x).sampleCount = s.sampleCount := rfl
@[simp] theorem State.setRing_input (s : State) (x : List RingEntry) : (s.setRing x).input = s.input := rfl
@[simp] theorem State.setRing_lineage (s : State) (x : List RingEntry) : (s.setRing x).lineage = s.lineage := rfl
@[simp] theorem State.setRing_formatter (s : State) (x : List RingEntry) : (s.setRing x).formatter = s.formatter := rfl
@[simp] theorem State.setRing_gathered (s : State) (x : List RingEntry) : (s.setRing x).gathered = s.gathered := rfl
@[simp] theorem State.setRing_decoder (s : State) (x : List RingEntry) : (s.setRing x).decoder = s.decoder := rfl
@[simp] theorem State.setRing_conceal (s : State) (x : List RingEntry) : (s.setRing x).conceal = s.conceal := rfl
@[simp] theorem State.setRing_ring (s : State) (x : List RingEntry) : (s.setRing x).ring = x := rfl
@[simp] theorem State.setRing_position (s : State) (x : List RingEntry) : (s.setRing x).position = s.position := rfl
@[simp] theorem State.setRing_engine (s : State) (x : List RingEntry) : (s.setRing x).engine = s.engine := rfl
@[simp] theorem State.setRing_query (s : State) (x : List RingEntry) : (s.setRing x).query = s.query := rfl
@[simp] theorem State.setRing_output (s : State) (x : List RingEntry) : (s.setRing x).output = s.output := rfl
@[simp] theorem State.setRing_notice (s : State) (x : List RingEntry) : (s.setRing x).notice = s.notice := rfl
@[simp] theorem State.setRing_link (s : State) (x : List RingEntry) : (s.setRing x).link = s.link := rfl
@[simp] theorem State.setRing_self (s : State) : s.setRing s.ring = s := rfl
@[simp] theorem State.setRing_setRing (s : State) (x y : List RingEntry) :
    (s.setRing x).setRing y = s.setRing y := rfl

/-! ## setPosition -/

@[simp] theorem State.setPosition_pending (s : State) (x : Position) : (s.setPosition x).pending = s.pending := rfl
@[simp] theorem State.setPosition_pins (s : State) (x : Position) : (s.setPosition x).pins = s.pins := rfl
@[simp] theorem State.setPosition_sampleCount (s : State) (x : Position) : (s.setPosition x).sampleCount = s.sampleCount := rfl
@[simp] theorem State.setPosition_input (s : State) (x : Position) : (s.setPosition x).input = s.input := rfl
@[simp] theorem State.setPosition_lineage (s : State) (x : Position) : (s.setPosition x).lineage = s.lineage := rfl
@[simp] theorem State.setPosition_formatter (s : State) (x : Position) : (s.setPosition x).formatter = s.formatter := rfl
@[simp] theorem State.setPosition_gathered (s : State) (x : Position) : (s.setPosition x).gathered = s.gathered := rfl
@[simp] theorem State.setPosition_decoder (s : State) (x : Position) : (s.setPosition x).decoder = s.decoder := rfl
@[simp] theorem State.setPosition_conceal (s : State) (x : Position) : (s.setPosition x).conceal = s.conceal := rfl
@[simp] theorem State.setPosition_ring (s : State) (x : Position) : (s.setPosition x).ring = s.ring := rfl
@[simp] theorem State.setPosition_position (s : State) (x : Position) : (s.setPosition x).position = x := rfl
@[simp] theorem State.setPosition_engine (s : State) (x : Position) : (s.setPosition x).engine = s.engine := rfl
@[simp] theorem State.setPosition_query (s : State) (x : Position) : (s.setPosition x).query = s.query := rfl
@[simp] theorem State.setPosition_output (s : State) (x : Position) : (s.setPosition x).output = s.output := rfl
@[simp] theorem State.setPosition_notice (s : State) (x : Position) : (s.setPosition x).notice = s.notice := rfl
@[simp] theorem State.setPosition_link (s : State) (x : Position) : (s.setPosition x).link = s.link := rfl
@[simp] theorem State.setPosition_self (s : State) : s.setPosition s.position = s := rfl
@[simp] theorem State.setPosition_setPosition (s : State) (x y : Position) :
    (s.setPosition x).setPosition y = s.setPosition y := rfl

/-! ## setEngine -/

@[simp] theorem State.setEngine_pending (s : State) (x : Engine) : (s.setEngine x).pending = s.pending := rfl
@[simp] theorem State.setEngine_pins (s : State) (x : Engine) : (s.setEngine x).pins = s.pins := rfl
@[simp] theorem State.setEngine_sampleCount (s : State) (x : Engine) : (s.setEngine x).sampleCount = s.sampleCount := rfl
@[simp] theorem State.setEngine_input (s : State) (x : Engine) : (s.setEngine x).input = s.input := rfl
@[simp] theorem State.setEngine_lineage (s : State) (x : Engine) : (s.setEngine x).lineage = s.lineage := rfl
@[simp] theorem State.setEngine_formatter (s : State) (x : Engine) : (s.setEngine x).formatter = s.formatter := rfl
@[simp] theorem State.setEngine_gathered (s : State) (x : Engine) : (s.setEngine x).gathered = s.gathered := rfl
@[simp] theorem State.setEngine_decoder (s : State) (x : Engine) : (s.setEngine x).decoder = s.decoder := rfl
@[simp] theorem State.setEngine_conceal (s : State) (x : Engine) : (s.setEngine x).conceal = s.conceal := rfl
@[simp] theorem State.setEngine_ring (s : State) (x : Engine) : (s.setEngine x).ring = s.ring := rfl
@[simp] theorem State.setEngine_position (s : State) (x : Engine) : (s.setEngine x).position = s.position := rfl
@[simp] theorem State.setEngine_engine (s : State) (x : Engine) : (s.setEngine x).engine = x := rfl
@[simp] theorem State.setEngine_query (s : State) (x : Engine) : (s.setEngine x).query = s.query := rfl
@[simp] theorem State.setEngine_output (s : State) (x : Engine) : (s.setEngine x).output = s.output := rfl
@[simp] theorem State.setEngine_notice (s : State) (x : Engine) : (s.setEngine x).notice = s.notice := rfl
@[simp] theorem State.setEngine_link (s : State) (x : Engine) : (s.setEngine x).link = s.link := rfl
@[simp] theorem State.setEngine_self (s : State) : s.setEngine s.engine = s := rfl
@[simp] theorem State.setEngine_setEngine (s : State) (x y : Engine) :
    (s.setEngine x).setEngine y = s.setEngine y := rfl

/-! ## setQuery -/

@[simp] theorem State.setQuery_pending (s : State) (x : QueryTable) : (s.setQuery x).pending = s.pending := rfl
@[simp] theorem State.setQuery_pins (s : State) (x : QueryTable) : (s.setQuery x).pins = s.pins := rfl
@[simp] theorem State.setQuery_sampleCount (s : State) (x : QueryTable) : (s.setQuery x).sampleCount = s.sampleCount := rfl
@[simp] theorem State.setQuery_input (s : State) (x : QueryTable) : (s.setQuery x).input = s.input := rfl
@[simp] theorem State.setQuery_lineage (s : State) (x : QueryTable) : (s.setQuery x).lineage = s.lineage := rfl
@[simp] theorem State.setQuery_formatter (s : State) (x : QueryTable) : (s.setQuery x).formatter = s.formatter := rfl
@[simp] theorem State.setQuery_gathered (s : State) (x : QueryTable) : (s.setQuery x).gathered = s.gathered := rfl
@[simp] theorem State.setQuery_decoder (s : State) (x : QueryTable) : (s.setQuery x).decoder = s.decoder := rfl
@[simp] theorem State.setQuery_conceal (s : State) (x : QueryTable) : (s.setQuery x).conceal = s.conceal := rfl
@[simp] theorem State.setQuery_ring (s : State) (x : QueryTable) : (s.setQuery x).ring = s.ring := rfl
@[simp] theorem State.setQuery_position (s : State) (x : QueryTable) : (s.setQuery x).position = s.position := rfl
@[simp] theorem State.setQuery_engine (s : State) (x : QueryTable) : (s.setQuery x).engine = s.engine := rfl
@[simp] theorem State.setQuery_query (s : State) (x : QueryTable) : (s.setQuery x).query = x := rfl
@[simp] theorem State.setQuery_output (s : State) (x : QueryTable) : (s.setQuery x).output = s.output := rfl
@[simp] theorem State.setQuery_notice (s : State) (x : QueryTable) : (s.setQuery x).notice = s.notice := rfl
@[simp] theorem State.setQuery_link (s : State) (x : QueryTable) : (s.setQuery x).link = s.link := rfl
@[simp] theorem State.setQuery_self (s : State) : s.setQuery s.query = s := rfl
@[simp] theorem State.setQuery_setQuery (s : State) (x y : QueryTable) :
    (s.setQuery x).setQuery y = s.setQuery y := rfl

/-! ## setOutput -/

@[simp] theorem State.setOutput_pending (s : State) (x : OutputUnit) : (s.setOutput x).pending = s.pending := rfl
@[simp] theorem State.setOutput_pins (s : State) (x : OutputUnit) : (s.setOutput x).pins = s.pins := rfl
@[simp] theorem State.setOutput_sampleCount (s : State) (x : OutputUnit) : (s.setOutput x).sampleCount = s.sampleCount := rfl
@[simp] theorem State.setOutput_input (s : State) (x : OutputUnit) : (s.setOutput x).input = s.input := rfl
@[simp] theorem State.setOutput_lineage (s : State) (x : OutputUnit) : (s.setOutput x).lineage = s.lineage := rfl
@[simp] theorem State.setOutput_formatter (s : State) (x : OutputUnit) : (s.setOutput x).formatter = s.formatter := rfl
@[simp] theorem State.setOutput_gathered (s : State) (x : OutputUnit) : (s.setOutput x).gathered = s.gathered := rfl
@[simp] theorem State.setOutput_decoder (s : State) (x : OutputUnit) : (s.setOutput x).decoder = s.decoder := rfl
@[simp] theorem State.setOutput_conceal (s : State) (x : OutputUnit) : (s.setOutput x).conceal = s.conceal := rfl
@[simp] theorem State.setOutput_ring (s : State) (x : OutputUnit) : (s.setOutput x).ring = s.ring := rfl
@[simp] theorem State.setOutput_position (s : State) (x : OutputUnit) : (s.setOutput x).position = s.position := rfl
@[simp] theorem State.setOutput_engine (s : State) (x : OutputUnit) : (s.setOutput x).engine = s.engine := rfl
@[simp] theorem State.setOutput_query (s : State) (x : OutputUnit) : (s.setOutput x).query = s.query := rfl
@[simp] theorem State.setOutput_output (s : State) (x : OutputUnit) : (s.setOutput x).output = x := rfl
@[simp] theorem State.setOutput_notice (s : State) (x : OutputUnit) : (s.setOutput x).notice = s.notice := rfl
@[simp] theorem State.setOutput_link (s : State) (x : OutputUnit) : (s.setOutput x).link = s.link := rfl
@[simp] theorem State.setOutput_self (s : State) : s.setOutput s.output = s := rfl
@[simp] theorem State.setOutput_setOutput (s : State) (x y : OutputUnit) :
    (s.setOutput x).setOutput y = s.setOutput y := rfl

/-! ## setNotice -/

@[simp] theorem State.setNotice_pending (s : State) (x : NoticeUnit) : (s.setNotice x).pending = s.pending := rfl
@[simp] theorem State.setNotice_pins (s : State) (x : NoticeUnit) : (s.setNotice x).pins = s.pins := rfl
@[simp] theorem State.setNotice_sampleCount (s : State) (x : NoticeUnit) : (s.setNotice x).sampleCount = s.sampleCount := rfl
@[simp] theorem State.setNotice_input (s : State) (x : NoticeUnit) : (s.setNotice x).input = s.input := rfl
@[simp] theorem State.setNotice_lineage (s : State) (x : NoticeUnit) : (s.setNotice x).lineage = s.lineage := rfl
@[simp] theorem State.setNotice_formatter (s : State) (x : NoticeUnit) : (s.setNotice x).formatter = s.formatter := rfl
@[simp] theorem State.setNotice_gathered (s : State) (x : NoticeUnit) : (s.setNotice x).gathered = s.gathered := rfl
@[simp] theorem State.setNotice_decoder (s : State) (x : NoticeUnit) : (s.setNotice x).decoder = s.decoder := rfl
@[simp] theorem State.setNotice_conceal (s : State) (x : NoticeUnit) : (s.setNotice x).conceal = s.conceal := rfl
@[simp] theorem State.setNotice_ring (s : State) (x : NoticeUnit) : (s.setNotice x).ring = s.ring := rfl
@[simp] theorem State.setNotice_position (s : State) (x : NoticeUnit) : (s.setNotice x).position = s.position := rfl
@[simp] theorem State.setNotice_engine (s : State) (x : NoticeUnit) : (s.setNotice x).engine = s.engine := rfl
@[simp] theorem State.setNotice_query (s : State) (x : NoticeUnit) : (s.setNotice x).query = s.query := rfl
@[simp] theorem State.setNotice_output (s : State) (x : NoticeUnit) : (s.setNotice x).output = s.output := rfl
@[simp] theorem State.setNotice_notice (s : State) (x : NoticeUnit) : (s.setNotice x).notice = x := rfl
@[simp] theorem State.setNotice_link (s : State) (x : NoticeUnit) : (s.setNotice x).link = s.link := rfl
@[simp] theorem State.setNotice_self (s : State) : s.setNotice s.notice = s := rfl
@[simp] theorem State.setNotice_setNotice (s : State) (x y : NoticeUnit) :
    (s.setNotice x).setNotice y = s.setNotice y := rfl

/-! ## setLink -/

@[simp] theorem State.setLink_pending (s : State) (x : LinkUnit) : (s.setLink x).pending = s.pending := rfl
@[simp] theorem State.setLink_pins (s : State) (x : LinkUnit) : (s.setLink x).pins = s.pins := rfl
@[simp] theorem State.setLink_sampleCount (s : State) (x : LinkUnit) : (s.setLink x).sampleCount = s.sampleCount := rfl
@[simp] theorem State.setLink_input (s : State) (x : LinkUnit) : (s.setLink x).input = s.input := rfl
@[simp] theorem State.setLink_lineage (s : State) (x : LinkUnit) : (s.setLink x).lineage = s.lineage := rfl
@[simp] theorem State.setLink_formatter (s : State) (x : LinkUnit) : (s.setLink x).formatter = s.formatter := rfl
@[simp] theorem State.setLink_gathered (s : State) (x : LinkUnit) : (s.setLink x).gathered = s.gathered := rfl
@[simp] theorem State.setLink_decoder (s : State) (x : LinkUnit) : (s.setLink x).decoder = s.decoder := rfl
@[simp] theorem State.setLink_conceal (s : State) (x : LinkUnit) : (s.setLink x).conceal = s.conceal := rfl
@[simp] theorem State.setLink_ring (s : State) (x : LinkUnit) : (s.setLink x).ring = s.ring := rfl
@[simp] theorem State.setLink_position (s : State) (x : LinkUnit) : (s.setLink x).position = s.position := rfl
@[simp] theorem State.setLink_engine (s : State) (x : LinkUnit) : (s.setLink x).engine = s.engine := rfl
@[simp] theorem State.setLink_query (s : State) (x : LinkUnit) : (s.setLink x).query = s.query := rfl
@[simp] theorem State.setLink_output (s : State) (x : LinkUnit) : (s.setLink x).output = s.output := rfl
@[simp] theorem State.setLink_notice (s : State) (x : LinkUnit) : (s.setLink x).notice = s.notice := rfl
@[simp] theorem State.setLink_link (s : State) (x : LinkUnit) : (s.setLink x).link = x := rfl
@[simp] theorem State.setLink_self (s : State) : s.setLink s.link = s := rfl
@[simp] theorem State.setLink_setLink (s : State) (x y : LinkUnit) :
    (s.setLink x).setLink y = s.setLink y := rfl

/-! ## Values per head -/

@[simp] theorem PerHead.get_set_self {α : Type} (p : PerHead α) (h : Head) (x : α) : (p.set h x).get h = x := by
  cases h <;> rfl

theorem PerHead.get_set_other {α : Type} (p : PerHead α) {g h : Head} (x : α) (ne : g ≠ h) :
    (p.set h x).get g = p.get g := by
  cases g <;> cases h <;> first | rfl | exact absurd rfl ne

@[simp] theorem PerHead.set_get_self {α : Type} (p : PerHead α) (h : Head) : p.set h (p.get h) = p := by
  cases h <;> rfl

end Sys2Proof.Machine
end

