-- ==== Sys2Proof/Laws/Notice.lean ====
section
/-! SUPPORT. The notice unit's operations: they touch the notice unit and the own side of the link unit alone, and
raising keeps every pending cause. -/

namespace Sys2Proof.Machine

/-! ## Shape: everything an evaluation and a raising can do -/

/-- An evaluation gives the state with another Lr and another own side, and nothing else. -/
theorem evaluate_shape (s : State) : ∃ lr own,
    evaluate s = (s.setNotice { s.notice with lr := lr }).setLink { s.link with own := own } := by
  unfold evaluate
  split
  · exact ⟨s.notice.lr, s.link.own, rfl⟩
  · split
    · exact ⟨_, _, rfl⟩
    · exact ⟨s.notice.lr, s.link.own, rfl⟩

/-- A raising gives the state with the cause pending, perhaps another Lr and own side, and nothing else. -/
theorem raise_shape (c : Cause) (s : State) : ∃ pending lr own,
    raise c s = (s.setNotice { s.notice with pending := pending, lr := lr }).setLink { s.link with own := own } ∧
      (pending = s.notice.pending ∨ pending = s.notice.pending ||| causeBit c) := by
  unfold raise
  split
  · exact ⟨s.notice.pending, s.notice.lr, s.link.own, rfl, .inl rfl⟩
  · obtain ⟨lr, own, h⟩ := evaluate_shape
      (s.setNotice { s.notice with pending := s.notice.pending ||| causeBit c })
    exact ⟨_, lr, own, h, .inr rfl⟩

/-- The same of a raising under a condition. -/
theorem raiseIf_shape (b : Bool) (c : Cause) (s : State) : ∃ pending lr own,
    raiseIf b c s
        = (s.setNotice { s.notice with pending := pending, lr := lr }).setLink { s.link with own := own } ∧
      (pending = s.notice.pending ∨ pending = s.notice.pending ||| causeBit c) := by
  cases b
  · exact ⟨s.notice.pending, s.notice.lr, s.link.own, rfl, .inl rfl⟩
  · exact raise_shape c s

/-- Setting flags gives the state with other flags, and a raising of LINK_FAULT. -/
theorem setFlags_shape (mask : BitVec 8) (s : State) : ∃ pending lr own flags,
    setFlags mask s = (s.setNotice { s.notice with pending := pending, lr := lr }).setLink
      { s.link with own := own, flags := flags } := by
  unfold setFlags
  split
  · exact ⟨s.notice.pending, s.notice.lr, s.link.own, s.link.flags, rfl⟩
  · obtain ⟨pending, lr, own, h, _⟩ := raise_shape .linkFault
      (s.setLink { s.link with flags := s.link.flags ||| mask })
    exact ⟨pending, lr, own, _, h⟩

@[simp] theorem raiseIf_true (c : Cause) (s : State) : raiseIf true c s = raise c s := rfl

@[simp] theorem raiseIf_false (c : Cause) (s : State) : raiseIf false c s = s := rfl

/-! ## What `evaluate` keeps -/

@[simp] theorem evaluate_pending (s : State) : (evaluate s).pending = s.pending := by
  obtain ⟨_, _, h⟩ := evaluate_shape s; rw [h]; rfl
@[simp] theorem evaluate_pins (s : State) : (evaluate s).pins = s.pins := by
  obtain ⟨_, _, h⟩ := evaluate_shape s; rw [h]; rfl
@[simp] theorem evaluate_sampleCount (s : State) : (evaluate s).sampleCount = s.sampleCount := by
  obtain ⟨_, _, h⟩ := evaluate_shape s; rw [h]; rfl
@[simp] theorem evaluate_input (s : State) : (evaluate s).input = s.input := by
  obtain ⟨_, _, h⟩ := evaluate_shape s; rw [h]; rfl
@[simp] theorem evaluate_lineage (s : State) : (evaluate s).lineage = s.lineage := by
  obtain ⟨_, _, h⟩ := evaluate_shape s; rw [h]; rfl
@[simp] theorem evaluate_formatter (s : State) : (evaluate s).formatter = s.formatter := by
  obtain ⟨_, _, h⟩ := evaluate_shape s; rw [h]; rfl
@[simp] theorem evaluate_gathered (s : State) : (evaluate s).gathered = s.gathered := by
  obtain ⟨_, _, h⟩ := evaluate_shape s; rw [h]; rfl
@[simp] theorem evaluate_decoder (s : State) : (evaluate s).decoder = s.decoder := by
  obtain ⟨_, _, h⟩ := evaluate_shape s; rw [h]; rfl
@[simp] theorem evaluate_conceal (s : State) : (evaluate s).conceal = s.conceal := by
  obtain ⟨_, _, h⟩ := evaluate_shape s; rw [h]; rfl
@[simp] theorem evaluate_ring (s : State) : (evaluate s).ring = s.ring := by
  obtain ⟨_, _, h⟩ := evaluate_shape s; rw [h]; rfl
@[simp] theorem evaluate_position (s : State) : (evaluate s).position = s.position := by
  obtain ⟨_, _, h⟩ := evaluate_shape s; rw [h]; rfl
@[simp] theorem evaluate_engine (s : State) : (evaluate s).engine = s.engine := by
  obtain ⟨_, _, h⟩ := evaluate_shape s; rw [h]; rfl
@[simp] theorem evaluate_query (s : State) : (evaluate s).query = s.query := by
  obtain ⟨_, _, h⟩ := evaluate_shape s; rw [h]; rfl
@[simp] theorem evaluate_output (s : State) : (evaluate s).output = s.output := by
  obtain ⟨_, _, h⟩ := evaluate_shape s; rw [h]; rfl
@[simp] theorem evaluate_link_assigned (s : State) : (evaluate s).link.assigned = s.link.assigned := by
  obtain ⟨_, _, h⟩ := evaluate_shape s; rw [h]; rfl
@[simp] theorem evaluate_link_requests (s : State) : (evaluate s).link.requests = s.link.requests := by
  obtain ⟨_, _, h⟩ := evaluate_shape s; rw [h]; rfl
@[simp] theorem evaluate_link_hold (s : State) : (evaluate s).link.hold = s.link.hold := by
  obtain ⟨_, _, h⟩ := evaluate_shape s; rw [h]; rfl
@[simp] theorem evaluate_link_forward (s : State) : (evaluate s).link.forward = s.link.forward := by
  obtain ⟨_, _, h⟩ := evaluate_shape s; rw [h]; rfl
@[simp] theorem evaluate_link_lastSide (s : State) : (evaluate s).link.lastSide = s.link.lastSide := by
  obtain ⟨_, _, h⟩ := evaluate_shape s; rw [h]; rfl
@[simp] theorem evaluate_link_runCount (s : State) : (evaluate s).link.runCount = s.link.runCount := by
  obtain ⟨_, _, h⟩ := evaluate_shape s; rw [h]; rfl
@[simp] theorem evaluate_link_slice (s : State) : (evaluate s).link.slice = s.link.slice := by
  obtain ⟨_, _, h⟩ := evaluate_shape s; rw [h]; rfl
@[simp] theorem evaluate_link_upReceiver (s : State) : (evaluate s).link.upReceiver = s.link.upReceiver := by
  obtain ⟨_, _, h⟩ := evaluate_shape s; rw [h]; rfl
@[simp] theorem evaluate_link_downReceiver (s : State) : (evaluate s).link.downReceiver = s.link.downReceiver := by
  obtain ⟨_, _, h⟩ := evaluate_shape s; rw [h]; rfl
@[simp] theorem evaluate_link_upSending (s : State) : (evaluate s).link.upSending = s.link.upSending := by
  obtain ⟨_, _, h⟩ := evaluate_shape s; rw [h]; rfl
@[simp] theorem evaluate_link_downSending (s : State) : (evaluate s).link.downSending = s.link.downSending := by
  obtain ⟨_, _, h⟩ := evaluate_shape s; rw [h]; rfl
@[simp] theorem evaluate_link_paused (s : State) : (evaluate s).link.paused = s.link.paused := by
  obtain ⟨_, _, h⟩ := evaluate_shape s; rw [h]; rfl
@[simp] theorem evaluate_link_resetDue (s : State) : (evaluate s).link.resetDue = s.link.resetDue := by
  obtain ⟨_, _, h⟩ := evaluate_shape s; rw [h]; rfl
@[simp] theorem evaluate_link_flags (s : State) : (evaluate s).link.flags = s.link.flags := by
  obtain ⟨_, _, h⟩ := evaluate_shape s; rw [h]; rfl
@[simp] theorem evaluate_notice_enabled (s : State) : (evaluate s).notice.enabled = s.notice.enabled := by
  obtain ⟨_, _, h⟩ := evaluate_shape s; rw [h]; rfl
@[simp] theorem evaluate_notice_priority (s : State) : (evaluate s).notice.priority = s.notice.priority := by
  obtain ⟨_, _, h⟩ := evaluate_shape s; rw [h]; rfl

/-! ## What `raise` keeps -/

@[simp] theorem raise_pending (c : Cause) (s : State) : (raise c s).pending = s.pending := by
  obtain ⟨_, _, _, h, _⟩ := raise_shape c s; rw [h]; rfl
@[simp] theorem raise_pins (c : Cause) (s : State) : (raise c s).pins = s.pins := by
  obtain ⟨_, _, _, h, _⟩ := raise_shape c s; rw [h]; rfl
@[simp] theorem raise_sampleCount (c : Cause) (s : State) : (raise c s).sampleCount = s.sampleCount := by
  obtain ⟨_, _, _, h, _⟩ := raise_shape c s; rw [h]; rfl
@[simp] theorem raise_input (c : Cause) (s : State) : (raise c s).input = s.input := by
  obtain ⟨_, _, _, h, _⟩ := raise_shape c s; rw [h]; rfl
@[simp] theorem raise_lineage (c : Cause) (s : State) : (raise c s).lineage = s.lineage := by
  obtain ⟨_, _, _, h, _⟩ := raise_shape c s; rw [h]; rfl
@[simp] theorem raise_formatter (c : Cause) (s : State) : (raise c s).formatter = s.formatter := by
  obtain ⟨_, _, _, h, _⟩ := raise_shape c s; rw [h]; rfl
@[simp] theorem raise_gathered (c : Cause) (s : State) : (raise c s).gathered = s.gathered := by
  obtain ⟨_, _, _, h, _⟩ := raise_shape c s; rw [h]; rfl
@[simp] theorem raise_decoder (c : Cause) (s : State) : (raise c s).decoder = s.decoder := by
  obtain ⟨_, _, _, h, _⟩ := raise_shape c s; rw [h]; rfl
@[simp] theorem raise_conceal (c : Cause) (s : State) : (raise c s).conceal = s.conceal := by
  obtain ⟨_, _, _, h, _⟩ := raise_shape c s; rw [h]; rfl
@[simp] theorem raise_ring (c : Cause) (s : State) : (raise c s).ring = s.ring := by
  obtain ⟨_, _, _, h, _⟩ := raise_shape c s; rw [h]; rfl
@[simp] theorem raise_position (c : Cause) (s : State) : (raise c s).position = s.position := by
  obtain ⟨_, _, _, h, _⟩ := raise_shape c s; rw [h]; rfl
@[simp] theorem raise_engine (c : Cause) (s : State) : (raise c s).engine = s.engine := by
  obtain ⟨_, _, _, h, _⟩ := raise_shape c s; rw [h]; rfl
@[simp] theorem raise_query (c : Cause) (s : State) : (raise c s).query = s.query := by
  obtain ⟨_, _, _, h, _⟩ := raise_shape c s; rw [h]; rfl
@[simp] theorem raise_output (c : Cause) (s : State) : (raise c s).output = s.output := by
  obtain ⟨_, _, _, h, _⟩ := raise_shape c s; rw [h]; rfl
@[simp] theorem raise_link_assigned (c : Cause) (s : State) : (raise c s).link.assigned = s.link.assigned := by
  obtain ⟨_, _, _, h, _⟩ := raise_shape c s; rw [h]; rfl
@[simp] theorem raise_link_requests (c : Cause) (s : State) : (raise c s).link.requests = s.link.requests := by
  obtain ⟨_, _, _, h, _⟩ := raise_shape c s; rw [h]; rfl
@[simp] theorem raise_link_hold (c : Cause) (s : State) : (raise c s).link.hold = s.link.hold := by
  obtain ⟨_, _, _, h, _⟩ := raise_shape c s; rw [h]; rfl
@[simp] theorem raise_link_forward (c : Cause) (s : State) : (raise c s).link.forward = s.link.forward := by
  obtain ⟨_, _, _, h, _⟩ := raise_shape c s; rw [h]; rfl
@[simp] theorem raise_link_lastSide (c : Cause) (s : State) : (raise c s).link.lastSide = s.link.lastSide := by
  obtain ⟨_, _, _, h, _⟩ := raise_shape c s; rw [h]; rfl
@[simp] theorem raise_link_runCount (c : Cause) (s : State) : (raise c s).link.runCount = s.link.runCount := by
  obtain ⟨_, _, _, h, _⟩ := raise_shape c s; rw [h]; rfl
@[simp] theorem raise_link_slice (c : Cause) (s : State) : (raise c s).link.slice = s.link.slice := by
  obtain ⟨_, _, _, h, _⟩ := raise_shape c s; rw [h]; rfl
@[simp] theorem raise_link_upReceiver (c : Cause) (s : State) : (raise c s).link.upReceiver = s.link.upReceiver := by
  obtain ⟨_, _, _, h, _⟩ := raise_shape c s; rw [h]; rfl
@[simp] theorem raise_link_downReceiver (c : Cause) (s : State) : (raise c s).link.downReceiver = s.link.downReceiver := by
  obtain ⟨_, _, _, h, _⟩ := raise_shape c s; rw [h]; rfl
@[simp] theorem raise_link_upSending (c : Cause) (s : State) : (raise c s).link.upSending = s.link.upSending := by
  obtain ⟨_, _, _, h, _⟩ := raise_shape c s; rw [h]; rfl
@[simp] theorem raise_link_downSending (c : Cause) (s : State) : (raise c s).link.downSending = s.link.downSending := by
  obtain ⟨_, _, _, h, _⟩ := raise_shape c s; rw [h]; rfl
@[simp] theorem raise_link_paused (c : Cause) (s : State) : (raise c s).link.paused = s.link.paused := by
  obtain ⟨_, _, _, h, _⟩ := raise_shape c s; rw [h]; rfl
@[simp] theorem raise_link_resetDue (c : Cause) (s : State) : (raise c s).link.resetDue = s.link.resetDue := by
  obtain ⟨_, _, _, h, _⟩ := raise_shape c s; rw [h]; rfl
@[simp] theorem raise_link_flags (c : Cause) (s : State) : (raise c s).link.flags = s.link.flags := by
  obtain ⟨_, _, _, h, _⟩ := raise_shape c s; rw [h]; rfl
@[simp] theorem raise_notice_enabled (c : Cause) (s : State) : (raise c s).notice.enabled = s.notice.enabled := by
  obtain ⟨_, _, _, h, _⟩ := raise_shape c s; rw [h]; rfl
@[simp] theorem raise_notice_priority (c : Cause) (s : State) : (raise c s).notice.priority = s.notice.priority := by
  obtain ⟨_, _, _, h, _⟩ := raise_shape c s; rw [h]; rfl

/-! ## What `raiseIf` keeps -/

@[simp] theorem raiseIf_pending (b : Bool) (c : Cause) (s : State) : (raiseIf b c s).pending = s.pending := by
  obtain ⟨_, _, _, h, _⟩ := raiseIf_shape b c s; rw [h]; rfl
@[simp] theorem raiseIf_pins (b : Bool) (c : Cause) (s : State) : (raiseIf b c s).pins = s.pins := by
  obtain ⟨_, _, _, h, _⟩ := raiseIf_shape b c s; rw [h]; rfl
@[simp] theorem raiseIf_sampleCount (b : Bool) (c : Cause) (s : State) : (raiseIf b c s).sampleCount = s.sampleCount := by
  obtain ⟨_, _, _, h, _⟩ := raiseIf_shape b c s; rw [h]; rfl
@[simp] theorem raiseIf_input (b : Bool) (c : Cause) (s : State) : (raiseIf b c s).input = s.input := by
  obtain ⟨_, _, _, h, _⟩ := raiseIf_shape b c s; rw [h]; rfl
@[simp] theorem raiseIf_lineage (b : Bool) (c : Cause) (s : State) : (raiseIf b c s).lineage = s.lineage := by
  obtain ⟨_, _, _, h, _⟩ := raiseIf_shape b c s; rw [h]; rfl
@[simp] theorem raiseIf_formatter (b : Bool) (c : Cause) (s : State) : (raiseIf b c s).formatter = s.formatter := by
  obtain ⟨_, _, _, h, _⟩ := raiseIf_shape b c s; rw [h]; rfl
@[simp] theorem raiseIf_gathered (b : Bool) (c : Cause) (s : State) : (raiseIf b c s).gathered = s.gathered := by
  obtain ⟨_, _, _, h, _⟩ := raiseIf_shape b c s; rw [h]; rfl
@[simp] theorem raiseIf_decoder (b : Bool) (c : Cause) (s : State) : (raiseIf b c s).decoder = s.decoder := by
  obtain ⟨_, _, _, h, _⟩ := raiseIf_shape b c s; rw [h]; rfl
@[simp] theorem raiseIf_conceal (b : Bool) (c : Cause) (s : State) : (raiseIf b c s).conceal = s.conceal := by
  obtain ⟨_, _, _, h, _⟩ := raiseIf_shape b c s; rw [h]; rfl
@[simp] theorem raiseIf_ring (b : Bool) (c : Cause) (s : State) : (raiseIf b c s).ring = s.ring := by
  obtain ⟨_, _, _, h, _⟩ := raiseIf_shape b c s; rw [h]; rfl
@[simp] theorem raiseIf_position (b : Bool) (c : Cause) (s : State) : (raiseIf b c s).position = s.position := by
  obtain ⟨_, _, _, h, _⟩ := raiseIf_shape b c s; rw [h]; rfl
@[simp] theorem raiseIf_engine (b : Bool) (c : Cause) (s : State) : (raiseIf b c s).engine = s.engine := by
  obtain ⟨_, _, _, h, _⟩ := raiseIf_shape b c s; rw [h]; rfl
@[simp] theorem raiseIf_query (b : Bool) (c : Cause) (s : State) : (raiseIf b c s).query = s.query := by
  obtain ⟨_, _, _, h, _⟩ := raiseIf_shape b c s; rw [h]; rfl
@[simp] theorem raiseIf_output (b : Bool) (c : Cause) (s : State) : (raiseIf b c s).output = s.output := by
  obtain ⟨_, _, _, h, _⟩ := raiseIf_shape b c s; rw [h]; rfl
@[simp] theorem raiseIf_link_assigned (b : Bool) (c : Cause) (s : State) : (raiseIf b c s).link.assigned = s.link.assigned := by
  obtain ⟨_, _, _, h, _⟩ := raiseIf_shape b c s; rw [h]; rfl
@[simp] theorem raiseIf_link_requests (b : Bool) (c : Cause) (s : State) : (raiseIf b c s).link.requests = s.link.requests := by
  obtain ⟨_, _, _, h, _⟩ := raiseIf_shape b c s; rw [h]; rfl
@[simp] theorem raiseIf_link_hold (b : Bool) (c : Cause) (s : State) : (raiseIf b c s).link.hold = s.link.hold := by
  obtain ⟨_, _, _, h, _⟩ := raiseIf_shape b c s; rw [h]; rfl
@[simp] theorem raiseIf_link_forward (b : Bool) (c : Cause) (s : State) : (raiseIf b c s).link.forward = s.link.forward := by
  obtain ⟨_, _, _, h, _⟩ := raiseIf_shape b c s; rw [h]; rfl
@[simp] theorem raiseIf_link_lastSide (b : Bool) (c : Cause) (s : State) : (raiseIf b c s).link.lastSide = s.link.lastSide := by
  obtain ⟨_, _, _, h, _⟩ := raiseIf_shape b c s; rw [h]; rfl
@[simp] theorem raiseIf_link_runCount (b : Bool) (c : Cause) (s : State) : (raiseIf b c s).link.runCount = s.link.runCount := by
  obtain ⟨_, _, _, h, _⟩ := raiseIf_shape b c s; rw [h]; rfl
@[simp] theorem raiseIf_link_slice (b : Bool) (c : Cause) (s : State) : (raiseIf b c s).link.slice = s.link.slice := by
  obtain ⟨_, _, _, h, _⟩ := raiseIf_shape b c s; rw [h]; rfl
@[simp] theorem raiseIf_link_upReceiver (b : Bool) (c : Cause) (s : State) : (raiseIf b c s).link.upReceiver = s.link.upReceiver := by
  obtain ⟨_, _, _, h, _⟩ := raiseIf_shape b c s; rw [h]; rfl
@[simp] theorem raiseIf_link_downReceiver (b : Bool) (c : Cause) (s : State) : (raiseIf b c s).link.downReceiver = s.link.downReceiver := by
  obtain ⟨_, _, _, h, _⟩ := raiseIf_shape b c s; rw [h]; rfl
@[simp] theorem raiseIf_link_upSending (b : Bool) (c : Cause) (s : State) : (raiseIf b c s).link.upSending = s.link.upSending := by
  obtain ⟨_, _, _, h, _⟩ := raiseIf_shape b c s; rw [h]; rfl
@[simp] theorem raiseIf_link_downSending (b : Bool) (c : Cause) (s : State) : (raiseIf b c s).link.downSending = s.link.downSending := by
  obtain ⟨_, _, _, h, _⟩ := raiseIf_shape b c s; rw [h]; rfl
@[simp] theorem raiseIf_link_paused (b : Bool) (c : Cause) (s : State) : (raiseIf b c s).link.paused = s.link.paused := by
  obtain ⟨_, _, _, h, _⟩ := raiseIf_shape b c s; rw [h]; rfl
@[simp] theorem raiseIf_link_resetDue (b : Bool) (c : Cause) (s : State) : (raiseIf b c s).link.resetDue = s.link.resetDue := by
  obtain ⟨_, _, _, h, _⟩ := raiseIf_shape b c s; rw [h]; rfl
@[simp] theorem raiseIf_link_flags (b : Bool) (c : Cause) (s : State) : (raiseIf b c s).link.flags = s.link.flags := by
  obtain ⟨_, _, _, h, _⟩ := raiseIf_shape b c s; rw [h]; rfl
@[simp] theorem raiseIf_notice_enabled (b : Bool) (c : Cause) (s : State) : (raiseIf b c s).notice.enabled = s.notice.enabled := by
  obtain ⟨_, _, _, h, _⟩ := raiseIf_shape b c s; rw [h]; rfl
@[simp] theorem raiseIf_notice_priority (b : Bool) (c : Cause) (s : State) : (raiseIf b c s).notice.priority = s.notice.priority := by
  obtain ⟨_, _, _, h, _⟩ := raiseIf_shape b c s; rw [h]; rfl

/-! ## What `setFlags` keeps -/

@[simp] theorem setFlags_pending (mask : BitVec 8) (s : State) : (setFlags mask s).pending = s.pending := by
  obtain ⟨_, _, _, _, h⟩ := setFlags_shape mask s; rw [h]; rfl
@[simp] theorem setFlags_pins (mask : BitVec 8) (s : State) : (setFlags mask s).pins = s.pins := by
  obtain ⟨_, _, _, _, h⟩ := setFlags_shape mask s; rw [h]; rfl
@[simp] theorem setFlags_sampleCount (mask : BitVec 8) (s : State) : (setFlags mask s).sampleCount = s.sampleCount := by
  obtain ⟨_, _, _, _, h⟩ := setFlags_shape mask s; rw [h]; rfl
@[simp] theorem setFlags_input (mask : BitVec 8) (s : State) : (setFlags mask s).input = s.input := by
  obtain ⟨_, _, _, _, h⟩ := setFlags_shape mask s; rw [h]; rfl
@[simp] theorem setFlags_lineage (mask : BitVec 8) (s : State) : (setFlags mask s).lineage = s.lineage := by
  obtain ⟨_, _, _, _, h⟩ := setFlags_shape mask s; rw [h]; rfl
@[simp] theorem setFlags_formatter (mask : BitVec 8) (s : State) : (setFlags mask s).formatter = s.formatter := by
  obtain ⟨_, _, _, _, h⟩ := setFlags_shape mask s; rw [h]; rfl
@[simp] theorem setFlags_gathered (mask : BitVec 8) (s : State) : (setFlags mask s).gathered = s.gathered := by
  obtain ⟨_, _, _, _, h⟩ := setFlags_shape mask s; rw [h]; rfl
@[simp] theorem setFlags_decoder (mask : BitVec 8) (s : State) : (setFlags mask s).decoder = s.decoder := by
  obtain ⟨_, _, _, _, h⟩ := setFlags_shape mask s; rw [h]; rfl
@[simp] theorem setFlags_conceal (mask : BitVec 8) (s : State) : (setFlags mask s).conceal = s.conceal := by
  obtain ⟨_, _, _, _, h⟩ := setFlags_shape mask s; rw [h]; rfl
@[simp] theorem setFlags_ring (mask : BitVec 8) (s : State) : (setFlags mask s).ring = s.ring := by
  obtain ⟨_, _, _, _, h⟩ := setFlags_shape mask s; rw [h]; rfl
@[simp] theorem setFlags_position (mask : BitVec 8) (s : State) : (setFlags mask s).position = s.position := by
  obtain ⟨_, _, _, _, h⟩ := setFlags_shape mask s; rw [h]; rfl
@[simp] theorem setFlags_engine (mask : BitVec 8) (s : State) : (setFlags mask s).engine = s.engine := by
  obtain ⟨_, _, _, _, h⟩ := setFlags_shape mask s; rw [h]; rfl
@[simp] theorem setFlags_query (mask : BitVec 8) (s : State) : (setFlags mask s).query = s.query := by
  obtain ⟨_, _, _, _, h⟩ := setFlags_shape mask s; rw [h]; rfl
@[simp] theorem setFlags_output (mask : BitVec 8) (s : State) : (setFlags mask s).output = s.output := by
  obtain ⟨_, _, _, _, h⟩ := setFlags_shape mask s; rw [h]; rfl
@[simp] theorem setFlags_link_assigned (mask : BitVec 8) (s : State) : (setFlags mask s).link.assigned = s.link.assigned := by
  obtain ⟨_, _, _, _, h⟩ := setFlags_shape mask s; rw [h]; rfl
@[simp] theorem setFlags_link_requests (mask : BitVec 8) (s : State) : (setFlags mask s).link.requests = s.link.requests := by
  obtain ⟨_, _, _, _, h⟩ := setFlags_shape mask s; rw [h]; rfl
@[simp] theorem setFlags_link_hold (mask : BitVec 8) (s : State) : (setFlags mask s).link.hold = s.link.hold := by
  obtain ⟨_, _, _, _, h⟩ := setFlags_shape mask s; rw [h]; rfl
@[simp] theorem setFlags_link_forward (mask : BitVec 8) (s : State) : (setFlags mask s).link.forward = s.link.forward := by
  obtain ⟨_, _, _, _, h⟩ := setFlags_shape mask s; rw [h]; rfl
@[simp] theorem setFlags_link_lastSide (mask : BitVec 8) (s : State) : (setFlags mask s).link.lastSide = s.link.lastSide := by
  obtain ⟨_, _, _, _, h⟩ := setFlags_shape mask s; rw [h]; rfl
@[simp] theorem setFlags_link_runCount (mask : BitVec 8) (s : State) : (setFlags mask s).link.runCount = s.link.runCount := by
  obtain ⟨_, _, _, _, h⟩ := setFlags_shape mask s; rw [h]; rfl
@[simp] theorem setFlags_link_slice (mask : BitVec 8) (s : State) : (setFlags mask s).link.slice = s.link.slice := by
  obtain ⟨_, _, _, _, h⟩ := setFlags_shape mask s; rw [h]; rfl
@[simp] theorem setFlags_link_upReceiver (mask : BitVec 8) (s : State) : (setFlags mask s).link.upReceiver = s.link.upReceiver := by
  obtain ⟨_, _, _, _, h⟩ := setFlags_shape mask s; rw [h]; rfl
@[simp] theorem setFlags_link_downReceiver (mask : BitVec 8) (s : State) : (setFlags mask s).link.downReceiver = s.link.downReceiver := by
  obtain ⟨_, _, _, _, h⟩ := setFlags_shape mask s; rw [h]; rfl
@[simp] theorem setFlags_link_upSending (mask : BitVec 8) (s : State) : (setFlags mask s).link.upSending = s.link.upSending := by
  obtain ⟨_, _, _, _, h⟩ := setFlags_shape mask s; rw [h]; rfl
@[simp] theorem setFlags_link_downSending (mask : BitVec 8) (s : State) : (setFlags mask s).link.downSending = s.link.downSending := by
  obtain ⟨_, _, _, _, h⟩ := setFlags_shape mask s; rw [h]; rfl
@[simp] theorem setFlags_link_paused (mask : BitVec 8) (s : State) : (setFlags mask s).link.paused = s.link.paused := by
  obtain ⟨_, _, _, _, h⟩ := setFlags_shape mask s; rw [h]; rfl
@[simp] theorem setFlags_link_resetDue (mask : BitVec 8) (s : State) : (setFlags mask s).link.resetDue = s.link.resetDue := by
  obtain ⟨_, _, _, _, h⟩ := setFlags_shape mask s; rw [h]; rfl
@[simp] theorem setFlags_notice_enabled (mask : BitVec 8) (s : State) : (setFlags mask s).notice.enabled = s.notice.enabled := by
  obtain ⟨_, _, _, _, h⟩ := setFlags_shape mask s; rw [h]; rfl
@[simp] theorem setFlags_notice_priority (mask : BitVec 8) (s : State) : (setFlags mask s).notice.priority = s.notice.priority := by
  obtain ⟨_, _, _, _, h⟩ := setFlags_shape mask s; rw [h]; rfl

/-! ## The pending set -/

/-- The set of one cause holds that cause and no other. -/
theorem hasCause_causeBit (c d : Cause) : hasCause (causeBit c) d = decide (c = d) := by
  cases c <;> cases d <;> decide

theorem hasCause_or (a b : BitVec 24) (c : Cause) : hasCause (a ||| b) c = (hasCause a c || hasCause b c) := by
  simp [hasCause]

@[simp] theorem evaluate_notice_pending (s : State) : (evaluate s).notice.pending = s.notice.pending := by
  obtain ⟨_, _, h⟩ := evaluate_shape s
  rw [h]; rfl

/-- A raised cause is pending. -/
@[simp] theorem raise_hasCause_self (c : Cause) (s : State) : hasCause (raise c s).notice.pending c = true := by
  unfold raise
  split
  · assumption
  · simp [hasCause_or, hasCause_causeBit]

/-- Raising keeps every pending cause. -/
theorem raise_hasCause {c : Cause} (d : Cause) {s : State} (h : hasCause s.notice.pending c = true) :
    hasCause (raise d s).notice.pending c = true := by
  obtain ⟨p, _, _, e, hp⟩ := raise_shape d s
  rw [e]
  obtain hp | hp := hp <;> simp [hp, hasCause_or, h]

theorem raiseIf_hasCause {c : Cause} (b : Bool) (d : Cause) {s : State}
    (h : hasCause s.notice.pending c = true) : hasCause (raiseIf b d s).notice.pending c = true := by
  cases b
  · exact h
  · exact raise_hasCause d h

theorem setFlags_hasCause {c : Cause} (mask : BitVec 8) {s : State}
    (h : hasCause s.notice.pending c = true) : hasCause (setFlags mask s).notice.pending c = true := by
  unfold setFlags
  split
  · exact h
  · exact raise_hasCause _ h

end Sys2Proof.Machine
end

