-- ==== Sys2Proof/Laws/Frames.lean ====
section
/-! SUPPORT. What each shared operation of the blocks leaves unchanged, field by field, and the one fact that its
callers use. -/

namespace Sys2Proof.Machine

/-! ## rederive -/

@[simp] theorem rederive_pending (s : State) : (rederive s).pending = s.pending := by
  simp [rederive]
@[simp] theorem rederive_pins (s : State) : (rederive s).pins = s.pins := by
  simp [rederive]
@[simp] theorem rederive_sampleCount (s : State) : (rederive s).sampleCount = s.sampleCount := by
  simp [rederive]
@[simp] theorem rederive_formatter (s : State) : (rederive s).formatter = s.formatter := by
  simp [rederive]
@[simp] theorem rederive_gathered (s : State) : (rederive s).gathered = s.gathered := by
  simp [rederive]
@[simp] theorem rederive_decoder (s : State) : (rederive s).decoder = s.decoder := by
  simp [rederive]
@[simp] theorem rederive_conceal (s : State) : (rederive s).conceal = s.conceal := by
  simp [rederive]
@[simp] theorem rederive_ring (s : State) : (rederive s).ring = s.ring := by
  simp [rederive]
@[simp] theorem rederive_position (s : State) : (rederive s).position = s.position := by
  simp [rederive]
@[simp] theorem rederive_engine (s : State) : (rederive s).engine = s.engine := by
  simp [rederive]
@[simp] theorem rederive_query (s : State) : (rederive s).query = s.query := by
  simp [rederive]
@[simp] theorem rederive_output (s : State) : (rederive s).output = s.output := by
  simp [rederive]

/-! ## absenceTick -/

@[simp] theorem absenceTick_pending (s : State) : (absenceTick s).pending = s.pending := by
  simp [absenceTick]
@[simp] theorem absenceTick_pins (s : State) : (absenceTick s).pins = s.pins := by
  simp [absenceTick]
@[simp] theorem absenceTick_sampleCount (s : State) : (absenceTick s).sampleCount = s.sampleCount := by
  simp [absenceTick]
@[simp] theorem absenceTick_formatter (s : State) : (absenceTick s).formatter = s.formatter := by
  simp [absenceTick]
@[simp] theorem absenceTick_gathered (s : State) : (absenceTick s).gathered = s.gathered := by
  simp [absenceTick]
@[simp] theorem absenceTick_decoder (s : State) : (absenceTick s).decoder = s.decoder := by
  simp [absenceTick]
@[simp] theorem absenceTick_conceal (s : State) : (absenceTick s).conceal = s.conceal := by
  simp [absenceTick]
@[simp] theorem absenceTick_ring (s : State) : (absenceTick s).ring = s.ring := by
  simp [absenceTick]
@[simp] theorem absenceTick_position (s : State) : (absenceTick s).position = s.position := by
  simp [absenceTick]
@[simp] theorem absenceTick_engine (s : State) : (absenceTick s).engine = s.engine := by
  simp [absenceTick]
@[simp] theorem absenceTick_query (s : State) : (absenceTick s).query = s.query := by
  simp [absenceTick]
@[simp] theorem absenceTick_output (s : State) : (absenceTick s).output = s.output := by
  simp [absenceTick]

/-! ## absenceExpiry -/

@[simp] theorem absenceExpiry_pending (s : State) : (absenceExpiry s).pending = s.pending := by
  unfold absenceExpiry; (repeat' split) <;> simp
@[simp] theorem absenceExpiry_pins (s : State) : (absenceExpiry s).pins = s.pins := by
  unfold absenceExpiry; (repeat' split) <;> simp
@[simp] theorem absenceExpiry_sampleCount (s : State) : (absenceExpiry s).sampleCount = s.sampleCount := by
  unfold absenceExpiry; (repeat' split) <;> simp
@[simp] theorem absenceExpiry_formatter (s : State) : (absenceExpiry s).formatter = s.formatter := by
  unfold absenceExpiry; (repeat' split) <;> simp
@[simp] theorem absenceExpiry_gathered (s : State) : (absenceExpiry s).gathered = s.gathered := by
  unfold absenceExpiry; (repeat' split) <;> simp
@[simp] theorem absenceExpiry_decoder (s : State) : (absenceExpiry s).decoder = s.decoder := by
  unfold absenceExpiry; (repeat' split) <;> simp
@[simp] theorem absenceExpiry_conceal (s : State) : (absenceExpiry s).conceal = s.conceal := by
  unfold absenceExpiry; (repeat' split) <;> simp
@[simp] theorem absenceExpiry_ring (s : State) : (absenceExpiry s).ring = s.ring := by
  unfold absenceExpiry; (repeat' split) <;> simp
@[simp] theorem absenceExpiry_position (s : State) : (absenceExpiry s).position = s.position := by
  unfold absenceExpiry; (repeat' split) <;> simp
@[simp] theorem absenceExpiry_engine (s : State) : (absenceExpiry s).engine = s.engine := by
  unfold absenceExpiry; (repeat' split) <;> simp
@[simp] theorem absenceExpiry_query (s : State) : (absenceExpiry s).query = s.query := by
  unfold absenceExpiry; (repeat' split) <;> simp
@[simp] theorem absenceExpiry_output (s : State) : (absenceExpiry s).output = s.output := by
  unfold absenceExpiry; (repeat' split) <;> simp

/-! ## refusedReport -/

@[simp] theorem refusedReport_pending (w : FrameNo) (c : SpanContext) (s : State) : (refusedReport w c s).pending = s.pending := by
  unfold refusedReport; (repeat' split) <;> simp
@[simp] theorem refusedReport_pins (w : FrameNo) (c : SpanContext) (s : State) : (refusedReport w c s).pins = s.pins := by
  unfold refusedReport; (repeat' split) <;> simp
@[simp] theorem refusedReport_sampleCount (w : FrameNo) (c : SpanContext) (s : State) : (refusedReport w c s).sampleCount = s.sampleCount := by
  unfold refusedReport; (repeat' split) <;> simp
@[simp] theorem refusedReport_input (w : FrameNo) (c : SpanContext) (s : State) : (refusedReport w c s).input = s.input := by
  unfold refusedReport; (repeat' split) <;> simp
@[simp] theorem refusedReport_formatter (w : FrameNo) (c : SpanContext) (s : State) : (refusedReport w c s).formatter = s.formatter := by
  unfold refusedReport; (repeat' split) <;> simp
@[simp] theorem refusedReport_gathered (w : FrameNo) (c : SpanContext) (s : State) : (refusedReport w c s).gathered = s.gathered := by
  unfold refusedReport; (repeat' split) <;> simp
@[simp] theorem refusedReport_decoder (w : FrameNo) (c : SpanContext) (s : State) : (refusedReport w c s).decoder = s.decoder := by
  unfold refusedReport; (repeat' split) <;> simp
@[simp] theorem refusedReport_conceal (w : FrameNo) (c : SpanContext) (s : State) : (refusedReport w c s).conceal = s.conceal := by
  unfold refusedReport; (repeat' split) <;> simp
@[simp] theorem refusedReport_ring (w : FrameNo) (c : SpanContext) (s : State) : (refusedReport w c s).ring = s.ring := by
  unfold refusedReport; (repeat' split) <;> simp
@[simp] theorem refusedReport_position (w : FrameNo) (c : SpanContext) (s : State) : (refusedReport w c s).position = s.position := by
  unfold refusedReport; (repeat' split) <;> simp
@[simp] theorem refusedReport_engine (w : FrameNo) (c : SpanContext) (s : State) : (refusedReport w c s).engine = s.engine := by
  unfold refusedReport; (repeat' split) <;> simp
@[simp] theorem refusedReport_query (w : FrameNo) (c : SpanContext) (s : State) : (refusedReport w c s).query = s.query := by
  unfold refusedReport; (repeat' split) <;> simp
@[simp] theorem refusedReport_output (w : FrameNo) (c : SpanContext) (s : State) : (refusedReport w c s).output = s.output := by
  unfold refusedReport; (repeat' split) <;> simp

/-! ## closeSpan -/

@[simp] theorem closeSpan_pending (s : State) : (closeSpan s).pending = s.pending := by
  unfold closeSpan; (repeat' split) <;> simp
@[simp] theorem closeSpan_pins (s : State) : (closeSpan s).pins = s.pins := by
  unfold closeSpan; (repeat' split) <;> simp
@[simp] theorem closeSpan_sampleCount (s : State) : (closeSpan s).sampleCount = s.sampleCount := by
  unfold closeSpan; (repeat' split) <;> simp
@[simp] theorem closeSpan_input (s : State) : (closeSpan s).input = s.input := by
  unfold closeSpan; (repeat' split) <;> simp
@[simp] theorem closeSpan_formatter (s : State) : (closeSpan s).formatter = s.formatter := by
  unfold closeSpan; (repeat' split) <;> simp
@[simp] theorem closeSpan_gathered (s : State) : (closeSpan s).gathered = s.gathered := by
  unfold closeSpan; (repeat' split) <;> simp
@[simp] theorem closeSpan_decoder (s : State) : (closeSpan s).decoder = s.decoder := by
  unfold closeSpan; (repeat' split) <;> simp
@[simp] theorem closeSpan_conceal (s : State) : (closeSpan s).conceal = s.conceal := by
  unfold closeSpan; (repeat' split) <;> simp
@[simp] theorem closeSpan_ring (s : State) : (closeSpan s).ring = s.ring := by
  unfold closeSpan; (repeat' split) <;> simp
@[simp] theorem closeSpan_position (s : State) : (closeSpan s).position = s.position := by
  unfold closeSpan; (repeat' split) <;> simp
@[simp] theorem closeSpan_engine (s : State) : (closeSpan s).engine = s.engine := by
  unfold closeSpan; (repeat' split) <;> simp
@[simp] theorem closeSpan_query (s : State) : (closeSpan s).query = s.query := by
  unfold closeSpan; (repeat' split) <;> simp
@[simp] theorem closeSpan_output (s : State) : (closeSpan s).output = s.output := by
  unfold closeSpan; (repeat' split) <;> simp

/-! ## closeCapture -/

@[simp] theorem closeCapture_pending (s : State) : (closeCapture s).pending = s.pending := by
  unfold closeCapture; dsimp only; (repeat' split) <;> simp
@[simp] theorem closeCapture_pins (s : State) : (closeCapture s).pins = s.pins := by
  unfold closeCapture; dsimp only; (repeat' split) <;> simp
@[simp] theorem closeCapture_sampleCount (s : State) : (closeCapture s).sampleCount = s.sampleCount := by
  unfold closeCapture; dsimp only; (repeat' split) <;> simp
@[simp] theorem closeCapture_formatter (s : State) : (closeCapture s).formatter = s.formatter := by
  unfold closeCapture; dsimp only; (repeat' split) <;> simp
@[simp] theorem closeCapture_gathered (s : State) : (closeCapture s).gathered = s.gathered := by
  unfold closeCapture; dsimp only; (repeat' split) <;> simp
@[simp] theorem closeCapture_decoder (s : State) : (closeCapture s).decoder = s.decoder := by
  unfold closeCapture; dsimp only; (repeat' split) <;> simp
@[simp] theorem closeCapture_conceal (s : State) : (closeCapture s).conceal = s.conceal := by
  unfold closeCapture; dsimp only; (repeat' split) <;> simp
@[simp] theorem closeCapture_ring (s : State) : (closeCapture s).ring = s.ring := by
  unfold closeCapture; dsimp only; (repeat' split) <;> simp
@[simp] theorem closeCapture_position (s : State) : (closeCapture s).position = s.position := by
  unfold closeCapture; dsimp only; (repeat' split) <;> simp
@[simp] theorem closeCapture_engine (s : State) : (closeCapture s).engine = s.engine := by
  unfold closeCapture; dsimp only; (repeat' split) <;> simp
@[simp] theorem closeCapture_query (s : State) : (closeCapture s).query = s.query := by
  unfold closeCapture; dsimp only; (repeat' split) <;> simp

/-! ## openCapture -/

@[simp] theorem openCapture_pending (s : State) : (openCapture s).pending = s.pending := by
  simp [openCapture]
@[simp] theorem openCapture_pins (s : State) : (openCapture s).pins = s.pins := by
  simp [openCapture]
@[simp] theorem openCapture_sampleCount (s : State) : (openCapture s).sampleCount = s.sampleCount := by
  simp [openCapture]
@[simp] theorem openCapture_formatter (s : State) : (openCapture s).formatter = s.formatter := by
  simp [openCapture]
@[simp] theorem openCapture_gathered (s : State) : (openCapture s).gathered = s.gathered := by
  simp [openCapture]
@[simp] theorem openCapture_decoder (s : State) : (openCapture s).decoder = s.decoder := by
  simp [openCapture]
@[simp] theorem openCapture_conceal (s : State) : (openCapture s).conceal = s.conceal := by
  simp [openCapture]
@[simp] theorem openCapture_ring (s : State) : (openCapture s).ring = s.ring := by
  simp [openCapture]
@[simp] theorem openCapture_position (s : State) : (openCapture s).position = s.position := by
  simp [openCapture]
@[simp] theorem openCapture_engine (s : State) : (openCapture s).engine = s.engine := by
  simp [openCapture]
@[simp] theorem openCapture_query (s : State) : (openCapture s).query = s.query := by
  simp [openCapture]
@[simp] theorem openCapture_output (s : State) : (openCapture s).output = s.output := by
  simp [openCapture]
@[simp] theorem openCapture_notice (s : State) : (openCapture s).notice = s.notice := by
  simp [openCapture]
@[simp] theorem openCapture_link (s : State) : (openCapture s).link = s.link := by
  simp [openCapture]

/-! ## captureTick -/

@[simp] theorem captureTick_pending (s : State) : (captureTick s).pending = s.pending := by
  simp [captureTick]
@[simp] theorem captureTick_pins (s : State) : (captureTick s).pins = s.pins := by
  simp [captureTick]
@[simp] theorem captureTick_sampleCount (s : State) : (captureTick s).sampleCount = s.sampleCount := by
  simp [captureTick]
@[simp] theorem captureTick_formatter (s : State) : (captureTick s).formatter = s.formatter := by
  simp [captureTick]
@[simp] theorem captureTick_gathered (s : State) : (captureTick s).gathered = s.gathered := by
  simp [captureTick]
@[simp] theorem captureTick_decoder (s : State) : (captureTick s).decoder = s.decoder := by
  simp [captureTick]
@[simp] theorem captureTick_conceal (s : State) : (captureTick s).conceal = s.conceal := by
  simp [captureTick]
@[simp] theorem captureTick_ring (s : State) : (captureTick s).ring = s.ring := by
  simp [captureTick]
@[simp] theorem captureTick_position (s : State) : (captureTick s).position = s.position := by
  simp [captureTick]
@[simp] theorem captureTick_engine (s : State) : (captureTick s).engine = s.engine := by
  simp [captureTick]
@[simp] theorem captureTick_query (s : State) : (captureTick s).query = s.query := by
  simp [captureTick]

/-! ## emptyBuffer -/

@[simp] theorem emptyBuffer_pending (s : State) : (emptyBuffer s).pending = s.pending := by
  simp [emptyBuffer]
@[simp] theorem emptyBuffer_pins (s : State) : (emptyBuffer s).pins = s.pins := by
  simp [emptyBuffer]
@[simp] theorem emptyBuffer_sampleCount (s : State) : (emptyBuffer s).sampleCount = s.sampleCount := by
  simp [emptyBuffer]
@[simp] theorem emptyBuffer_formatter (s : State) : (emptyBuffer s).formatter = s.formatter := by
  simp [emptyBuffer]
@[simp] theorem emptyBuffer_gathered (s : State) : (emptyBuffer s).gathered = s.gathered := by
  simp [emptyBuffer]
@[simp] theorem emptyBuffer_decoder (s : State) : (emptyBuffer s).decoder = s.decoder := by
  simp [emptyBuffer]
@[simp] theorem emptyBuffer_conceal (s : State) : (emptyBuffer s).conceal = s.conceal := by
  simp [emptyBuffer]
@[simp] theorem emptyBuffer_ring (s : State) : (emptyBuffer s).ring = s.ring := by
  simp [emptyBuffer]
@[simp] theorem emptyBuffer_position (s : State) : (emptyBuffer s).position = s.position := by
  simp [emptyBuffer]
@[simp] theorem emptyBuffer_engine (s : State) : (emptyBuffer s).engine = s.engine := by
  simp [emptyBuffer]
@[simp] theorem emptyBuffer_query (s : State) : (emptyBuffer s).query = s.query := by
  simp [emptyBuffer]
@[simp] theorem emptyBuffer_output (s : State) : (emptyBuffer s).output = s.output := by
  simp [emptyBuffer]
@[simp] theorem emptyBuffer_notice (s : State) : (emptyBuffer s).notice = s.notice := by
  simp [emptyBuffer]
@[simp] theorem emptyBuffer_link (s : State) : (emptyBuffer s).link = s.link := by
  simp [emptyBuffer]

/-! ## renumber -/

@[simp] theorem renumber_pending (d : FrameNo) (s : State) : (renumber d s).pending = s.pending := by
  simp [renumber]
@[simp] theorem renumber_pins (d : FrameNo) (s : State) : (renumber d s).pins = s.pins := by
  simp [renumber]
@[simp] theorem renumber_sampleCount (d : FrameNo) (s : State) : (renumber d s).sampleCount = s.sampleCount := by
  simp [renumber]
@[simp] theorem renumber_lineage (d : FrameNo) (s : State) : (renumber d s).lineage = s.lineage := by
  simp [renumber]
@[simp] theorem renumber_formatter (d : FrameNo) (s : State) : (renumber d s).formatter = s.formatter := by
  simp [renumber]
@[simp] theorem renumber_gathered (d : FrameNo) (s : State) : (renumber d s).gathered = s.gathered := by
  simp [renumber]
@[simp] theorem renumber_decoder (d : FrameNo) (s : State) : (renumber d s).decoder = s.decoder := by
  simp [renumber]
@[simp] theorem renumber_conceal (d : FrameNo) (s : State) : (renumber d s).conceal = s.conceal := by
  simp [renumber]
@[simp] theorem renumber_ring (d : FrameNo) (s : State) : (renumber d s).ring = s.ring := by
  simp [renumber]
@[simp] theorem renumber_position (d : FrameNo) (s : State) : (renumber d s).position = s.position := by
  simp [renumber]
@[simp] theorem renumber_engine (d : FrameNo) (s : State) : (renumber d s).engine = s.engine := by
  simp [renumber]
@[simp] theorem renumber_query (d : FrameNo) (s : State) : (renumber d s).query = s.query := by
  simp [renumber]
@[simp] theorem renumber_output (d : FrameNo) (s : State) : (renumber d s).output = s.output := by
  simp [renumber]
@[simp] theorem renumber_notice (d : FrameNo) (s : State) : (renumber d s).notice = s.notice := by
  simp [renumber]
@[simp] theorem renumber_link (d : FrameNo) (s : State) : (renumber d s).link = s.link := by
  simp [renumber]

/-! ## updateQueries -/

@[simp] theorem updateQueries_pending (f : QueryEntry → QueryEntry) (s : State) : (updateQueries f s).pending = s.pending := by
  simp [updateQueries]
@[simp] theorem updateQueries_pins (f : QueryEntry → QueryEntry) (s : State) : (updateQueries f s).pins = s.pins := by
  simp [updateQueries]
@[simp] theorem updateQueries_sampleCount (f : QueryEntry → QueryEntry) (s : State) : (updateQueries f s).sampleCount = s.sampleCount := by
  simp [updateQueries]
@[simp] theorem updateQueries_input (f : QueryEntry → QueryEntry) (s : State) : (updateQueries f s).input = s.input := by
  simp [updateQueries]
@[simp] theorem updateQueries_lineage (f : QueryEntry → QueryEntry) (s : State) : (updateQueries f s).lineage = s.lineage := by
  simp [updateQueries]
@[simp] theorem updateQueries_formatter (f : QueryEntry → QueryEntry) (s : State) : (updateQueries f s).formatter = s.formatter := by
  simp [updateQueries]
@[simp] theorem updateQueries_gathered (f : QueryEntry → QueryEntry) (s : State) : (updateQueries f s).gathered = s.gathered := by
  simp [updateQueries]
@[simp] theorem updateQueries_decoder (f : QueryEntry → QueryEntry) (s : State) : (updateQueries f s).decoder = s.decoder := by
  simp [updateQueries]
@[simp] theorem updateQueries_conceal (f : QueryEntry → QueryEntry) (s : State) : (updateQueries f s).conceal = s.conceal := by
  simp [updateQueries]
@[simp] theorem updateQueries_ring (f : QueryEntry → QueryEntry) (s : State) : (updateQueries f s).ring = s.ring := by
  simp [updateQueries]
@[simp] theorem updateQueries_position (f : QueryEntry → QueryEntry) (s : State) : (updateQueries f s).position = s.position := by
  simp [updateQueries]
@[simp] theorem updateQueries_engine (f : QueryEntry → QueryEntry) (s : State) : (updateQueries f s).engine = s.engine := by
  simp [updateQueries]
@[simp] theorem updateQueries_output (f : QueryEntry → QueryEntry) (s : State) : (updateQueries f s).output = s.output := by
  simp [updateQueries]

/-! ## discardQueries -/

@[simp] theorem discardQueries_pending (s : State) : (discardQueries s).pending = s.pending := by
  simp [discardQueries]
@[simp] theorem discardQueries_pins (s : State) : (discardQueries s).pins = s.pins := by
  simp [discardQueries]
@[simp] theorem discardQueries_sampleCount (s : State) : (discardQueries s).sampleCount = s.sampleCount := by
  simp [discardQueries]
@[simp] theorem discardQueries_input (s : State) : (discardQueries s).input = s.input := by
  simp [discardQueries]
@[simp] theorem discardQueries_lineage (s : State) : (discardQueries s).lineage = s.lineage := by
  simp [discardQueries]
@[simp] theorem discardQueries_formatter (s : State) : (discardQueries s).formatter = s.formatter := by
  simp [discardQueries]
@[simp] theorem discardQueries_gathered (s : State) : (discardQueries s).gathered = s.gathered := by
  simp [discardQueries]
@[simp] theorem discardQueries_decoder (s : State) : (discardQueries s).decoder = s.decoder := by
  simp [discardQueries]
@[simp] theorem discardQueries_conceal (s : State) : (discardQueries s).conceal = s.conceal := by
  simp [discardQueries]
@[simp] theorem discardQueries_ring (s : State) : (discardQueries s).ring = s.ring := by
  simp [discardQueries]
@[simp] theorem discardQueries_position (s : State) : (discardQueries s).position = s.position := by
  simp [discardQueries]
@[simp] theorem discardQueries_engine (s : State) : (discardQueries s).engine = s.engine := by
  simp [discardQueries]
@[simp] theorem discardQueries_output (s : State) : (discardQueries s).output = s.output := by
  simp [discardQueries]

/-! ## queryTick -/

/-- The tick finds the limit in force, and touches nothing else. -/
@[simp] theorem findLimit_eq (s : State) :
    findLimit s = s.setQuery { s.query with tickLimit := s.query.limit } := rfl


@[simp] theorem queryTick_pending (s : State) : (queryTick s).pending = s.pending := by
  simp [queryTick]
@[simp] theorem queryTick_pins (s : State) : (queryTick s).pins = s.pins := by
  simp [queryTick]
@[simp] theorem queryTick_sampleCount (s : State) : (queryTick s).sampleCount = s.sampleCount := by
  simp [queryTick]
@[simp] theorem queryTick_input (s : State) : (queryTick s).input = s.input := by
  simp [queryTick]
@[simp] theorem queryTick_lineage (s : State) : (queryTick s).lineage = s.lineage := by
  simp [queryTick]
@[simp] theorem queryTick_formatter (s : State) : (queryTick s).formatter = s.formatter := by
  simp [queryTick]
@[simp] theorem queryTick_gathered (s : State) : (queryTick s).gathered = s.gathered := by
  simp [queryTick]
@[simp] theorem queryTick_decoder (s : State) : (queryTick s).decoder = s.decoder := by
  simp [queryTick]
@[simp] theorem queryTick_conceal (s : State) : (queryTick s).conceal = s.conceal := by
  simp [queryTick]
@[simp] theorem queryTick_ring (s : State) : (queryTick s).ring = s.ring := by
  simp [queryTick]
@[simp] theorem queryTick_position (s : State) : (queryTick s).position = s.position := by
  simp [queryTick]
@[simp] theorem queryTick_engine (s : State) : (queryTick s).engine = s.engine := by
  simp [queryTick]
@[simp] theorem queryTick_output (s : State) : (queryTick s).output = s.output := by
  simp [queryTick]

/-! ## releaseQueries -/

@[simp] theorem releaseQueries_pending (id : Nat) (s : State) : (releaseQueries id s).pending = s.pending := by
  simp [releaseQueries]
@[simp] theorem releaseQueries_pins (id : Nat) (s : State) : (releaseQueries id s).pins = s.pins := by
  simp [releaseQueries]
@[simp] theorem releaseQueries_sampleCount (id : Nat) (s : State) : (releaseQueries id s).sampleCount = s.sampleCount := by
  simp [releaseQueries]
@[simp] theorem releaseQueries_input (id : Nat) (s : State) : (releaseQueries id s).input = s.input := by
  simp [releaseQueries]
@[simp] theorem releaseQueries_lineage (id : Nat) (s : State) : (releaseQueries id s).lineage = s.lineage := by
  simp [releaseQueries]
@[simp] theorem releaseQueries_formatter (id : Nat) (s : State) : (releaseQueries id s).formatter = s.formatter := by
  simp [releaseQueries]
@[simp] theorem releaseQueries_gathered (id : Nat) (s : State) : (releaseQueries id s).gathered = s.gathered := by
  simp [releaseQueries]
@[simp] theorem releaseQueries_decoder (id : Nat) (s : State) : (releaseQueries id s).decoder = s.decoder := by
  simp [releaseQueries]
@[simp] theorem releaseQueries_conceal (id : Nat) (s : State) : (releaseQueries id s).conceal = s.conceal := by
  simp [releaseQueries]
@[simp] theorem releaseQueries_ring (id : Nat) (s : State) : (releaseQueries id s).ring = s.ring := by
  simp [releaseQueries]
@[simp] theorem releaseQueries_position (id : Nat) (s : State) : (releaseQueries id s).position = s.position := by
  simp [releaseQueries]
@[simp] theorem releaseQueries_engine (id : Nat) (s : State) : (releaseQueries id s).engine = s.engine := by
  simp [releaseQueries]
@[simp] theorem releaseQueries_output (id : Nat) (s : State) : (releaseQueries id s).output = s.output := by
  simp [releaseQueries]
@[simp] theorem releaseQueries_notice (id : Nat) (s : State) : (releaseQueries id s).notice = s.notice := by
  simp [releaseQueries]
@[simp] theorem releaseQueries_link (id : Nat) (s : State) : (releaseQueries id s).link = s.link := by
  simp [releaseQueries]

/-! ## removeCue -/

@[simp] theorem removeCue_pending (id : Nat) (s : State) : (removeCue id s).pending = s.pending := by
  simp [removeCue]
@[simp] theorem removeCue_pins (id : Nat) (s : State) : (removeCue id s).pins = s.pins := by
  simp [removeCue]
@[simp] theorem removeCue_sampleCount (id : Nat) (s : State) : (removeCue id s).sampleCount = s.sampleCount := by
  simp [removeCue]
@[simp] theorem removeCue_input (id : Nat) (s : State) : (removeCue id s).input = s.input := by
  simp [removeCue]
@[simp] theorem removeCue_lineage (id : Nat) (s : State) : (removeCue id s).lineage = s.lineage := by
  simp [removeCue]
@[simp] theorem removeCue_formatter (id : Nat) (s : State) : (removeCue id s).formatter = s.formatter := by
  simp [removeCue]
@[simp] theorem removeCue_gathered (id : Nat) (s : State) : (removeCue id s).gathered = s.gathered := by
  simp [removeCue]
@[simp] theorem removeCue_decoder (id : Nat) (s : State) : (removeCue id s).decoder = s.decoder := by
  simp [removeCue]
@[simp] theorem removeCue_conceal (id : Nat) (s : State) : (removeCue id s).conceal = s.conceal := by
  simp [removeCue]
@[simp] theorem removeCue_ring (id : Nat) (s : State) : (removeCue id s).ring = s.ring := by
  simp [removeCue]
@[simp] theorem removeCue_position (id : Nat) (s : State) : (removeCue id s).position = s.position := by
  simp [removeCue]
@[simp] theorem removeCue_output (id : Nat) (s : State) : (removeCue id s).output = s.output := by
  simp [removeCue]
@[simp] theorem removeCue_notice (id : Nat) (s : State) : (removeCue id s).notice = s.notice := by
  simp [removeCue]
@[simp] theorem removeCue_link (id : Nat) (s : State) : (removeCue id s).link = s.link := by
  simp [removeCue]

/-! ## setLine -/

@[simp] theorem setLine_pending (i : Fin 4) (l : GpiLine) (s : State) : (setLine i l s).pending = s.pending := by
  simp [setLine]
@[simp] theorem setLine_pins (i : Fin 4) (l : GpiLine) (s : State) : (setLine i l s).pins = s.pins := by
  simp [setLine]
@[simp] theorem setLine_sampleCount (i : Fin 4) (l : GpiLine) (s : State) : (setLine i l s).sampleCount = s.sampleCount := by
  simp [setLine]
@[simp] theorem setLine_input (i : Fin 4) (l : GpiLine) (s : State) : (setLine i l s).input = s.input := by
  simp [setLine]
@[simp] theorem setLine_lineage (i : Fin 4) (l : GpiLine) (s : State) : (setLine i l s).lineage = s.lineage := by
  simp [setLine]
@[simp] theorem setLine_formatter (i : Fin 4) (l : GpiLine) (s : State) : (setLine i l s).formatter = s.formatter := by
  simp [setLine]
@[simp] theorem setLine_gathered (i : Fin 4) (l : GpiLine) (s : State) : (setLine i l s).gathered = s.gathered := by
  simp [setLine]
@[simp] theorem setLine_decoder (i : Fin 4) (l : GpiLine) (s : State) : (setLine i l s).decoder = s.decoder := by
  simp [setLine]
@[simp] theorem setLine_conceal (i : Fin 4) (l : GpiLine) (s : State) : (setLine i l s).conceal = s.conceal := by
  simp [setLine]
@[simp] theorem setLine_ring (i : Fin 4) (l : GpiLine) (s : State) : (setLine i l s).ring = s.ring := by
  simp [setLine]
@[simp] theorem setLine_engine (i : Fin 4) (l : GpiLine) (s : State) : (setLine i l s).engine = s.engine := by
  simp [setLine]
@[simp] theorem setLine_query (i : Fin 4) (l : GpiLine) (s : State) : (setLine i l s).query = s.query := by
  simp [setLine]
@[simp] theorem setLine_output (i : Fin 4) (l : GpiLine) (s : State) : (setLine i l s).output = s.output := by
  simp [setLine]
@[simp] theorem setLine_notice (i : Fin 4) (l : GpiLine) (s : State) : (setLine i l s).notice = s.notice := by
  simp [setLine]
@[simp] theorem setLine_link (i : Fin 4) (l : GpiLine) (s : State) : (setLine i l s).link = s.link := by
  simp [setLine]

/-! ## gpiRequest -/

@[simp] theorem gpiRequest_pending (i : Fin 4) (s : State) : (gpiRequest i s).pending = s.pending := by
  simp [gpiRequest]
@[simp] theorem gpiRequest_pins (i : Fin 4) (s : State) : (gpiRequest i s).pins = s.pins := by
  simp [gpiRequest]
@[simp] theorem gpiRequest_sampleCount (i : Fin 4) (s : State) : (gpiRequest i s).sampleCount = s.sampleCount := by
  simp [gpiRequest]
@[simp] theorem gpiRequest_input (i : Fin 4) (s : State) : (gpiRequest i s).input = s.input := by
  simp [gpiRequest]
@[simp] theorem gpiRequest_lineage (i : Fin 4) (s : State) : (gpiRequest i s).lineage = s.lineage := by
  simp [gpiRequest]
@[simp] theorem gpiRequest_formatter (i : Fin 4) (s : State) : (gpiRequest i s).formatter = s.formatter := by
  simp [gpiRequest]
@[simp] theorem gpiRequest_gathered (i : Fin 4) (s : State) : (gpiRequest i s).gathered = s.gathered := by
  simp [gpiRequest]
@[simp] theorem gpiRequest_decoder (i : Fin 4) (s : State) : (gpiRequest i s).decoder = s.decoder := by
  simp [gpiRequest]
@[simp] theorem gpiRequest_conceal (i : Fin 4) (s : State) : (gpiRequest i s).conceal = s.conceal := by
  simp [gpiRequest]
@[simp] theorem gpiRequest_ring (i : Fin 4) (s : State) : (gpiRequest i s).ring = s.ring := by
  simp [gpiRequest]
@[simp] theorem gpiRequest_engine (i : Fin 4) (s : State) : (gpiRequest i s).engine = s.engine := by
  simp [gpiRequest]
@[simp] theorem gpiRequest_query (i : Fin 4) (s : State) : (gpiRequest i s).query = s.query := by
  simp [gpiRequest]
@[simp] theorem gpiRequest_output (i : Fin 4) (s : State) : (gpiRequest i s).output = s.output := by
  simp [gpiRequest]

/-! ## fallingEdge -/

@[simp] theorem fallingEdge_pending (i : Fin 4) (s : State) : (fallingEdge i s).pending = s.pending := by
  unfold fallingEdge; dsimp only; (repeat' split) <;> simp
@[simp] theorem fallingEdge_pins (i : Fin 4) (s : State) : (fallingEdge i s).pins = s.pins := by
  unfold fallingEdge; dsimp only; (repeat' split) <;> simp
@[simp] theorem fallingEdge_sampleCount (i : Fin 4) (s : State) : (fallingEdge i s).sampleCount = s.sampleCount := by
  unfold fallingEdge; dsimp only; (repeat' split) <;> simp
@[simp] theorem fallingEdge_input (i : Fin 4) (s : State) : (fallingEdge i s).input = s.input := by
  unfold fallingEdge; dsimp only; (repeat' split) <;> simp
@[simp] theorem fallingEdge_lineage (i : Fin 4) (s : State) : (fallingEdge i s).lineage = s.lineage := by
  unfold fallingEdge; dsimp only; (repeat' split) <;> simp
@[simp] theorem fallingEdge_formatter (i : Fin 4) (s : State) : (fallingEdge i s).formatter = s.formatter := by
  unfold fallingEdge; dsimp only; (repeat' split) <;> simp
@[simp] theorem fallingEdge_gathered (i : Fin 4) (s : State) : (fallingEdge i s).gathered = s.gathered := by
  unfold fallingEdge; dsimp only; (repeat' split) <;> simp
@[simp] theorem fallingEdge_decoder (i : Fin 4) (s : State) : (fallingEdge i s).decoder = s.decoder := by
  unfold fallingEdge; dsimp only; (repeat' split) <;> simp
@[simp] theorem fallingEdge_conceal (i : Fin 4) (s : State) : (fallingEdge i s).conceal = s.conceal := by
  unfold fallingEdge; dsimp only; (repeat' split) <;> simp
@[simp] theorem fallingEdge_ring (i : Fin 4) (s : State) : (fallingEdge i s).ring = s.ring := by
  unfold fallingEdge; dsimp only; (repeat' split) <;> simp
@[simp] theorem fallingEdge_engine (i : Fin 4) (s : State) : (fallingEdge i s).engine = s.engine := by
  unfold fallingEdge; dsimp only; (repeat' split) <;> simp
@[simp] theorem fallingEdge_query (i : Fin 4) (s : State) : (fallingEdge i s).query = s.query := by
  unfold fallingEdge; dsimp only; (repeat' split) <;> simp
@[simp] theorem fallingEdge_output (i : Fin 4) (s : State) : (fallingEdge i s).output = s.output := by
  unfold fallingEdge; dsimp only; (repeat' split) <;> simp

/-! ## levelRequest -/

@[simp] theorem levelRequest_pending (x : BitVec 4) (s : State) (i : Fin 4) : (levelRequest x s i).pending = s.pending := by
  unfold levelRequest; dsimp only; (repeat' split) <;> simp
@[simp] theorem levelRequest_pins (x : BitVec 4) (s : State) (i : Fin 4) : (levelRequest x s i).pins = s.pins := by
  unfold levelRequest; dsimp only; (repeat' split) <;> simp
@[simp] theorem levelRequest_sampleCount (x : BitVec 4) (s : State) (i : Fin 4) : (levelRequest x s i).sampleCount = s.sampleCount := by
  unfold levelRequest; dsimp only; (repeat' split) <;> simp
@[simp] theorem levelRequest_input (x : BitVec 4) (s : State) (i : Fin 4) : (levelRequest x s i).input = s.input := by
  unfold levelRequest; dsimp only; (repeat' split) <;> simp
@[simp] theorem levelRequest_lineage (x : BitVec 4) (s : State) (i : Fin 4) : (levelRequest x s i).lineage = s.lineage := by
  unfold levelRequest; dsimp only; (repeat' split) <;> simp
@[simp] theorem levelRequest_formatter (x : BitVec 4) (s : State) (i : Fin 4) : (levelRequest x s i).formatter = s.formatter := by
  unfold levelRequest; dsimp only; (repeat' split) <;> simp
@[simp] theorem levelRequest_gathered (x : BitVec 4) (s : State) (i : Fin 4) : (levelRequest x s i).gathered = s.gathered := by
  unfold levelRequest; dsimp only; (repeat' split) <;> simp
@[simp] theorem levelRequest_decoder (x : BitVec 4) (s : State) (i : Fin 4) : (levelRequest x s i).decoder = s.decoder := by
  unfold levelRequest; dsimp only; (repeat' split) <;> simp
@[simp] theorem levelRequest_conceal (x : BitVec 4) (s : State) (i : Fin 4) : (levelRequest x s i).conceal = s.conceal := by
  unfold levelRequest; dsimp only; (repeat' split) <;> simp
@[simp] theorem levelRequest_ring (x : BitVec 4) (s : State) (i : Fin 4) : (levelRequest x s i).ring = s.ring := by
  unfold levelRequest; dsimp only; (repeat' split) <;> simp
@[simp] theorem levelRequest_engine (x : BitVec 4) (s : State) (i : Fin 4) : (levelRequest x s i).engine = s.engine := by
  unfold levelRequest; dsimp only; (repeat' split) <;> simp
@[simp] theorem levelRequest_query (x : BitVec 4) (s : State) (i : Fin 4) : (levelRequest x s i).query = s.query := by
  unfold levelRequest; dsimp only; (repeat' split) <;> simp
@[simp] theorem levelRequest_output (x : BitVec 4) (s : State) (i : Fin 4) : (levelRequest x s i).output = s.output := by
  unfold levelRequest; dsimp only; (repeat' split) <;> simp

/-! ## newStart -/

@[simp] theorem newStart_pending (w : FrameNo) (s : State) : (newStart w s).pending = s.pending := by
  simp [newStart]
@[simp] theorem newStart_pins (w : FrameNo) (s : State) : (newStart w s).pins = s.pins := by
  simp [newStart]
@[simp] theorem newStart_sampleCount (w : FrameNo) (s : State) : (newStart w s).sampleCount = s.sampleCount := by
  simp [newStart]
@[simp] theorem newStart_lineage (w : FrameNo) (s : State) : (newStart w s).lineage = s.lineage := by
  simp [newStart]
@[simp] theorem newStart_formatter (w : FrameNo) (s : State) : (newStart w s).formatter = s.formatter := by
  simp [newStart]
@[simp] theorem newStart_gathered (w : FrameNo) (s : State) : (newStart w s).gathered = s.gathered := by
  simp [newStart]
@[simp] theorem newStart_decoder (w : FrameNo) (s : State) : (newStart w s).decoder = s.decoder := by
  simp [newStart]
@[simp] theorem newStart_conceal (w : FrameNo) (s : State) : (newStart w s).conceal = s.conceal := by
  simp [newStart]
@[simp] theorem newStart_ring (w : FrameNo) (s : State) : (newStart w s).ring = s.ring := by
  simp [newStart]
@[simp] theorem newStart_engine (w : FrameNo) (s : State) : (newStart w s).engine = s.engine := by
  simp [newStart]
@[simp] theorem newStart_query (w : FrameNo) (s : State) : (newStart w s).query = s.query := by
  simp [newStart]
@[simp] theorem newStart_output (w : FrameNo) (s : State) : (newStart w s).output = s.output := by
  simp [newStart]

/-! ## lockLoss -/

@[simp] theorem lockLoss_pending (s : State) : (lockLoss s).pending = s.pending := by
  simp [lockLoss]
@[simp] theorem lockLoss_pins (s : State) : (lockLoss s).pins = s.pins := by
  simp [lockLoss]
@[simp] theorem lockLoss_sampleCount (s : State) : (lockLoss s).sampleCount = s.sampleCount := by
  simp [lockLoss]
@[simp] theorem lockLoss_input (s : State) : (lockLoss s).input = s.input := by
  simp [lockLoss]
@[simp] theorem lockLoss_lineage (s : State) : (lockLoss s).lineage = s.lineage := by
  simp [lockLoss]
@[simp] theorem lockLoss_formatter (s : State) : (lockLoss s).formatter = s.formatter := by
  simp [lockLoss]
@[simp] theorem lockLoss_gathered (s : State) : (lockLoss s).gathered = s.gathered := by
  simp [lockLoss]
@[simp] theorem lockLoss_decoder (s : State) : (lockLoss s).decoder = s.decoder := by
  simp [lockLoss]
@[simp] theorem lockLoss_conceal (s : State) : (lockLoss s).conceal = s.conceal := by
  simp [lockLoss]
@[simp] theorem lockLoss_ring (s : State) : (lockLoss s).ring = s.ring := by
  simp [lockLoss]
@[simp] theorem lockLoss_engine (s : State) : (lockLoss s).engine = s.engine := by
  simp [lockLoss]
@[simp] theorem lockLoss_query (s : State) : (lockLoss s).query = s.query := by
  simp [lockLoss]
@[simp] theorem lockLoss_output (s : State) : (lockLoss s).output = s.output := by
  simp [lockLoss]

/-! ## emit -/

@[simp] theorem emit_pending (o : EmissionOrigin) (ps : List Pair) (r : Subcode) (s : State) : (emit o ps r s).pending = s.pending := by
  simp [emit]
@[simp] theorem emit_pins (o : EmissionOrigin) (ps : List Pair) (r : Subcode) (s : State) : (emit o ps r s).pins = s.pins := by
  simp [emit]
@[simp] theorem emit_sampleCount (o : EmissionOrigin) (ps : List Pair) (r : Subcode) (s : State) : (emit o ps r s).sampleCount = s.sampleCount := by
  simp [emit]
@[simp] theorem emit_input (o : EmissionOrigin) (ps : List Pair) (r : Subcode) (s : State) : (emit o ps r s).input = s.input := by
  simp [emit]
@[simp] theorem emit_lineage (o : EmissionOrigin) (ps : List Pair) (r : Subcode) (s : State) : (emit o ps r s).lineage = s.lineage := by
  simp [emit]
@[simp] theorem emit_gathered (o : EmissionOrigin) (ps : List Pair) (r : Subcode) (s : State) : (emit o ps r s).gathered = s.gathered := by
  simp [emit]
@[simp] theorem emit_decoder (o : EmissionOrigin) (ps : List Pair) (r : Subcode) (s : State) : (emit o ps r s).decoder = s.decoder := by
  simp [emit]
@[simp] theorem emit_conceal (o : EmissionOrigin) (ps : List Pair) (r : Subcode) (s : State) : (emit o ps r s).conceal = s.conceal := by
  simp [emit]
@[simp] theorem emit_ring (o : EmissionOrigin) (ps : List Pair) (r : Subcode) (s : State) : (emit o ps r s).ring = s.ring := by
  simp [emit]
@[simp] theorem emit_position (o : EmissionOrigin) (ps : List Pair) (r : Subcode) (s : State) : (emit o ps r s).position = s.position := by
  simp [emit]
@[simp] theorem emit_engine (o : EmissionOrigin) (ps : List Pair) (r : Subcode) (s : State) : (emit o ps r s).engine = s.engine := by
  simp [emit]
@[simp] theorem emit_query (o : EmissionOrigin) (ps : List Pair) (r : Subcode) (s : State) : (emit o ps r s).query = s.query := by
  simp [emit]
@[simp] theorem emit_output (o : EmissionOrigin) (ps : List Pair) (r : Subcode) (s : State) : (emit o ps r s).output = s.output := by
  simp [emit]
@[simp] theorem emit_notice (o : EmissionOrigin) (ps : List Pair) (r : Subcode) (s : State) : (emit o ps r s).notice = s.notice := by
  simp [emit]
@[simp] theorem emit_link (o : EmissionOrigin) (ps : List Pair) (r : Subcode) (s : State) : (emit o ps r s).link = s.link := by
  simp [emit]

/-! ## endRecording -/

@[simp] theorem endRecording_pending (r : EndReason) (s : State) : (endRecording r s).pending = s.pending := by
  simp [endRecording]
@[simp] theorem endRecording_pins (r : EndReason) (s : State) : (endRecording r s).pins = s.pins := by
  simp [endRecording]
@[simp] theorem endRecording_sampleCount (r : EndReason) (s : State) : (endRecording r s).sampleCount = s.sampleCount := by
  simp [endRecording]
@[simp] theorem endRecording_input (r : EndReason) (s : State) : (endRecording r s).input = s.input := by
  simp [endRecording]
@[simp] theorem endRecording_lineage (r : EndReason) (s : State) : (endRecording r s).lineage = s.lineage := by
  simp [endRecording]
@[simp] theorem endRecording_gathered (r : EndReason) (s : State) : (endRecording r s).gathered = s.gathered := by
  simp [endRecording]
@[simp] theorem endRecording_decoder (r : EndReason) (s : State) : (endRecording r s).decoder = s.decoder := by
  simp [endRecording]
@[simp] theorem endRecording_conceal (r : EndReason) (s : State) : (endRecording r s).conceal = s.conceal := by
  simp [endRecording]
@[simp] theorem endRecording_ring (r : EndReason) (s : State) : (endRecording r s).ring = s.ring := by
  simp [endRecording]
@[simp] theorem endRecording_position (r : EndReason) (s : State) : (endRecording r s).position = s.position := by
  simp [endRecording]
@[simp] theorem endRecording_engine (r : EndReason) (s : State) : (endRecording r s).engine = s.engine := by
  simp [endRecording]
@[simp] theorem endRecording_query (r : EndReason) (s : State) : (endRecording r s).query = s.query := by
  simp [endRecording]
@[simp] theorem endRecording_output (r : EndReason) (s : State) : (endRecording r s).output = s.output := by
  simp [endRecording]
@[simp] theorem endRecording_notice (r : EndReason) (s : State) : (endRecording r s).notice = s.notice := by
  simp [endRecording]
@[simp] theorem endRecording_link (r : EndReason) (s : State) : (endRecording r s).link = s.link := by
  simp [endRecording]

/-! ## finishStopping -/

@[simp] theorem finishStopping_pending (s : State) : (finishStopping s).pending = s.pending := by
  unfold finishStopping; (repeat' split) <;> simp
@[simp] theorem finishStopping_pins (s : State) : (finishStopping s).pins = s.pins := by
  unfold finishStopping; (repeat' split) <;> simp
@[simp] theorem finishStopping_sampleCount (s : State) : (finishStopping s).sampleCount = s.sampleCount := by
  unfold finishStopping; (repeat' split) <;> simp
@[simp] theorem finishStopping_input (s : State) : (finishStopping s).input = s.input := by
  unfold finishStopping; (repeat' split) <;> simp
@[simp] theorem finishStopping_gathered (s : State) : (finishStopping s).gathered = s.gathered := by
  unfold finishStopping; (repeat' split) <;> simp
@[simp] theorem finishStopping_decoder (s : State) : (finishStopping s).decoder = s.decoder := by
  unfold finishStopping; (repeat' split) <;> simp
@[simp] theorem finishStopping_conceal (s : State) : (finishStopping s).conceal = s.conceal := by
  unfold finishStopping; (repeat' split) <;> simp
@[simp] theorem finishStopping_ring (s : State) : (finishStopping s).ring = s.ring := by
  unfold finishStopping; (repeat' split) <;> simp
@[simp] theorem finishStopping_position (s : State) : (finishStopping s).position = s.position := by
  unfold finishStopping; (repeat' split) <;> simp
@[simp] theorem finishStopping_engine (s : State) : (finishStopping s).engine = s.engine := by
  unfold finishStopping; (repeat' split) <;> simp
@[simp] theorem finishStopping_query (s : State) : (finishStopping s).query = s.query := by
  unfold finishStopping; (repeat' split) <;> simp
@[simp] theorem finishStopping_output (s : State) : (finishStopping s).output = s.output := by
  unfold finishStopping; (repeat' split) <;> simp

/-! ## recordFrame -/

@[simp] theorem recordFrame_pending (s : State) : (recordFrame s).pending = s.pending := by
  unfold recordFrame; dsimp only; (repeat' split) <;> simp
@[simp] theorem recordFrame_pins (s : State) : (recordFrame s).pins = s.pins := by
  unfold recordFrame; dsimp only; (repeat' split) <;> simp
@[simp] theorem recordFrame_sampleCount (s : State) : (recordFrame s).sampleCount = s.sampleCount := by
  unfold recordFrame; dsimp only; (repeat' split) <;> simp
@[simp] theorem recordFrame_input (s : State) : (recordFrame s).input = s.input := by
  unfold recordFrame; dsimp only; (repeat' split) <;> simp
@[simp] theorem recordFrame_gathered (s : State) : (recordFrame s).gathered = s.gathered := by
  unfold recordFrame; dsimp only; (repeat' split) <;> simp
@[simp] theorem recordFrame_decoder (s : State) : (recordFrame s).decoder = s.decoder := by
  unfold recordFrame; dsimp only; (repeat' split) <;> simp
@[simp] theorem recordFrame_conceal (s : State) : (recordFrame s).conceal = s.conceal := by
  unfold recordFrame; dsimp only; (repeat' split) <;> simp
@[simp] theorem recordFrame_ring (s : State) : (recordFrame s).ring = s.ring := by
  unfold recordFrame; dsimp only; (repeat' split) <;> simp
@[simp] theorem recordFrame_position (s : State) : (recordFrame s).position = s.position := by
  unfold recordFrame; dsimp only; (repeat' split) <;> simp
@[simp] theorem recordFrame_engine (s : State) : (recordFrame s).engine = s.engine := by
  unfold recordFrame; dsimp only; (repeat' split) <;> simp
@[simp] theorem recordFrame_query (s : State) : (recordFrame s).query = s.query := by
  unfold recordFrame; dsimp only; (repeat' split) <;> simp
@[simp] theorem recordFrame_output (s : State) : (recordFrame s).output = s.output := by
  unfold recordFrame; dsimp only; (repeat' split) <;> simp

/-! ## formatterTick -/

@[simp] theorem formatterTick_pending (s : State) : (formatterTick s).pending = s.pending := by
  unfold formatterTick; (repeat' split) <;> simp
@[simp] theorem formatterTick_pins (s : State) : (formatterTick s).pins = s.pins := by
  unfold formatterTick; (repeat' split) <;> simp
@[simp] theorem formatterTick_sampleCount (s : State) : (formatterTick s).sampleCount = s.sampleCount := by
  unfold formatterTick; (repeat' split) <;> simp
@[simp] theorem formatterTick_input (s : State) : (formatterTick s).input = s.input := by
  unfold formatterTick; (repeat' split) <;> simp
@[simp] theorem formatterTick_gathered (s : State) : (formatterTick s).gathered = s.gathered := by
  unfold formatterTick; (repeat' split) <;> simp
@[simp] theorem formatterTick_decoder (s : State) : (formatterTick s).decoder = s.decoder := by
  unfold formatterTick; (repeat' split) <;> simp
@[simp] theorem formatterTick_conceal (s : State) : (formatterTick s).conceal = s.conceal := by
  unfold formatterTick; (repeat' split) <;> simp
@[simp] theorem formatterTick_ring (s : State) : (formatterTick s).ring = s.ring := by
  unfold formatterTick; (repeat' split) <;> simp
@[simp] theorem formatterTick_position (s : State) : (formatterTick s).position = s.position := by
  unfold formatterTick; (repeat' split) <;> simp
@[simp] theorem formatterTick_engine (s : State) : (formatterTick s).engine = s.engine := by
  unfold formatterTick; (repeat' split) <;> simp
@[simp] theorem formatterTick_query (s : State) : (formatterTick s).query = s.query := by
  unfold formatterTick; (repeat' split) <;> simp
@[simp] theorem formatterTick_output (s : State) : (formatterTick s).output = s.output := by
  unfold formatterTick; (repeat' split) <;> simp

/-! ## confirm -/

@[simp] theorem confirm_pending (n : FrameNo) (s : State) : (confirm n s).pending = s.pending := by
  simp [confirm]
@[simp] theorem confirm_pins (n : FrameNo) (s : State) : (confirm n s).pins = s.pins := by
  simp [confirm]
@[simp] theorem confirm_sampleCount (n : FrameNo) (s : State) : (confirm n s).sampleCount = s.sampleCount := by
  simp [confirm]
@[simp] theorem confirm_input (n : FrameNo) (s : State) : (confirm n s).input = s.input := by
  simp [confirm]
@[simp] theorem confirm_lineage (n : FrameNo) (s : State) : (confirm n s).lineage = s.lineage := by
  simp [confirm]
@[simp] theorem confirm_gathered (n : FrameNo) (s : State) : (confirm n s).gathered = s.gathered := by
  simp [confirm]
@[simp] theorem confirm_decoder (n : FrameNo) (s : State) : (confirm n s).decoder = s.decoder := by
  simp [confirm]
@[simp] theorem confirm_conceal (n : FrameNo) (s : State) : (confirm n s).conceal = s.conceal := by
  simp [confirm]
@[simp] theorem confirm_ring (n : FrameNo) (s : State) : (confirm n s).ring = s.ring := by
  simp [confirm]
@[simp] theorem confirm_position (n : FrameNo) (s : State) : (confirm n s).position = s.position := by
  simp [confirm]
@[simp] theorem confirm_engine (n : FrameNo) (s : State) : (confirm n s).engine = s.engine := by
  simp [confirm]
@[simp] theorem confirm_query (n : FrameNo) (s : State) : (confirm n s).query = s.query := by
  simp [confirm]
@[simp] theorem confirm_output (n : FrameNo) (s : State) : (confirm n s).output = s.output := by
  simp [confirm]
@[simp] theorem confirm_notice (n : FrameNo) (s : State) : (confirm n s).notice = s.notice := by
  simp [confirm]
@[simp] theorem confirm_link (n : FrameNo) (s : State) : (confirm n s).link = s.link := by
  simp [confirm]

/-! ## recordingTransport -/

@[simp] theorem recordingTransport_pending (s : State) : (recordingTransport s).pending = s.pending := by
  unfold recordingTransport cutShort; (repeat' split) <;> simp
@[simp] theorem recordingTransport_pins (s : State) : (recordingTransport s).pins = s.pins := by
  unfold recordingTransport cutShort; (repeat' split) <;> simp
@[simp] theorem recordingTransport_sampleCount (s : State) : (recordingTransport s).sampleCount = s.sampleCount := by
  unfold recordingTransport cutShort; (repeat' split) <;> simp
@[simp] theorem recordingTransport_input (s : State) : (recordingTransport s).input = s.input := by
  unfold recordingTransport cutShort; (repeat' split) <;> simp
@[simp] theorem recordingTransport_gathered (s : State) : (recordingTransport s).gathered = s.gathered := by
  unfold recordingTransport cutShort; (repeat' split) <;> simp
@[simp] theorem recordingTransport_decoder (s : State) : (recordingTransport s).decoder = s.decoder := by
  unfold recordingTransport cutShort; (repeat' split) <;> simp
@[simp] theorem recordingTransport_conceal (s : State) : (recordingTransport s).conceal = s.conceal := by
  unfold recordingTransport cutShort; (repeat' split) <;> simp
@[simp] theorem recordingTransport_ring (s : State) : (recordingTransport s).ring = s.ring := by
  unfold recordingTransport cutShort; (repeat' split) <;> simp
@[simp] theorem recordingTransport_position (s : State) : (recordingTransport s).position = s.position := by
  unfold recordingTransport cutShort; (repeat' split) <;> simp
@[simp] theorem recordingTransport_engine (s : State) : (recordingTransport s).engine = s.engine := by
  unfold recordingTransport cutShort; (repeat' split) <;> simp
@[simp] theorem recordingTransport_query (s : State) : (recordingTransport s).query = s.query := by
  unfold recordingTransport cutShort; (repeat' split) <;> simp
@[simp] theorem recordingTransport_output (s : State) : (recordingTransport s).output = s.output := by
  unfold recordingTransport cutShort; (repeat' split) <;> simp

/-! ## takeBoundary -/

@[simp] theorem takeBoundary_pending (s : State) : (takeBoundary s).pending = s.pending := by
  simp [takeBoundary]
@[simp] theorem takeBoundary_pins (s : State) : (takeBoundary s).pins = s.pins := by
  simp [takeBoundary]
@[simp] theorem takeBoundary_sampleCount (s : State) : (takeBoundary s).sampleCount = s.sampleCount := by
  simp [takeBoundary]
@[simp] theorem takeBoundary_input (s : State) : (takeBoundary s).input = s.input := by
  simp [takeBoundary]
@[simp] theorem takeBoundary_lineage (s : State) : (takeBoundary s).lineage = s.lineage := by
  simp [takeBoundary]
@[simp] theorem takeBoundary_formatter (s : State) : (takeBoundary s).formatter = s.formatter := by
  simp [takeBoundary]
@[simp] theorem takeBoundary_gathered (s : State) : (takeBoundary s).gathered = s.gathered := by
  simp [takeBoundary]
@[simp] theorem takeBoundary_decoder (s : State) : (takeBoundary s).decoder = s.decoder := by
  simp [takeBoundary]
@[simp] theorem takeBoundary_conceal (s : State) : (takeBoundary s).conceal = s.conceal := by
  simp [takeBoundary]
@[simp] theorem takeBoundary_ring (s : State) : (takeBoundary s).ring = s.ring := by
  simp [takeBoundary]
@[simp] theorem takeBoundary_position (s : State) : (takeBoundary s).position = s.position := by
  simp [takeBoundary]
@[simp] theorem takeBoundary_engine (s : State) : (takeBoundary s).engine = s.engine := by
  simp [takeBoundary]
@[simp] theorem takeBoundary_query (s : State) : (takeBoundary s).query = s.query := by
  simp [takeBoundary]
@[simp] theorem takeBoundary_notice (s : State) : (takeBoundary s).notice = s.notice := by
  simp [takeBoundary]
@[simp] theorem takeBoundary_link (s : State) : (takeBoundary s).link = s.link := by
  simp [takeBoundary]

/-! ## boundaryIfDue -/

@[simp] theorem boundaryIfDue_pending (s : State) : (boundaryIfDue s).pending = s.pending := by
  unfold boundaryIfDue; (repeat' split) <;> simp
@[simp] theorem boundaryIfDue_pins (s : State) : (boundaryIfDue s).pins = s.pins := by
  unfold boundaryIfDue; (repeat' split) <;> simp
@[simp] theorem boundaryIfDue_sampleCount (s : State) : (boundaryIfDue s).sampleCount = s.sampleCount := by
  unfold boundaryIfDue; (repeat' split) <;> simp
@[simp] theorem boundaryIfDue_input (s : State) : (boundaryIfDue s).input = s.input := by
  unfold boundaryIfDue; (repeat' split) <;> simp
@[simp] theorem boundaryIfDue_lineage (s : State) : (boundaryIfDue s).lineage = s.lineage := by
  unfold boundaryIfDue; (repeat' split) <;> simp
@[simp] theorem boundaryIfDue_formatter (s : State) : (boundaryIfDue s).formatter = s.formatter := by
  unfold boundaryIfDue; (repeat' split) <;> simp
@[simp] theorem boundaryIfDue_gathered (s : State) : (boundaryIfDue s).gathered = s.gathered := by
  unfold boundaryIfDue; (repeat' split) <;> simp
@[simp] theorem boundaryIfDue_decoder (s : State) : (boundaryIfDue s).decoder = s.decoder := by
  unfold boundaryIfDue; (repeat' split) <;> simp
@[simp] theorem boundaryIfDue_conceal (s : State) : (boundaryIfDue s).conceal = s.conceal := by
  unfold boundaryIfDue; (repeat' split) <;> simp
@[simp] theorem boundaryIfDue_ring (s : State) : (boundaryIfDue s).ring = s.ring := by
  unfold boundaryIfDue; (repeat' split) <;> simp
@[simp] theorem boundaryIfDue_position (s : State) : (boundaryIfDue s).position = s.position := by
  unfold boundaryIfDue; (repeat' split) <;> simp
@[simp] theorem boundaryIfDue_engine (s : State) : (boundaryIfDue s).engine = s.engine := by
  unfold boundaryIfDue; (repeat' split) <;> simp
@[simp] theorem boundaryIfDue_query (s : State) : (boundaryIfDue s).query = s.query := by
  unfold boundaryIfDue; (repeat' split) <;> simp
@[simp] theorem boundaryIfDue_notice (s : State) : (boundaryIfDue s).notice = s.notice := by
  unfold boundaryIfDue; (repeat' split) <;> simp
@[simp] theorem boundaryIfDue_link (s : State) : (boundaryIfDue s).link = s.link := by
  unfold boundaryIfDue; (repeat' split) <;> simp

/-! ## logRecord -/

@[simp] theorem logRecord_pending (r : SpliceRecord) (s : State) : (logRecord r s).pending = s.pending := by
  simp [logRecord]
@[simp] theorem logRecord_pins (r : SpliceRecord) (s : State) : (logRecord r s).pins = s.pins := by
  simp [logRecord]
@[simp] theorem logRecord_sampleCount (r : SpliceRecord) (s : State) : (logRecord r s).sampleCount = s.sampleCount := by
  simp [logRecord]
@[simp] theorem logRecord_input (r : SpliceRecord) (s : State) : (logRecord r s).input = s.input := by
  simp [logRecord]
@[simp] theorem logRecord_lineage (r : SpliceRecord) (s : State) : (logRecord r s).lineage = s.lineage := by
  simp [logRecord]
@[simp] theorem logRecord_formatter (r : SpliceRecord) (s : State) : (logRecord r s).formatter = s.formatter := by
  simp [logRecord]
@[simp] theorem logRecord_gathered (r : SpliceRecord) (s : State) : (logRecord r s).gathered = s.gathered := by
  simp [logRecord]
@[simp] theorem logRecord_decoder (r : SpliceRecord) (s : State) : (logRecord r s).decoder = s.decoder := by
  simp [logRecord]
@[simp] theorem logRecord_conceal (r : SpliceRecord) (s : State) : (logRecord r s).conceal = s.conceal := by
  simp [logRecord]
@[simp] theorem logRecord_ring (r : SpliceRecord) (s : State) : (logRecord r s).ring = s.ring := by
  simp [logRecord]
@[simp] theorem logRecord_position (r : SpliceRecord) (s : State) : (logRecord r s).position = s.position := by
  simp [logRecord]
@[simp] theorem logRecord_query (r : SpliceRecord) (s : State) : (logRecord r s).query = s.query := by
  simp [logRecord]
@[simp] theorem logRecord_output (r : SpliceRecord) (s : State) : (logRecord r s).output = s.output := by
  simp [logRecord]
@[simp] theorem logRecord_notice (r : SpliceRecord) (s : State) : (logRecord r s).notice = s.notice := by
  simp [logRecord]
@[simp] theorem logRecord_link (r : SpliceRecord) (s : State) : (logRecord r s).link = s.link := by
  simp [logRecord]

/-! ## changeCue -/

@[simp] theorem changeCue_pending (id : Nat) (f : CueEntry → CueEntry) (s : State) : (changeCue id f s).pending = s.pending := by
  simp [changeCue]
@[simp] theorem changeCue_pins (id : Nat) (f : CueEntry → CueEntry) (s : State) : (changeCue id f s).pins = s.pins := by
  simp [changeCue]
@[simp] theorem changeCue_sampleCount (id : Nat) (f : CueEntry → CueEntry) (s : State) : (changeCue id f s).sampleCount = s.sampleCount := by
  simp [changeCue]
@[simp] theorem changeCue_input (id : Nat) (f : CueEntry → CueEntry) (s : State) : (changeCue id f s).input = s.input := by
  simp [changeCue]
@[simp] theorem changeCue_lineage (id : Nat) (f : CueEntry → CueEntry) (s : State) : (changeCue id f s).lineage = s.lineage := by
  simp [changeCue]
@[simp] theorem changeCue_formatter (id : Nat) (f : CueEntry → CueEntry) (s : State) : (changeCue id f s).formatter = s.formatter := by
  simp [changeCue]
@[simp] theorem changeCue_gathered (id : Nat) (f : CueEntry → CueEntry) (s : State) : (changeCue id f s).gathered = s.gathered := by
  simp [changeCue]
@[simp] theorem changeCue_decoder (id : Nat) (f : CueEntry → CueEntry) (s : State) : (changeCue id f s).decoder = s.decoder := by
  simp [changeCue]
@[simp] theorem changeCue_conceal (id : Nat) (f : CueEntry → CueEntry) (s : State) : (changeCue id f s).conceal = s.conceal := by
  simp [changeCue]
@[simp] theorem changeCue_ring (id : Nat) (f : CueEntry → CueEntry) (s : State) : (changeCue id f s).ring = s.ring := by
  simp [changeCue]
@[simp] theorem changeCue_position (id : Nat) (f : CueEntry → CueEntry) (s : State) : (changeCue id f s).position = s.position := by
  simp [changeCue]
@[simp] theorem changeCue_query (id : Nat) (f : CueEntry → CueEntry) (s : State) : (changeCue id f s).query = s.query := by
  simp [changeCue]
@[simp] theorem changeCue_output (id : Nat) (f : CueEntry → CueEntry) (s : State) : (changeCue id f s).output = s.output := by
  simp [changeCue]
@[simp] theorem changeCue_notice (id : Nat) (f : CueEntry → CueEntry) (s : State) : (changeCue id f s).notice = s.notice := by
  simp [changeCue]
@[simp] theorem changeCue_link (id : Nat) (f : CueEntry → CueEntry) (s : State) : (changeCue id f s).link = s.link := by
  simp [changeCue]

/-! ## leaveList -/

@[simp] theorem leaveList_pending (id : Nat) (s : State) : (leaveList id s).pending = s.pending := by
  unfold leaveList; (repeat' split) <;> simp
@[simp] theorem leaveList_pins (id : Nat) (s : State) : (leaveList id s).pins = s.pins := by
  unfold leaveList; (repeat' split) <;> simp
@[simp] theorem leaveList_sampleCount (id : Nat) (s : State) : (leaveList id s).sampleCount = s.sampleCount := by
  unfold leaveList; (repeat' split) <;> simp
@[simp] theorem leaveList_input (id : Nat) (s : State) : (leaveList id s).input = s.input := by
  unfold leaveList; (repeat' split) <;> simp
@[simp] theorem leaveList_lineage (id : Nat) (s : State) : (leaveList id s).lineage = s.lineage := by
  unfold leaveList; (repeat' split) <;> simp
@[simp] theorem leaveList_formatter (id : Nat) (s : State) : (leaveList id s).formatter = s.formatter := by
  unfold leaveList; (repeat' split) <;> simp
@[simp] theorem leaveList_gathered (id : Nat) (s : State) : (leaveList id s).gathered = s.gathered := by
  unfold leaveList; (repeat' split) <;> simp
@[simp] theorem leaveList_decoder (id : Nat) (s : State) : (leaveList id s).decoder = s.decoder := by
  unfold leaveList; (repeat' split) <;> simp
@[simp] theorem leaveList_conceal (id : Nat) (s : State) : (leaveList id s).conceal = s.conceal := by
  unfold leaveList; (repeat' split) <;> simp
@[simp] theorem leaveList_ring (id : Nat) (s : State) : (leaveList id s).ring = s.ring := by
  unfold leaveList; (repeat' split) <;> simp
@[simp] theorem leaveList_position (id : Nat) (s : State) : (leaveList id s).position = s.position := by
  unfold leaveList; (repeat' split) <;> simp
@[simp] theorem leaveList_output (id : Nat) (s : State) : (leaveList id s).output = s.output := by
  unfold leaveList; (repeat' split) <;> simp
@[simp] theorem leaveList_notice (id : Nat) (s : State) : (leaveList id s).notice = s.notice := by
  unfold leaveList; (repeat' split) <;> simp
@[simp] theorem leaveList_link (id : Nat) (s : State) : (leaveList id s).link = s.link := by
  unfold leaveList; (repeat' split) <;> simp

/-! ## reportEnd -/

@[simp] theorem reportEnd_pending (s : State) : (reportEnd s).pending = s.pending := by
  unfold reportEnd; (repeat' split) <;> simp
@[simp] theorem reportEnd_pins (s : State) : (reportEnd s).pins = s.pins := by
  unfold reportEnd; (repeat' split) <;> simp
@[simp] theorem reportEnd_sampleCount (s : State) : (reportEnd s).sampleCount = s.sampleCount := by
  unfold reportEnd; (repeat' split) <;> simp
@[simp] theorem reportEnd_input (s : State) : (reportEnd s).input = s.input := by
  unfold reportEnd; (repeat' split) <;> simp
@[simp] theorem reportEnd_formatter (s : State) : (reportEnd s).formatter = s.formatter := by
  unfold reportEnd; (repeat' split) <;> simp
@[simp] theorem reportEnd_gathered (s : State) : (reportEnd s).gathered = s.gathered := by
  unfold reportEnd; (repeat' split) <;> simp
@[simp] theorem reportEnd_decoder (s : State) : (reportEnd s).decoder = s.decoder := by
  unfold reportEnd; (repeat' split) <;> simp
@[simp] theorem reportEnd_conceal (s : State) : (reportEnd s).conceal = s.conceal := by
  unfold reportEnd; (repeat' split) <;> simp
@[simp] theorem reportEnd_ring (s : State) : (reportEnd s).ring = s.ring := by
  unfold reportEnd; (repeat' split) <;> simp
@[simp] theorem reportEnd_position (s : State) : (reportEnd s).position = s.position := by
  unfold reportEnd; (repeat' split) <;> simp
@[simp] theorem reportEnd_engine (s : State) : (reportEnd s).engine = s.engine := by
  unfold reportEnd; (repeat' split) <;> simp
@[simp] theorem reportEnd_query (s : State) : (reportEnd s).query = s.query := by
  unfold reportEnd; (repeat' split) <;> simp
@[simp] theorem reportEnd_output (s : State) : (reportEnd s).output = s.output := by
  unfold reportEnd; (repeat' split) <;> simp

/-! ## endEntry -/

@[simp] theorem endEntry_pending (r : SpliceRecord) (s : State) : (endEntry r s).pending = s.pending := by
  simp [endEntry, advanceCursor]
@[simp] theorem endEntry_pins (r : SpliceRecord) (s : State) : (endEntry r s).pins = s.pins := by
  simp [endEntry, advanceCursor]
@[simp] theorem endEntry_sampleCount (r : SpliceRecord) (s : State) : (endEntry r s).sampleCount = s.sampleCount := by
  simp [endEntry, advanceCursor]
@[simp] theorem endEntry_input (r : SpliceRecord) (s : State) : (endEntry r s).input = s.input := by
  simp [endEntry, advanceCursor]
@[simp] theorem endEntry_formatter (r : SpliceRecord) (s : State) : (endEntry r s).formatter = s.formatter := by
  simp [endEntry, advanceCursor]
@[simp] theorem endEntry_gathered (r : SpliceRecord) (s : State) : (endEntry r s).gathered = s.gathered := by
  simp [endEntry, advanceCursor]
@[simp] theorem endEntry_decoder (r : SpliceRecord) (s : State) : (endEntry r s).decoder = s.decoder := by
  simp [endEntry, advanceCursor]
@[simp] theorem endEntry_conceal (r : SpliceRecord) (s : State) : (endEntry r s).conceal = s.conceal := by
  simp [endEntry, advanceCursor]
@[simp] theorem endEntry_ring (r : SpliceRecord) (s : State) : (endEntry r s).ring = s.ring := by
  simp [endEntry, advanceCursor]
@[simp] theorem endEntry_position (r : SpliceRecord) (s : State) : (endEntry r s).position = s.position := by
  simp [endEntry, advanceCursor]
@[simp] theorem endEntry_output (r : SpliceRecord) (s : State) : (endEntry r s).output = s.output := by
  simp [endEntry, advanceCursor]

/-! ## endActive -/

@[simp] theorem endActive_pending (o : EntryOutcome) (r : Option Reason) (b : Bool) (s : State) : (endActive o r b s).pending = s.pending := by
  unfold endActive; (repeat' split) <;> simp
@[simp] theorem endActive_pins (o : EntryOutcome) (r : Option Reason) (b : Bool) (s : State) : (endActive o r b s).pins = s.pins := by
  unfold endActive; (repeat' split) <;> simp
@[simp] theorem endActive_sampleCount (o : EntryOutcome) (r : Option Reason) (b : Bool) (s : State) : (endActive o r b s).sampleCount = s.sampleCount := by
  unfold endActive; (repeat' split) <;> simp
@[simp] theorem endActive_input (o : EntryOutcome) (r : Option Reason) (b : Bool) (s : State) : (endActive o r b s).input = s.input := by
  unfold endActive; (repeat' split) <;> simp
@[simp] theorem endActive_formatter (o : EntryOutcome) (r : Option Reason) (b : Bool) (s : State) : (endActive o r b s).formatter = s.formatter := by
  unfold endActive; (repeat' split) <;> simp
@[simp] theorem endActive_gathered (o : EntryOutcome) (r : Option Reason) (b : Bool) (s : State) : (endActive o r b s).gathered = s.gathered := by
  unfold endActive; (repeat' split) <;> simp
@[simp] theorem endActive_decoder (o : EntryOutcome) (r : Option Reason) (b : Bool) (s : State) : (endActive o r b s).decoder = s.decoder := by
  unfold endActive; (repeat' split) <;> simp
@[simp] theorem endActive_conceal (o : EntryOutcome) (r : Option Reason) (b : Bool) (s : State) : (endActive o r b s).conceal = s.conceal := by
  unfold endActive; (repeat' split) <;> simp
@[simp] theorem endActive_ring (o : EntryOutcome) (r : Option Reason) (b : Bool) (s : State) : (endActive o r b s).ring = s.ring := by
  unfold endActive; (repeat' split) <;> simp
@[simp] theorem endActive_position (o : EntryOutcome) (r : Option Reason) (b : Bool) (s : State) : (endActive o r b s).position = s.position := by
  unfold endActive; (repeat' split) <;> simp
@[simp] theorem endActive_output (o : EntryOutcome) (r : Option Reason) (b : Bool) (s : State) : (endActive o r b s).output = s.output := by
  unfold endActive; (repeat' split) <;> simp

/-! ## The fact that callers use -/

/-- The class after a re-derivation is what the state gives. -/
@[simp] theorem rederive_cls (s : State) : (rederive s).lineage.cls = classNow s := by simp [rederive]

/-- A re-derivation whose class differs raises INPUT_STATUS_CHANGE. -/
theorem rederive_raises {s : State} (h : classNow s ≠ s.lineage.cls) :
    hasCause (rederive s).notice.pending .inputStatusChange = true := by
  have : (classNow s != s.lineage.cls) = true := by simpa using h
  simp [rederive, this]

/-- After a permitted or an end report no span is open. -/
@[simp] theorem closeSpan_span (s : State) : (closeSpan s).lineage.span = none := by
  unfold closeSpan
  split <;> simp [*]

/-- The close of an open span raises COPY_RESUMED. -/
theorem closeSpan_raises {s : State} (h : s.lineage.span ≠ none) :
    hasCause (closeSpan s).notice.pending .copyResumed = true := by
  unfold closeSpan
  split
  · contradiction
  · simp

/-- The report of an entry's end leaves no span open in EXECUTE. -/
theorem reportEnd_span {s : State} (h : s.engine.arm.mode = .execute) : (reportEnd s).lineage.span = none := by
  simp [reportEnd, h]

/-- An event on the query table acts entry by entry, and leaves the wait limit. -/
@[simp] theorem updateQueries_query (f : QueryEntry → QueryEntry) (s : State) :
    (updateQueries f s).query = { s.query with entries := s.query.entries.map f } := by simp [updateQueries]

/-- A discard keeps the entries younger than 300. -/
@[simp] theorem discardQueries_query (s : State) :
    (discardQueries s).query = { s.query with entries := s.query.entries.filter (fun e => !e.isStale) } := by
  simp [discardQueries]

/-- A tick acts entry by entry, and keeps the limit it found beside the limit. -/
theorem queryTick_query (s : State) :
    (queryTick s).query = { s.query with
      entries := (s.query.entries.map (QueryEntry.tick s.query.limit)).filter (fun e => !e.isStale)
      tickLimit := s.query.limit } := by
  simp [queryTick]

/-- The expiry by itself acts in PLAY alone, with the limit that the last tick found. -/
theorem expireQueries_query (s : State) :
    (expireQueries s).query = if s.pins.transport = .play then
      { s.query with entries := s.query.entries.map (QueryEntry.expire s.query.tickLimit) } else s.query := by
  unfold expireQueries
  split <;> simp

/-- An entry leaving the list leaves the engine otherwise as it stands. -/
@[simp] theorem removeCue_engine (id : Nat) (s : State) :
    (removeCue id s).engine = { s.engine with cues := s.engine.cues.filter (fun e => e.id != id) } := rfl

/-- An entry leaving the list releases what is HELD behind it. -/
@[simp] theorem removeCue_query (id : Nat) (s : State) :
    (removeCue id s).query = { s.query with entries := s.query.entries.map (QueryEntry.release id) } := rfl

/-- A GPI request changes its own line alone. -/
@[simp] theorem gpiRequest_position (i : Fin 4) (s : State) :
    (gpiRequest i s).position = { s.position with
      gpi := s.position.gpi.set i
        (s.position.gpi[i].join { position := samplePosition s, lock := s.position.lock }) } := by
  simp [gpiRequest, setLine]

/-- The next capture frame is the one in gathering after a tick's work. -/
@[simp] theorem captureTick_gathering (s : State) :
    (captureTick s).input.gathering.isSome = true := by simp [captureTick, openCapture]

/-- A closed capture frame has exactly spf pairs. -/
theorem closePairs_length (g : Gathering) (n : Nat) (closed : List CaptureFrame) :
    (g.closePairs n closed).length = n := by
  unfold Gathering.closePairs silence
  split
  · exact List.length_replicate
  · rw [List.length_append, List.length_take, List.length_replicate]
    omega

end Sys2Proof.Machine
end

