-- ==== Sys2Proof/Laws/Service.lean ====
section
/-! SUPPORT. What a request's service does, said once for every kind, and the state that every command starts
from. -/

namespace Sys2Proof.Machine

/-- With no PART RESET due, a command starts from the state as it stands. -/
@[simp] theorem settled_eq {s : State} (h : s.link.resetDue = false) : settled s = s := by
  simp [settled, h]

/-- A request that comes up for the service of its kind is served. -/
theorem service_serves {s : State} {r : LinkRequest} (h : Serves s r) {k : RequestKind} (hk : r.kind = k)
    (serve : List Byte → State → Served) : service k serve s = serveRequest serve r s := by
  simp [service, h.front, h.running, hk]

/-- A service with no request of its kind at the front does nothing. -/
theorem service_waits {s : State} {k : RequestKind}
    (h : s.link.paused = true ∨ ∀ r, nextRequest s.link = some r → r.kind ≠ k)
    (serve : List Byte → State → Served) : service k serve s = s := by
  unfold service
  split
  · rfl
  · rename_i r hr
    split
    · rename_i hc
      obtain h | h := h
      · simp [h] at hc
      · exact absurd hc.1 (h r hr)
    · rfl

/-- A request that a status turns away leaves its reply and nothing else. -/
theorem serveRequest_turnedAway {serve : List Byte → State → Served} {r : LinkRequest} {s : State} {st : Status}
    (h : serve r.payload s = turnedAway s st) : serveRequest serve r s = replied r [st.code] s := by
  simp [serveRequest, h, turnedAway, replied]

/-- A request served with DONE leaves what its rule gives, and its reply. -/
theorem serveRequest_served {serve : List Byte → State → Served} {r : LinkRequest} {s t : State}
    {content : List Byte} (h : serve r.payload s = served t content) :
    serveRequest serve r s = replied r (0 :: content) t := by
  simp [serveRequest, h, served, replied, Status.code]

/-- A request answered PENDING leaves what its rule gives, and its reply. -/
theorem serveRequest_answered {serve : List Byte → State → Served} {r : LinkRequest} {s t : State}
    {content : List Byte} (h : serve r.payload s = answered t content) :
    serveRequest serve r s = replied r (1 :: content) t := by
  simp [serveRequest, h, answered, replied, Status.code]

end Sys2Proof.Machine
end

