-- ==== Sys2Proof/WellFormed.lean ====
section
/-! DEFINITION. Which commands have operands of the size their rule gives. The machine is total: it gives
every command a meaning, well-formed or not. -/

namespace Sys2Proof

/-- A block arrival carries 126 bytes (R25). -/
def wfBlock (bytes : List Byte) : Bool := bytes.length == Config.blockBytes

/-- A link frame is 6 to 246 bytes long, its first byte LEAD (R15). -/
def wfLine (bytes : List Byte) : Bool :=
  6 ≤ bytes.length && bytes.length ≤ 246 && bytes.head? == some 0x5A

/-- A broken frame shows 2 to 5 bytes, LEAD to ADDRESS or LEAD to LENGTH (R163). -/
def wfBroken (bytes : List Byte) : Bool :=
  (bytes.length == 2 || bytes.length == 5) && bytes.head? == some 0x5A

/-- The well-formed commands. -/
def Instr.wf : Instr → Bool
  | .blockArrival _ bytes => wfBlock bytes
  | .frameReceivedUpstream bytes => wfLine bytes
  | .frameReceivedDownstream bytes => wfLine bytes
  | .brokenFrame _ bytes => wfBroken bytes
  | .powerOnReset | .partReset | .partResetEffect | .sampleClock _ | .outputBoundary
  | .receiverPairStrobe _ | .lockIndicationChange _ | .statusArrival _ | .headFrameEnd _
  | .transportState _ | .frameTick _ | .absenceCountExpiry | .queryWaitExpiry | .queryDiscard
  | .frameWritten | .gpiFallingEdge _ | .linkByteGapTimeout _ | .arbiterChoice
  | .upstreamFrameSent | .downstreamSend | .downstreamFrameSent | .holdInputChange _ _
  | .presentChange _ | .probe | .assign | .linkStatus | .linkSetup | .noticeSetup | .noticeClear
  | .noticeRead | .sourceSelect | .monitorSelect | .inputStatusRead | .recordStart | .recordStop
  | .recordStatus | .lineageSetup | .concealSetup | .qualityRead | .qualityTotals | .prereadSetup
  | .positionRead | .gpiSetup | .markRead | .cueAdd | .cueRemove | .cueRead | .editArm
  | .editDisarm | .editAbort | .spliceLogRead | .editSetup | .lineageStatus | .refusalListRead
  | .tapeQuery | .queryCancel | .querySetup => true

end Sys2Proof
end

