-- ==== Sys2Proof/Tests/Slice0.lean ====
section
/-! SUPPORT. Small tests of the model, their expected values taken from the spec, and for every statement with
hypotheses a concrete state and operands that meet them, clause by clause. -/

open Sys2Proof Sys2Proof.Machine

namespace Sys2Proof.Tests

/-! ## Helpers -/

/-- The state a command leaves; the state itself where it gives none. -/
def after (c : Instr) (s : State) : State :=
  match exec c s with
  | .next t => t
  | .fault _ | .refused _ => s

/-- A request of this kind and payload, not yet served. -/
def request (k : RequestKind) (p : List Byte) : LinkRequest :=
  { kind := k, tag := 9, payload := p, served := false }

/-- The state with one request waiting for service. -/
def fed (s : State) (k : RequestKind) (p : List Byte) : State :=
  s.setLink { s.link with requests := [request k p] }

/-- The payload of the reply that the service of a request forms. -/
def reply (s : State) (k : RequestKind) (p : List Byte) : Option (List Byte) :=
  (after k.row (fed s k p)).link.own.getLast?.map (fun o => o.frame.payload)

/-- A request fed to a state in which service runs comes up for service. -/
theorem fed_serves (s : State) (k : RequestKind) (p : List Byte) (hd : s.link.resetDue = false)
    (hp : s.link.paused = false) : Serves (fed s k p) (request k p) :=
  ⟨hd, hp, rfl⟩

/-- A frame of 1,600 zero pairs. -/
def silence : List Pair := List.replicate 1600 Pair.zero

/-- The capture frame numbered 8, under this ruling. -/
def closedFrame (x : Ruling) : CaptureFrame :=
  { number := 8, source := .digital, pairs := silence, condition := .normal, received := 1600,
    ruling := x }

/-- A cue entry whose span is frames 10 to 12 at 48 kHz. -/
def cue : CueEntry :=
  { id := 1, inPoint := 16010, outPoint := 20000, fade := 100, program := 3, take := 4,
    state := .pending, degraded := 0 }

/-- In PLAY at W = 9, LOCKED for 100 ticks, with a frame in gathering and one closed under this ruling. -/
def playing (x : Ruling) : State :=
  { State.reset with
    pins := { State.reset.pins with transport := .play }
    position := { State.reset.position with w := 9, lock := .locked, age := 100 }
    lineage := { State.reset.lineage with interval := some .once }
    input := { source := .digital, rate := .rate48,
               gathering := some { number := 9, source := .digital, pairs := [], received := 0,
                                   absentSeen := true },
               closed := [closedFrame x] } }

/-- The ring's frame 10. -/
def oldFrame : RingEntry :=
  { number := 10, pairs := silence, flags := List.replicate 1600 (false, false), subcode := none }

/-- Armed on the entry whose start frame is the next W, with that frame in the ring, a query held behind the entry,
and another waiting. -/
def poised (x : Ruling) : State :=
  { playing x with
    ring := [oldFrame]
    engine := { Engine.reset with
                cues := [cue], lastId := some 1, state := .armed,
                arm := { mode := .execute, loop := false }, cursor := .entry 1 }
    query := { entries := [{ kind := .subcode, frame := 11, state := .held 1, passes := 0, wait := 0 },
                           { kind := .quality, frame := 11, state := .waiting, passes := 2, wait := 7 }],
               limit := 8, tickLimit := 8 } }

/-- The entry ACTIVE since frame 10, in this mode, under this ruling, the pending abort set or not. -/
def inserting (m : EngineMode) (x : Ruling) (abort : Bool) : State :=
  let s := poised x
  { s with
    engine := { s.engine with
                cues := [{ cue with state := .active .insert }], state := .active,
                arm := { mode := m, loop := false }, pendingAbort := abort,
                run := { EntryRun.empty with first := some 10, last := some 10, framesWritten := 1 } } }

/-- The entry ACTIVE in EXECUTE, with a REFUSE on the next capture frame. -/
def active : State := inserting .execute .refuse false

/-- The entry ACTIVE at the tick of its last frame, with nothing closed yet in the input buffer. -/
def finishing (m : EngineMode) : State :=
  let s := inserting m (.permit .never) false
  { s with
    position := { s.position with w := 11 }
    input := { s.input with gathering := none, closed := [] } }

/-- DISARMED with the entry in the list, in this mode. -/
def resting (m : EngineMode) : State :=
  { poised .refuse with engine := { Engine.reset with cues := [cue], arm := { mode := m, loop := false } } }

/-- The state with one request waiting at GPI line 0, of this function. -/
def handing (f : GpiFunction) (s : State) : State :=
  { s with
    position := { s.position with
      gpi := s.position.gpi.set 0
        { GpiLine.reset with function := f, queue := [{ position := 5, lock := .locked }] } } }

/-- Recording at W = 9. -/
def recording (x : Ruling) : State :=
  let s := playing x
  { s with formatter := { s.formatter with
                          state := .recording
                          record := { s.formatter.record with mode := some .continuing, program := 5 } } }

/-! ## Well-formedness: each check refuses an ill-formed term -/

theorem test_wf_block : (Instr.blockArrival .advance (List.replicate 126 0)).wf = true ∧
    (Instr.blockArrival .advance (List.replicate 125 0)).wf = false := by decide +kernel

theorem test_wf_upstream : (Instr.frameReceivedUpstream [0x5A, 0, 1, 0, 0, 0x15]).wf = true ∧
    (Instr.frameReceivedUpstream [0x5A, 0, 1, 0, 0]).wf = false ∧
    (Instr.frameReceivedUpstream [0x5B, 0, 1, 0, 0, 0]).wf = false := by decide

theorem test_wf_downstream : (Instr.frameReceivedDownstream [0x5A, 0, 0x81, 0, 0, 0]).wf = true ∧
    (Instr.frameReceivedDownstream []).wf = false := by decide

theorem test_wf_downstream_long :
    (Instr.frameReceivedDownstream (0x5A :: List.replicate 246 0)).wf = false := by decide +kernel

theorem test_wf_broken : (Instr.brokenFrame .up [0x5A, 32]).wf = true ∧
    (Instr.brokenFrame .up [0x5A, 32, 0]).wf = false ∧ (Instr.brokenFrame .up [0, 32]).wf = false := by
  decide

/-! ## Worked values of the spec -/

/-- 1.1, R3: the nine digits give 0x29B1. -/
theorem test_crc16_nine_digits :
    crc16 [0x31, 0x32, 0x33, 0x34, 0x35, 0x36, 0x37, 0x38, 0x39] = 0x29B1 := by decide +kernel

/-- R15: the nine digits give 0xF4. -/
theorem test_crc8_nine_digits :
    crc8 [0x31, 0x32, 0x33, 0x34, 0x35, 0x36, 0x37, 0x38, 0x39] = 0xF4 := by decide +kernel

/-- R15: the PROBE to address 0 with TAG 1 on the wire. -/
theorem test_wire_probe : wireBytes (makeFrame 0 1 1 []) = [0x5A, 0x00, 0x01, 0x01, 0x00, 0x7E] := by
  decide +kernel

/-- 10.9: the ASSIGN of the second step on the wire. -/
theorem test_wire_assign : wireBytes (makeFrame 0 2 2 [1, 1]) =
    [0x5A, 0x00, 0x02, 0x02, 0x02, 0x01, 0x01, 0x2C] := by decide +kernel

/-- R6: the example placements, by the block and the bytes that carry a sample of a frame with one sample set. -/
theorem test_placement_examples :
    (dataPayload .a ((List.replicate 1234 Pair.zero) ++ [⟨0x123456, 0⟩]) 34).drop 90
      = 0x12 :: 0x34 :: 0x56 :: List.replicate 27 0 ∧
    (dataPayload .b ((List.replicate 1599 Pair.zero) ++ [⟨0x123456, 0⟩]) 39).drop 117
      = [0x12, 0x34, 0x56] ∧
    (dataPayload .a ((List.replicate 35 Pair.zero) ++ [⟨0, 0x123456⟩]) 35).take 3
      = [0x12, 0x34, 0x56] := by decide +kernel

/-- 5.7: a short dropout with Hlim 2. -/
theorem test_short_dropout :
    let st := { ChannelState.reset with b := 100 }
    let run := concealRun 2 st none
      [some 100, none, some 120, none, none, none, none, some 80, some 60]
    run.outs = [100, 110, 120, 120, 120, 116, 112, 77, 60] ∧ run.interpolated = 1 ∧ run.held = 4 ∧
    run.lowest = 30 ∧ run.mutes = 0 ∧ run.state.g = 32 ∧
    run.flags = [false, false, false, false, false, true, true, true, false] := by decide +kernel

/-- 5.8: the rounding of negative values. -/
theorem test_negative_values :
    outputAt (-120) 31 = -116 ∧ outputAt (-2) 31 = -1 ∧
    (chooseBase 0 (some (-3)) none (some 0)).1 = -2 ∧ (chooseBase 0 (some (-3)) none (some (-2))).1 = -3 ∧
    (chooseBase 0 (some 8388607) none (some 8388608)).1 = -1 := by decide +kernel

/-- 7.7: the crossfades of old 1000 and new −1001 with F = 800, and 7.8's emergency fade. -/
theorem test_crossfade_table :
    [0, 399, 400, 799].map (fun k => crossfade 1000 (-1001) k 800) = [1000, 2, -1, -998] ∧
    [0, 599, 600, 799].map (fun k => crossfade (-1001) 1000 k 800) = [-1001, 497, 500, 997] ∧
    [0, 1, 8, 15].map (fun k => crossfade 4000 1000 k 16) = [4000, 3813, 2500, 1188] := by
  decide +kernel

/-- 6.5: the third rising number locks, and re-takes W as 1304 − 2. -/
theorem test_lock_after_shuttle :
    let p := { State.reset.position with w := 503, seq := 2, last := some 1303 }
    let q := p.judge 1304 505 2
    q.w = 1302 ∧ q.lock = .locked ∧ q.seq = 3 ∧ q.age = 0 ∧ q.last = some 1304 := by decide +kernel

/-- 6.6: the second disagreement slips. -/
theorem test_slip_at_a_break :
    let p := { State.reset.position with
      w := 2002, lock := .locked, disagree := 1, last := some 2503, age := 42 }
    let q := p.judge 2504 2004 2
    q.w = 2002 ∧ q.lock = .slipped ∧ q.disagree = 0 ∧ q.seq = 1 ∧ q.age = 0 := by decide +kernel

/-- 10.10: choice 3, with S = 2 and a run of 2 on the own side, sends a forwarded frame. -/
theorem test_arbiter_choice_three :
    let f := makeFrame 2 0x81 0 [0]
    let o : OwnFrame := { kind := .service, frame := makeFrame 1 0x81 0 [0] }
    let t := after .arbiterChoice
      (State.reset.setLink { State.reset.link with own := [o], forward := [f, f], runCount := 2 })
    t.link.upSending = some { frame := .forward f, orphan := false } ∧ t.link.lastSide = .forward ∧
    t.link.runCount = 1 ∧ t.link.own = [o] ∧ t.link.forward = [f, f] := by decide +kernel

/-- 11.6: LOCK_CHANGE, QUERY_COMPLETE, INPUT_SLIP (disabled) and EDIT_ABORTED raised in turn. -/
theorem test_levels_and_clears :
    let s := State.reset.setNotice { State.reset.notice with
      enabled := causeBit .lockChange ||| causeBit .editAborted ||| causeBit .queryComplete }
    let t := raise .inputSlip (raise .queryComplete (raise .lockChange s))
    t.notice.lr = 7 ∧ t.link.own.map (fun o => o.frame.payload) = [[7, 7, 0, 0, 0x40]] ∧
    (raise .editAborted t).notice.lr = 13 ∧
    (raise .editAborted t).link.own.map (fun o => o.frame.payload) = [[10, 13, 0, 0x22, 0x40]] := by
  decide +kernel

/-! ## Witnesses: the step, the resets, the invariants -/

/-- StepRunsFrontCommand: a queue with a command at its front, and an empty one. -/
theorem witness_front_command :
    (State.reset.setPending [.frameTick 0, .outputBoundary]).pending = [.frameTick 0, .outputBoundary] ∧
    State.reset.pending = [] := ⟨rfl, rfl⟩

/-- PartResetTakesEffect: a PART RESET due, none due, and a command other than POWER_ON_RESET. -/
theorem witness_part_reset :
    (State.reset.setLink { State.reset.link with resetDue := true }).link.resetDue = true ∧
    State.reset.link.resetDue = false ∧ Instr.frameTick 0 ≠ .powerOnReset := ⟨rfl, rfl, by decide⟩

/-- EveryStepKeepsNoticeInv: a state with a reported cause that steps on. -/
theorem witness_notice_inv :
    let s := raise .markCaptured (State.reset.setNotice { State.reset.notice with enabled := 0x0800 })
    NoticeInv s ∧ s.notice.lr = 3 ∧ ∃ t, step (s.setPending [.outputBoundary]) = .next t := by
  refine ⟨⟨?_, by decide, by decide, by decide, by decide, by decide⟩, by decide, _, rfl⟩
  intro c; cases c <;> decide

/-- EveryStepKeepsLinkInv: one request waiting, one served whose reply waits, one frame in the hold store. -/
theorem witness_link_inv :
    let s := State.reset.setLink { State.reset.link with
      assigned := some { a := 1, last := 30 }
      requests := [{ request .probe [] with served := true }, request .linkSetup [8]]
      own := [{ kind := .service, frame := makeFrame 1 0x81 9 [0] }]
      hold := [.forward (makeFrame 2 1 3 [])] }
    LinkInv s ∧ ∃ t, step (s.setPending [.linkSetup]) = .next t := by
  refine ⟨⟨by decide, by decide, by decide, by decide, by decide, ?_, by decide, by decide, by decide, ?_, ?_⟩,
    _, rfl⟩
  · intro a h; cases h; decide
  · intro f h; cases h
  · intro f h; cases h

/-- EveryStepKeepsGuardInv: a frame in gathering while the input status is ABSENT. -/
theorem witness_guard_inv :
    GuardInv (playing .refuse) ∧ ∃ t, step ((playing .refuse).setPending [.absenceCountExpiry]) = .next t := by
  refine ⟨⟨by decide, by decide, by decide, ?_, ?_, ?_, by decide, by decide, by decide⟩, _, rfl⟩
  · intro m h; cases h; decide
  · intro g h _; cases h; rfl
  · intro g m h _ h'; cases h; cases h'; decide

theorem poised_engineInv (x : Ruling) : EngineInv (poised x) := by
  refine ⟨⟨by show [cue].length ≤ 16; decide, ?_, ?_, ?_, ?_⟩, ?_, ?_, ?_, ?_, ?_, ?_, ?_, ?_⟩
  · exact List.pairwise_singleton _ _
  · exact List.pairwise_singleton _ _
  · exact List.pairwise_singleton _ _
  · intro e he
    rw [List.mem_singleton.mp he]
    exact ⟨by decide, by decide, by decide, by decide, by decide,
      by show cue.outPoint + cue.fade - 1 < 16777216 * 1600; decide, by decide⟩
  · intro h; exact absurd rfl h
  · exact ⟨fun h => (by cases h), fun h => (by cases h)⟩
  · intro id h; cases h; exact ⟨cue, List.mem_singleton.mpr rfl, rfl⟩
  · intro h; cases h
  · intro e he h; rw [List.mem_singleton.mp he] at h; cases h
  · intro h; cases h
  · intro h; cases h
  · exact ⟨by show 2 ≤ 30; decide, by show 30 ≤ 255; decide⟩

theorem inserting_engineInv (m : EngineMode) (x : Ruling) (abort : Bool) : EngineInv (inserting m x abort) := by
  refine ⟨⟨by show 1 ≤ 16; decide, List.pairwise_singleton _ _, List.pairwise_singleton _ _,
    List.pairwise_singleton _ _, ?_⟩, ?_, ⟨fun h => (by cases h), fun h => (by cases h)⟩, ?_, ?_, ?_, ?_, ?_,
    ⟨by show 2 ≤ 30; decide, by show 30 ≤ 255; decide⟩⟩
  · intro e he
    rw [List.mem_singleton.mp he]
    exact ⟨by decide, by decide, by decide, by decide, by decide,
      by show cue.outPoint + cue.fade - 1 < 16777216 * 1600; decide, by decide⟩
  · intro h; exact absurd rfl h
  · intro id h; cases h; exact ⟨_, List.mem_singleton.mpr rfl, rfl⟩
  · intro _; exact ⟨_, List.mem_singleton.mpr rfl, rfl, rfl⟩
  · intro e he _; rw [List.mem_singleton.mp he]; exact ⟨rfl, rfl⟩
  · intro h; cases h
  · intro h; cases h

/-- The engine's invariant is about the engine, the formatter's state and the session rate alone. -/
theorem engineInv_same {s t : State} (h : EngineInv s) (he : t.engine = s.engine)
    (hf : t.formatter.state = s.formatter.state) (hr : t.input.rate = s.input.rate) : EngineInv t := by
  obtain ⟨⟨c1, c2, c3, c4, c5⟩, h2, h3, h4, h5, h6, h7, h8, h9⟩ := h
  refine ⟨⟨?_, ?_, ?_, ?_, ?_⟩, ?_, ?_, ?_, ?_, ?_, ?_, ?_, ?_⟩ <;> simp only [he, hf, hr] <;> assumption

/-- EveryStepKeepsEngineInv: armed, with an entry in the list. -/
theorem witness_engine_inv (x : Ruling) :
    EngineInv (poised x) ∧ ∃ t, step ((poised x).setPending [.frameTick 0]) = .next t :=
  ⟨poised_engineInv x, _, rfl⟩

/-- EveryStepKeepsQueryInv: one query held behind an entry, one waiting. -/
theorem witness_query_inv (x : Ruling) :
    QueryInv (poised x) ∧ ∃ t, step ((poised x).setPending [.queryWaitExpiry]) = .next t := by
  refine ⟨⟨?_, ?_, ?_, ?_, ?_, ?_, ?_, ?_, ?_, ?_⟩, _, rfl⟩
  · show 2 ≤ 4; decide
  · exact List.pairwise_pair.mpr (by decide)
  all_goals
    intro e he
    rcases List.mem_cons.mp he with rfl | he
    · first
      | decide
      | (intro _ _ h; cases h)
      | (intro _ h; cases h; exact ⟨cue, List.mem_singleton.mpr rfl, rfl,
          by show cue.spans 1600 11 = true; decide⟩)
      | (intro h; exact absurd h (by decide))
      | (intro _ _; decide)
    · rw [List.mem_singleton.mp he]
      first
      | decide
      | (intro _ _; show 7 < 8; decide)
      | (intro _ _ h; cases h)
      | (intro _ h; cases h)

theorem poised_positionInv (x : Ruling) : PositionInv (poised x) := by
  refine ⟨?_, ?_, ?_, ?_, ?_, ?_, ?_, ?_, ?_, ?_, ?_, ?_⟩
  · show 0 ≤ 3; decide
  · show 0 ≤ 3; decide
  · show 0 ≤ 2; decide
  · show 100 ≤ 65535; decide
  · show 0 ≤ 65535; decide
  · exact ⟨by show 1 ≤ 2; decide, by show 2 ≤ 4; decide⟩
  · intro h; exact absurd rfl h
  · intro h; exact absurd rfl h
  · intro h; cases h
  · intro _; rfl
  · intro i; left; show State.reset.position.gpi[i].depth = 1; revert i; decide
  · intro i; show State.reset.position.gpi[i].queue.length ≤ State.reset.position.gpi[i].depth; revert i; decide

/-- EveryStepKeepsPositionInv: LOCKED in PLAY, and a tick. -/
theorem witness_position_inv (x : Ruling) :
    PositionInv (poised x) ∧ ∃ t, step ((poised x).setPending [.frameTick 0]) = .next t :=
  ⟨poised_positionInv x, _, rfl⟩

theorem poised_inputInv (x : Ruling) : InputInv (poised x) := by
  refine ⟨?_, ?_, ?_, ?_, ?_, ?_, ?_⟩
  · show 1 ≤ 3; decide
  · intro g h; cases h; rfl
  · intro i c h
    match i, h with
    | 0, h => cases h; show (8 : FrameNo) = 9 - 1 - BitVec.ofNat 24 0; decide
    | n + 1, h => cases h
  · intro h; cases h
  · intro h; exact absurd rfl h
  · intro c hc
    rw [List.mem_singleton.mp hc]
    exact List.length_replicate
  · intro g h; cases h; exact ⟨rfl, by show 0 ≤ 65535; decide⟩

/-- EveryStepKeepsInputInv: a closed frame and one in gathering, and a tick. -/
theorem witness_input_inv (x : Ruling) :
    InputInv (poised x) ∧ ∃ t, step ((poised x).setPending [.frameTick 0]) = .next t :=
  ⟨poised_inputInv x, _, rfl⟩

/-- EveryStepKeepsFormatterInv: RECORDING, with frames in the written-frame list. -/
theorem witness_formatter_inv :
    let s := (recording .refuse).setFormatter { (recording .refuse).formatter with
      written := [7, 8]
      record := { (recording .refuse).formatter.record with
        first := some 7, last := some 8, framesWritten := 2, framesSilenced := 1 } }
    FormatterInv s ∧ ∃ t, step (s.setPending [.frameTick 0]) = .next t := by
  refine ⟨⟨by decide, by decide, ?_, by decide, by decide, by decide, by decide, by decide, ?_, ?_⟩, _, rfl⟩
  · intro _; rfl
  · intro e h; cases h
  · intro h; exact absurd rfl h

theorem poised_decoderInv (x : Ruling) : DecoderInv (poised x) := by
  refine ⟨?_, ?_, ?_, ?_, ?_, ?_, ?_⟩
  · intro h; cases h <;> rfl
  · intro h; cases h <;> exact Nat.zero_le _
  · show 1 ≤ 8; decide
  · exact List.pairwise_singleton _ _
  · intro e he
    rw [List.mem_singleton.mp he]
    exact List.length_replicate
  · show 48 ≤ 255; decide
  · intro h; cases h <;> exact ⟨⟨Nat.zero_le _, Nat.le_refl 32⟩, ⟨Nat.zero_le _, Nat.le_refl 32⟩⟩

/-- EveryStepKeepsDecoderInv: an entry in the ring, and the end of a head's frame. -/
theorem witness_decoder_inv (x : Ruling) :
    DecoderInv (poised x) ∧ ∃ t, step ((poised x).setPending [.headFrameEnd .advance]) = .next t :=
  ⟨poised_decoderInv x, _, rfl⟩

/-! ## Witnesses: notices and the link -/

/-- RaisedCauseIsReported: a cause pending; one not pending whose level exceeds Lr, and one that does not exceed it;
an own side without a NOTICE, and one with a NOTICE between two replies. -/
theorem witness_raised_cause :
    let n := { State.reset.notice with enabled := 0x3FFFF }
    let s := raise .copyRefused (State.reset.setNotice n)
    hasCause s.notice.pending .copyRefused = true ∧ hasCause s.notice.pending .linkFault = false ∧
    hasCause (NoticeUnit.reported { s.notice with pending := s.notice.pending ||| causeBit .linkFault })
      .linkFault = true ∧
    s.notice.lr < (s.notice.priorityOf .linkFault : Int) ∧
    hasCause s.notice.pending .markCaptured = false ∧
    (∀ d ∈ allCauses, ¬(hasCause (NoticeUnit.reported
        { s.notice with pending := s.notice.pending ||| causeBit .markCaptured }) d = true ∧
      s.notice.lr < (s.notice.priorityOf d : Int))) ∧
    (∀ o ∈ ([⟨.service, makeFrame 0 0x81 0 [0]⟩] : List OwnFrame), o.kind ≠ .notice) := by decide +kernel

/-- CausesLeaveOnlyByClearOrReset: a cause leaves by NOTICE CLEAR whose mask names it, by a broadcast of one, and by
POWER_ON_RESET; a mask that names another cause leaves it. -/
theorem witness_causes_leave :
    let s := raise .linkFault State.reset
    let t := fed s .noticeClear [0x00, 0x80, 0x00]
    hasCause t.notice.pending .linkFault = true ∧
    hasCause (after .noticeClear t).notice.pending .linkFault = false ∧
    hasCause (after .powerOnReset s).notice.pending .linkFault = false ∧
    hasCause (BitVec.ofNat 24 (ofBe [0x00, 0x80, 0x00])) .linkFault = true ∧
    hasCause (after (.frameReceivedUpstream (wireBytes (makeFrame 31 9 0 [0x00, 0x80, 0x00]))) s).notice.pending
      .linkFault = false ∧
    hasCause (after (.frameReceivedUpstream (wireBytes (makeFrame 31 9 0 [0x00, 0x40, 0x00]))) s).notice.pending
      .linkFault = true ∧
    exec .noticeClear t = .next (after .noticeClear t) ∧ exec .powerOnReset s = .next (after .powerOnReset s) :=
  ⟨by decide +kernel, by decide +kernel, by decide +kernel, by decide +kernel, by decide +kernel, by decide +kernel,
    rfl, rfl⟩

/-- The requests of every kind come up for service with any payload (the statements about served requests). -/
theorem witness_serves (k : RequestKind) (p : List Byte) :
    Serves (fed State.reset k p) (request k p) ∧ Serves (fed (playing .refuse) k p) (request k p) ∧
    Serves (fed (poised .refuse) k p) (request k p) ∧ Serves (fed active k p) (request k p) ∧
    (fed (poised .refuse) k p).lineage.refusals.length ≤ 8 :=
  ⟨fed_serves _ _ _ rfl rfl, fed_serves _ _ _ rfl rfl, fed_serves _ _ _ rfl rfl, fed_serves _ _ _ rfl rfl,
    Nat.zero_le _⟩

/-- NoticeRequestsServed at the ends of the ranges: code 1 and 18 taken, 0 and 19 not; priority 15 taken, 16 not;
mask bit 17 taken, bit 18 not. -/
theorem witness_notice_requests :
    reply State.reset .noticeSetup [1, 0, 0] = some [0, 1, 0, 0] ∧
    reply State.reset .noticeSetup [18, 15, 1] = some [0, 18, 15, 1] ∧
    reply State.reset .noticeSetup [0, 15, 1] = some [5] ∧
    reply State.reset .noticeSetup [19, 15, 1] = some [5] ∧
    reply State.reset .noticeSetup [18, 16, 1] = some [5] ∧
    reply State.reset .noticeSetup [18, 15, 2] = some [5] ∧
    reply State.reset .noticeClear [0x03, 0xFF, 0xFF] = some [0, 0, 0, 0] ∧
    reply State.reset .noticeClear [0x04, 0, 0] = some [5] ∧
    (reply State.reset .noticeRead []).map List.length = some 26 := by decide +kernel

/-- RequestRowsWaitTheirTurn: service paused; a request of another kind waiting; none. -/
theorem witness_waiting_rows :
    (State.reset.setLink { State.reset.link with paused := true }).link.paused = true ∧
    nextRequest (fed State.reset .probe []).link = some (request .probe []) ∧
    RequestKind.probe ≠ .assign ∧ nextRequest State.reset.link = none := by decide +kernel

/-- A frame the part makes is whole, at the shortest and at the longest payload (the statements about whole
frames). -/
theorem witness_whole_frame (p : List Byte) (h : p.length ≤ 240) :
    (makeFrame 31 0x19 7 p).Whole ∧ (makeFrame 0 0x01 7 p).Whole :=
  ⟨⟨by show (31 : Byte).toNat ≤ 31; decide, h, rfl⟩, ⟨by show (0 : Byte).toNat ≤ 31; decide, h, rfl⟩⟩

/-- UpstreamRequestIsJudged and UpstreamFrameIsRouted: an unassigned part and one with A = 1 and last = 30 stand
at both ends of the addresses; a kind without reply kind, an unknown kind, a wrong length, a full queue, a full
hold store; PRESENT high and low. -/
theorem witness_addresses :
    let l := { State.reset.link with assigned := some { a := 1, last := 30 } }
    State.reset.link.upReceiver = .hunting ∧ l.upReceiver = .hunting ∧ State.reset.link.assigned = none ∧
    (1 : Byte).toNat = 1 ∧ (1 ≤ 1 ∧ 1 ≤ 30) ∧ (0 : Byte).toNat ≠ 1 ∧ (30 : Byte).toNat ≤ 30 ∧
    kindOfByte 0x7E = none ∧ (kindOfByte 0x01).isSome = true ∧
    (after (.frameReceivedUpstream (wireBytes (makeFrame 0 0x7F 0 []))) State.reset).link.flags =
      (flagBadKind ||| flagUp) ∧
    (after (.frameReceivedUpstream (wireBytes (makeFrame 0 0x7E 0 []))) State.reset).link.hold = [.reply] ∧
    (after (.frameReceivedUpstream (wireBytes (makeFrame 0 0x01 0 [1]))) State.reset).link.hold = [.reply] ∧
    (after (.frameReceivedUpstream (wireBytes (makeFrame 0 0x01 0 []))) State.reset).link.requests.length = 1 ∧
    (after (.frameReceivedUpstream (wireBytes (makeFrame 30 0x01 0 []))) State.reset).link.hold = [.reply] := by
  decide +kernel

/-- BroadcastsAreHandled: a kind outside the set, RECORD STOP, a MONITOR SELECT and a SOURCE SELECT served on arrival,
PART RESET with PRESENT low and high, and a wrong length. -/
theorem witness_broadcasts :
    let s := State.reset.setPins { State.reset.pins with present := true }
    kindOfByte 0x01 = some .probe ∧ RequestKind.probe.broadcast = false ∧
    kindOfByte 0x19 = some .recordStop ∧ RequestKind.recordStop.broadcast = true ∧
    RequestKind.recordStop.length = 0 ∧
    (after (.frameReceivedUpstream (wireBytes (makeFrame 31 0x11 0 [1]))) s).output.monitor = .advance ∧
    (after (.frameReceivedUpstream (wireBytes (makeFrame 31 0x10 0 [1, 1]))) s).input.rate = .rate44 ∧
    (after (.frameReceivedUpstream (wireBytes (makeFrame 31 0x11 0 [1]))) s).link.own = [] ∧
    (after (.frameReceivedUpstream (wireBytes (makeFrame 31 0x04 0 []))) State.reset).link.resetDue = true ∧
    (after (.frameReceivedUpstream (wireBytes (makeFrame 31 0x04 0 []))) s).link.resetDue = false ∧
    (after (.frameReceivedUpstream (wireBytes (makeFrame 31 0x19 0 [1]))) s).link.flags =
      (flagBadLength ||| flagUp) := by decide +kernel

/-- DroppedFramesSetFlags: the first address and length out of range, the last in range, a wrong CHECK, a byte that
is not LEAD, a receiver that gathers, and flags both set and clear. -/
theorem witness_dropped_frames :
    31 < (32 : Byte).toNat ∧ (31 : Byte).toNat ≤ 31 ∧ 240 < (241 : Byte).toNat ∧
    State.reset.link.receiver .up = .hunting ∧ State.reset.link.receiver .down = .hunting ∧
    (setReceiver .down (.gathering [1]) State.reset).link.receiver .down = .gathering [1] ∧
    (0 : Byte) ≠ crc8 (coveredBytes 0 1 1 []) ∧ (∀ b ∈ ([0, 0xFF] : List Byte), b ≠ 0x5A) ∧
    State.reset.link.flags &&& 0 = 0 ∧ State.reset.link.flags &&& flagUp ≠ flagUp := by decide +kernel

/-- ArbiterSharesTheLine: nothing waits; each side alone; both sides, below and at S. -/
theorem witness_arbiter :
    let o : OwnFrame := { kind := .notice, frame := makeFrame 1 0x7F 0 [] }
    let f := makeFrame 2 0x81 0 [0]
    let l := { State.reset.link with own := [o], forward := [f] }
    State.reset.link.own = [] ∧ State.reset.link.forward = [] ∧ State.reset.link.upSending = none ∧
    State.reset.pins.upHold = false ∧ l.own = o :: [] ∧ l.forward = f :: [] ∧
    (l.lastSide = .own ∧ l.runCount < l.slice) ∧
    ({ l with runCount := 2 }.lastSide = .own ∧ { l with runCount := 2 }.slice ≤ { l with runCount := 2 }.runCount) ∧
    ({ l with lastSide := .forward, runCount := 1 }.lastSide = .forward ∧
      { l with lastSide := .forward, runCount := 1 }.runCount < l.slice) ∧
    1 ≤ l.slice ∧ l.runCount ≤ l.slice ∧ l.own ≠ [] ∧ l.forward ≠ [] := by decide +kernel

/-- UpstreamFrameSentFreesItsPlace: each kind of frame that can be in sending, its place held and taken. -/
theorem witness_upstream_sent :
    State.reset.link.upSending = none ∧
    ∀ x ∈ ([.forward (makeFrame 2 0x81 0 [0]), .own { kind := .service, frame := makeFrame 1 0x84 0 [0] },
        .own { kind := .linkReply, frame := makeFrame 1 0x81 0 [11] },
        .own { kind := .notice, frame := makeFrame 1 0x7F 0 [] }] : List UpFrame),
      ∀ b ∈ [true, false],
        (State.reset.setLink { State.reset.link with upSending := some { frame := x, orphan := b } }).link.upSending
          = some { frame := x, orphan := b } := by decide +kernel

/-- DownstreamSending and HoldAndPresentPins: a frame to be forwarded behind a reply, being sent; one alone while
PRESENT is high; two, the first being sent, and one behind a reply; a level that PRESENT already had; a notice unit that
meets its invariant. -/
theorem witness_downstream :
    let f := makeFrame 31 0x04 0 []
    let l := { State.reset.link with hold := [.reply, .forward f], downSending := some { frame := f, orphan := false } }
    let s := (State.reset.setLink { State.reset.link with hold := [.forward f] }).setPins
      { State.reset.pins with present := true }
    l.downSending = some { frame := f, orphan := false } ∧ l.hold = [.reply] ++ .forward f :: [] ∧
    (∀ x ∈ ([.reply] : List HoldSlot), x = .reply) ∧ firstForward l.hold = some f ∧
    State.reset.link.downSending = none ∧ s.pins.present = true ∧ s.link.hold = [.forward f] ∧
    s.link.downSending = none ∧ State.reset.pins.present = false ∧
    firstForward [.forward f, .forward (makeFrame 5 1 0 [])] = some f ∧ firstForward [.reply, .forward f] = some f := by
  decide +kernel

/-- LinkRequestsServed and PartResetRequestPausesService at the ends of the ranges. -/
theorem witness_link_requests :
    reply State.reset .linkSetup [1] = some [0, 1] ∧ reply State.reset .linkSetup [8] = some [0, 8] ∧
    reply State.reset .linkSetup [0] = some [5] ∧ reply State.reset .linkSetup [9] = some [5] ∧
    reply State.reset .assign [1, 30] = some [0, 1, 30] ∧ reply State.reset .assign [30, 30] = some [0, 30, 30] ∧
    reply State.reset .assign [0, 30] = some [5] ∧ reply State.reset .assign [2, 1] = some [5] ∧
    reply State.reset .assign [1, 31] = some [5] ∧ reply State.reset .partReset [] = some [0] ∧
    reply State.reset .probe [] = some [0, 0x48, 0x24, 0x01, 0, 0, 0, 0] ∧
    reply State.reset .linkStatus [0xFF] = some [0, 0, 0, 0, 0, 2, 0, 1, 0, 0] := by decide +kernel

/-! ## Witnesses: ports -/

/-- SampleClockPlaysTheNextPair and BoundaryChoosesTheFrame: no boundary due after reset, one due by a tick in PLAY,
one due by a tick before the first boundary, one due by the count outside PLAY. -/
theorem witness_boundary :
    let o := State.reset.output
    ¬((State.reset.pins.transport = .play ∨ o.unstarted = true) ∧ o.tickWaiting = true) ∧ ¬(1600 ≤ o.clocks) ∧
    o.unstarted = true ∧
    (playing .refuse).pins.transport = .play ∧ State.reset.pins.transport ≠ .play ∧
    ((playing .refuse).setOutput { o with tickWaiting := true }).output.tickWaiting = true ∧
    1600 ≤ (State.reset.setOutput { o with clocks := 1600 }).output.clocks ∧
    (State.reset.setOutput { o with clocks := 1600 }).output.clocks ≤ spf State.reset.input.rate := by
  decide +kernel

/-- ReceiverPairEntersOrIsDiscarded: with the lock indication active a pair enters the frame in gathering; with it
inactive the same pair is discarded. -/
theorem witness_receiver_pair :
    let s := playing .refuse
    let u := s.setPins { s.pins with locked := true }
    (after (.receiverPairStrobe ⟨1, 2⟩) u).input.gathering.map (fun g => g.pairs) = some [⟨1, 2⟩] ∧
    (after (.receiverPairStrobe ⟨1, 2⟩) s).input.gathering.map (fun g => g.pairs) = some [] := by decide +kernel

/-- InputStatusFollowsItsEvents: arrivals of every class and a mismatched rate, and an absence count of 5 and 6. -/
theorem witness_input_status :
    let s := State.reset.setPins { State.reset.pins with locked := true }
    (after (.statusArrival ⟨.pro, .never, .rate48⟩) s).lineage.cls = .pro ∧
    (after (.statusArrival ⟨.consumer, .once, .rate48⟩) s).lineage.cls = .consumer .once ∧
    (after (.statusArrival ⟨.consumer, .once, .rate44⟩) s).lineage.cls = .absent ∧
    (after .absenceCountExpiry ((after (.statusArrival ⟨.pro, .free, .rate48⟩) s).setLineage
      { (after (.statusArrival ⟨.pro, .free, .rate48⟩) s).lineage with absence := 6 })).lineage.cls = .absent ∧
    (after .absenceCountExpiry ((after (.statusArrival ⟨.pro, .free, .rate48⟩) s).setLineage
      { (after (.statusArrival ⟨.pro, .free, .rate48⟩) s).lineage with absence := 5 })).lineage.cls = .pro := by
  decide +kernel

/-- PortRequestsServed: the last code taken and the first turned away, a repeated rate, a change of rate while
DISARMED and IDLE, and one while armed. -/
theorem witness_port_requests :
    reply State.reset .sourceSelect [1, 0] = some [0] ∧ reply State.reset .sourceSelect [0, 1] = some [0] ∧
    reply State.reset .sourceSelect [2, 0] = some [5] ∧ reply State.reset .sourceSelect [0, 2] = some [5] ∧
    reply (poised .refuse) .sourceSelect [0, 1] = some [6] ∧
    reply (poised .refuse) .sourceSelect [0, 0] = some [0] ∧
    reply State.reset .monitorSelect [3] = some [0] ∧ reply State.reset .monitorSelect [4] = some [5] ∧
    reply State.reset .inputStatusRead [] = some [0, 0, 0, 0, 0, 0, 0, 0, 0, 0, 0, 0, 0, 0, 0] := by
  decide +kernel

/-- TickClosesAndOpensCaptureFrames: a tick in PLAY with a frame in gathering, ABSENT or FILLED, and with none. -/
theorem witness_capture :
    (playing .refuse).pins.transport = .play ∧ (playing .refuse).input.gathering.isSome = true ∧
    (playing .refuse).input.gathering.map (fun g => (g.source, g.absentSeen, g.received)) =
      some (.digital, true, 0) ∧
    ((playing .refuse).setInput { (playing .refuse).input with gathering := none }).input.gathering = none := by
  decide +kernel

/-! ## Witnesses: recording -/

/-- RecordRequestsServed: mode 1 taken and 2 turned away, program 999 and 1,000, CONTINUE with and without LOCKED, and
not in PLAY. -/
theorem witness_record_requests :
    reply (playing .refuse) .recordStart [1, 0, 0, 20, 3, 0xE7, 0, 1] = some [0, 1, 0, 0, 21] ∧
    reply (playing .refuse) .recordStart [0, 0, 0, 20, 3, 0xE7, 0, 1] = some [0, 1, 0, 0, 10] ∧
    reply (playing .refuse) .recordStart [2, 0, 0, 20, 3, 0xE7, 0, 1] = some [5] ∧
    reply (playing .refuse) .recordStart [1, 0, 0, 20, 3, 0xE8, 0, 1] = some [5] ∧
    reply State.reset .recordStart [1, 0, 0, 20, 3, 0xE7, 0, 1] = some [6] ∧
    reply ((playing .refuse).setPosition { (playing .refuse).position with lock := .slipped }) .recordStart
      [0, 0, 0, 20, 3, 0xE7, 0, 1] = some [6] ∧
    reply (recording .refuse) .recordStop [] = some [0, 2, 0, 0, 0, 0] ∧
    reply State.reset .recordStop [] = some [0, 0, 0, 0, 0, 0] ∧
    (reply (recording .refuse) .recordStatus []).map List.length = some 31 := by decide +kernel

theorem recording_inputInv (x : Ruling) : InputInv (recording x) :=
  have h := poised_inputInv x
  ⟨h.1, h.2, h.3, h.4, h.5, h.6, h.7⟩

/-- TickWritesTheRecordedFrame: RECORDING in PLAY with nothing in emission, capture frame W − 2 closed under each
ruling, each refusal action, an open span, and a list that is full; STOPPING under each. -/
theorem witness_recorded_frame (x : Ruling) :
    let s := recording x
    s.link.resetDue = false ∧ s.pins.transport = .play ∧ InputInv s ∧ CueListInv s ∧ 1 ≤ s.decoder.preread ∧
    s.engine.state = .disarmed ∧ s.formatter.emission = none ∧ s.formatter.state ≠ .idle ∧
    s.input.closed = [closedFrame x] ∧ (closedFrame x).ruling = x ∧ s.lineage.action = .silence ∧
    (s.setLineage { s.lineage with action := .halt }).lineage.action = .halt ∧ s.lineage.span = none ∧
    (s.setLineage { s.lineage with
        span := some { start := 5, last := 9, context := .record, listed := true } }).lineage.span ≠ none ∧
    8 ≤ (s.setLineage { s.lineage with
        refusals := List.replicate 8 { start := 1, stop := some 1, context := .record } }).lineage.refusals.length ∧
    (let t := s.setFormatter { s.formatter with state := .stopping }
     InputInv t ∧ CueListInv t ∧ t.formatter.state = .stopping ∧ t.formatter.emission = none) :=
  have h := recording_inputInv x
  have c : CueListInv (recording x) := ⟨Nat.zero_le _, List.Pairwise.nil, List.Pairwise.nil, List.Pairwise.nil,
    fun _ h => absurd h List.not_mem_nil⟩
  ⟨rfl, rfl, h, c, by show 1 ≤ 2; decide, rfl, rfl, fun h => (by cases h), rfl, rfl, rfl, rfl,
    rfl, fun h => (by cases h), Nat.le_refl 8, ⟨h.1, h.2, h.3, h.4, h.5, h.6, h.7⟩, ⟨c.1, c.2, c.3, c.4, c.5⟩, rfl, rfl⟩

/-- FrameWrittenRecordsTheFrame: nothing in emission; a frame of the recording; a splice frame, before and at the end
of its entry. -/
theorem witness_frame_written :
    let e (o : EmissionOrigin) : Emission := { number := 10, blocks := [], origin := o }
    let f (o : EmissionOrigin) (s : State) := s.setFormatter { s.formatter with emission := some (e o) }
    let c : CueEntry := { cue with state := .active .insert }
    let ended := f .splice (active.setEngine { active.engine with
      run := { active.engine.run with ending := some .complete } })
    State.reset.formatter.emission = none ∧
    (f (.recording true) State.reset).formatter.emission = some (e (.recording true)) ∧
    (e (.recording true)).origin ≠ .splice ∧
    (f .splice active).formatter.emission = some (e .splice) ∧ (e .splice).origin = .splice ∧
    active.engine.state = .active ∧ active.engine.run.ending = none ∧
    ended.engine.arm = { mode := .execute, loop := false } ∧ ended.engine.run.ending = some .complete ∧
    ended.engine.cues = [] ++ c :: [] ∧ (∀ d ∈ ([] ++ [] : List CueEntry), d.id ≠ c.id) ∧
    ended.engine.cursor = .entry c.id ∧ ended.link.resetDue = false :=
  ⟨rfl, rfl, by decide, rfl, rfl, rfl, rfl, rfl, rfl, rfl, fun _ h => absurd h List.not_mem_nil, rfl, rfl⟩

/-- TransportChangesReachEveryBlock: the same level; a change outside PLAY; leaving PLAY while recording, and while an
entry is ACTIVE in either mode. -/
theorem witness_transport :
    State.reset.pins.transport = .stopped ∧ Transport.play ≠ .stopped ∧
    (recording .refuse).pins.transport = .play ∧ (recording .refuse).formatter.state ≠ .idle ∧
    (recording .refuse).position.lock ≠ .unlocked ∧ active.pins.transport = .play ∧
    active.engine.state = .active ∧ cursorCue active = some { cue with state := .active .insert } ∧
    (∀ m, EngineInv (inserting m .refuse false)) ∧ Transport.shuttle ≠ .play :=
  ⟨rfl, by decide, rfl, fun h => (by cases h), fun h => (by cases h), rfl, rfl, rfl,
    fun m => inserting_engineInv m .refuse false, by decide⟩

/-- LineageRequestsServed: the last codes taken and the first turned away, and both values of the clear. -/
theorem witness_lineage_requests :
    reply State.reset .lineageSetup [2, 1] = some [0, 2, 1] ∧ reply State.reset .lineageSetup [3, 1] = some [5] ∧
    reply State.reset .lineageSetup [2, 2] = some [5] ∧
    (reply (playing .refuse) .lineageStatus []).map List.length = some 31 ∧
    reply State.reset .refusalListRead [0] = some [0, 0, 0] ∧
    reply State.reset .refusalListRead [1] = some [0, 0, 0] ∧
    reply State.reset .refusalListRead [2] = some [5] := by decide +kernel

/-! ## Witnesses: tape and decoder -/

/-- WrittenFrameIsReadBack and BurstOfTenBlocksIsRepaired: a frame of spf pairs, an empty frame in assembly, the
highest program number, and runs of 0 and 10 blocks and the last start of a run of 11. -/
theorem witness_written_frame :
    silence.length = spf State.reset.input.rate ∧ State.reset.decoder.assembly.get .advance = Assembly.empty ∧
    State.reset.decoder.assembly.get .confidence = Assembly.empty ∧ (999 : Word16).toNat ≤ 999 ∧
    0 ≤ 10 ∧ 10 ≤ 10 ∧ 40 ≤ 40 :=
  ⟨List.length_replicate, rfl, rfl, by decide, by decide, by decide, by decide⟩

/-- BlockArrivalIsJudged, a wrong CRC: after 124 zero bytes, one of two endings is wrong. -/
theorem witness_wrong_crc : ∃ bytes : List Byte, bytes.length = 126 ∧
    be 2 (crc16 (bytes.take 124)).toNat ≠ bytes.drop 124 := by
  by_cases h : be 2 (crc16 (List.replicate 124 0)).toNat = [0, 0]
  · refine ⟨List.replicate 124 0 ++ [0, 1], by simp, ?_⟩
    rw [List.take_left' List.length_replicate, List.drop_left' List.length_replicate, h]
    decide
  · refine ⟨List.replicate 124 0 ++ [0, 0], by simp, ?_⟩
    rw [List.take_left' List.length_replicate, List.drop_left' List.length_replicate]
    exact h

/-- BlockArrivalIsJudged: a block of 125 bytes, the first track and position out of range, and the last position in
range; a frame in assembly without a tag, of another tag, and with the place filled. -/
theorem witness_block_arrival :
    let a := Assembly.empty.place { track := .b, position := 50, tag := 7, payload := List.replicate 120 0 }
    (List.replicate 125 (0 : Byte)).length ≠ 126 ∧ 1 < (2 : Byte).toNat ∧ 50 < (51 : Byte).toNat ∧ 50 ≤ 50 ∧
    (List.replicate 120 (0 : Byte)).length = 120 ∧ 125 < 126 ∧ Assembly.empty.tag = none ∧ a.tag = some 7 ∧
    (8 : Word16) ≠ 7 ∧ a.places.any (fun p => p.track == .b && p.position == 50) = true := by decide +kernel

/-- A frame in assembly with every data block filled. -/
def wholeAssembly : Assembly :=
  { tag := some 10
    places := ([Track.a, Track.b]).flatMap (fun t => (List.range 40).map
      (fun i => { track := t, position := i, payload := List.replicate 120 0 }))
    foreign := 0 }

/-- A frame in assembly with the subcode of this frame alone. -/
def subcodeAssembly (n : FrameNo) : Assembly :=
  { tag := some (tagOf n)
    places := [{ track := .a, position := 50,
                 payload := subcodePayload { number := n, program := 1, take := 2, mark := .free,
                                             rate := .rate48, kind := .normal, refused := false } }]
    foreign := 0 }

/-- HeadFrameEndRecordsTheFrame: no block lost, no mismatch and full gain; a subcode, of the other rate, and of a
frame at and below W; a numbered confidence frame that lost blocks. -/
theorem witness_head_frame_end :
    let s := playing .refuse
    lostCount wholeAssembly = 0 ∧ (chooseSubcode wholeAssembly).1 = none ∧ lostCount (subcodeAssembly 9) = 80 ∧
    ((chooseSubcode (subcodeAssembly 9)).1.map (fun r => (r.number, r.rate))) = some (9, .rate48) ∧
    Rate.rate48 ≠ .rate44 ∧ (s.conceal.chans.get .advance).l.g = 32 ∧ (s.conceal.chans.get .advance).r.g = 32 ∧
    ¬((9 : FrameNo).toNat < s.position.w.toNat) ∧ (8 : FrameNo).toNat < s.position.w.toNat ∧
    (9 : FrameNo) ∈ ([9] : List FrameNo) ∧ 0 < lostCount (subcodeAssembly 9) := by decide +kernel

/-- HeadFrameEndAnswersQueries: a WAITING entry of the subcode's frame, and a third pass of the expected one. -/
theorem witness_head_queries :
    let s := poised .refuse
    (∃ e ∈ s.query.entries, e.state = .waiting ∧ e.frame = 11 ∧ 3 ≤ e.passes + 1) ∧
    ((chooseSubcode (subcodeAssembly 11)).1.map (fun r => r.number)) = some 11 ∧
    s.position.lock = .locked ∧ s.position.w + BitVec.ofNat 24 s.decoder.preread = 11 ∧
    (chooseSubcode Assembly.empty).1 = none :=
  ⟨⟨_, List.mem_cons_of_mem _ (List.mem_singleton.mpr rfl), rfl, rfl, by decide⟩, by decide +kernel, rfl, by decide,
    by decide +kernel⟩

/-- AdvanceSubcodeIsJudged: an ADVANCE subcode in PLAY; outside PLAY, without a subcode, and CONFIDENCE. -/
theorem witness_advance_subcode :
    let s := (playing .refuse).setDecoder { (playing .refuse).decoder with
      assembly := ⟨subcodeAssembly 11, Assembly.empty⟩ }
    s.pins.transport = .play ∧
    ((chooseSubcode (s.decoder.assembly.get .advance)).1.map (fun r => r.number)) = some 11 ∧
    State.reset.pins.transport ≠ .play ∧ (chooseSubcode (s.decoder.assembly.get .confidence)).1 = none := by
  decide +kernel

/-- DecoderRequestsServed at the ends of the ranges, and PREREAD SETUP while armed. -/
theorem witness_decoder_requests :
    reply State.reset .qualityRead [1, 15, 14] = some [0, 0, 0, 0, 0, 0, 0] ∧
    reply State.reset .qualityRead [2, 15, 14] = some [5] ∧ reply State.reset .qualityRead [1, 16, 14] = some [5] ∧
    reply State.reset .qualityRead [1, 15, 0] = some [5] ∧ reply State.reset .qualityRead [1, 15, 15] = some [5] ∧
    reply State.reset .qualityTotals [1] = some (List.replicate 33 0) ∧
    reply State.reset .qualityTotals [2] = some [5] ∧
    reply State.reset .prereadSetup [1] = some [0, 1] ∧ reply State.reset .prereadSetup [4] = some [0, 4] ∧
    reply State.reset .prereadSetup [0] = some [5] ∧ reply State.reset .prereadSetup [5] = some [5] ∧
    reply (poised .refuse) .prereadSetup [2] = some [6] ∧ reply State.reset .concealSetup [2, 0] = some [5] ∧
    reply State.reset .concealSetup [1, 255] =
      some [0, 255, 0, 32, 0, 0, 0, 32, 0, 0, 0, 32, 0, 0, 0, 32, 0, 0] ∧
    reply State.reset .concealSetup [0, 255] =
      some [0, 48, 0, 32, 0, 0, 0, 32, 0, 0, 0, 32, 0, 0, 0, 32, 0, 0] := by decide +kernel

/-- ConcealmentFollowsItsRuns: a channel state in its ranges; gains 0 and 32; a run of one good sample; a held run of
the greatest length from the greatest hold limit. -/
theorem witness_conceal_runs :
    ChannelState.reset.InRange ∧ ChannelState.reset.g ≤ 32 ∧ ([7] : List Sample) ≠ [] ∧ 255 ≤ 255 ∧
    ChannelState.reset.h + 65535 ≤ 65535 ∧ ChannelState.reset.h = 0 ∧ ChannelState.reset.g = 32 ∧
    ([some 7, none] : List (Option Sample)).getLast? = some none ∧
    ([none] : List (Option Sample)).length = [some 7].length :=
  ⟨⟨Nat.zero_le _, Nat.le_refl 32⟩, Nat.le_refl 32, by decide, by decide, by decide, rfl, rfl, rfl, rfl⟩

/-- ConcealmentFollowsItsRuns at index 0 of frame 11: the record of frame 10 makes the sample before it, 4; the same
record of frame 9, or an invalid one, or a frame without a number, makes none. -/
theorem witness_previous_sample :
    let st (n : FrameNo) (v : Bool) : ChannelState :=
      { ChannelState.reset with b := 50, prev := { value := 4, valid := v, number := some n } }
    let first (number : Option FrameNo) (st : ChannelState) := (concealChannel 48 number st [none, some 8]).outs.head?
    first (some 11) (st 10 true) = some 6 ∧ first (some 11) (st 9 true) = some 50 ∧
    first (some 11) (st 10 false) = some 50 ∧ first none (st 10 true) = some 50 := by decide +kernel

/-! ## Witnesses: position -/

/-- PositionRequestsServed at the ends of the ranges: line 3 and 4, depth 2 and 3, each function; a MARK line with a
mark, an empty one, and a line of another function. -/
theorem witness_position_requests :
    let s := (after (.gpiFallingEdge 3) (after .gpiSetup (fed State.reset .gpiSetup [3, 1, 0, 2, 1])))
    (reply (playing .refuse) .positionRead []) =
      some [0, 0, 0, 9, 1, 0, 0, 1, 0, 100, 0, 0, 0, 0, 0, 0, 0, 0, 0, 0, 0, 0, 0] ∧
    reply State.reset .gpiSetup [3, 3, 1, 2, 1] = some [0] ∧ reply State.reset .gpiSetup [4, 3, 1, 2, 1] = some [5] ∧
    reply State.reset .gpiSetup [3, 4, 1, 2, 1] = some [5] ∧ reply State.reset .gpiSetup [3, 3, 2, 2, 1] = some [5] ∧
    reply State.reset .gpiSetup [3, 3, 1, 0, 1] = some [5] ∧ reply State.reset .gpiSetup [3, 3, 1, 3, 1] = some [5] ∧
    reply State.reset .gpiSetup [3, 3, 1, 2, 2] = some [5] ∧
    reply s .markRead [3] = some [0, 1, 0, 0, 0, 0, 0, 0, 0, 0] ∧ reply s .markRead [0] = some [6] ∧
    reply s .markRead [4] = some [5] := by decide +kernel

/-- FallingEdgeMakesARequest: an OFF line; a MARK line under EDGE, with room and full. -/
theorem witness_falling_edge :
    let l : GpiLine := { GpiLine.reset with function := .mark }
    GpiLine.reset.function = .off ∧ l.function ≠ .off ∧ l.detection = .edge ∧ ¬(l.depth ≤ l.queue.length) ∧
    (let m := l.join { position := 5, lock := .locked }
     m.depth ≤ m.queue.length) := by decide +kernel

theorem resting_engineInv (m : EngineMode) : EngineInv (resting m) := by
  have h := (poised_engineInv .refuse).cueList
  refine ⟨⟨h.1, h.2, h.3, h.4, h.5⟩, fun h => absurd rfl h, ⟨fun _ => rfl, fun _ => rfl⟩, fun _ h => (by cases h),
    fun h => (by cases h), ?_, fun h => (by cases h), fun h => (by cases h),
    ⟨by show 2 ≤ 30; decide, by show 30 ≤ 255; decide⟩⟩
  intro e he h'; rw [List.mem_singleton.mp he] at h'; cases h'

/-- The requests that a line's function hands over at a tick. -/
def handedAt (s : State) : List GpiFunction :=
  ([0, 1, 2, 3] : List (Fin 4)).flatMap (fun i =>
    let l := s.position.gpi[i]
    if l.function = .arm ∨ l.function = .abort then l.queue.map (fun _ => l.function) else [])

/-- FallingEdgeMakesARequest at a tick: one ARM at an ARMED engine, at a DISARMED one in either mode that takes it, and
at an empty list that turns it away; one ABORT, and none, at a DISARMED one. -/
theorem witness_handed (m : EngineMode) :
    let s := handing .arm (poised .refuse)
    let r := handing .arm (resting m)
    let u := r.setEngine { r.engine with cues := [] }
    let inv (s : State) := EngineInv s ∧ 1 ≤ s.decoder.preread ∧ s.engine.recordsMade ≤ 4294967295 ∧
      s.formatter.emission = none ∧
      s.link.resetDue = false ∧ s.pins.transport = .play
    (inv s ∧ s.engine.state = .armed ∧ handedAt s = [.arm]) ∧
    (inv r ∧ r.engine.state = .disarmed ∧ handedAt r = [.arm] ∧ r.engine.cues ≠ [] ∧ r.engine.arm.mode = m ∧
      (after (.frameTick 0) r).formatter.state = .idle ∧
      (after (.frameTick 0) r).lineage.cls ≠ .consumer .never) ∧
    (inv u ∧ u.engine.cues = []) ∧ handedAt (handing .abort (resting m)) = [.abort] ∧
    handedAt (resting m) = [] := by
  have h := poised_engineInv .refuse
  have q := resting_engineInv m
  refine ⟨⟨⟨engineInv_same h rfl rfl rfl, by show 1 ≤ 2; decide, Nat.zero_le _, rfl, rfl, rfl⟩, rfl, by decide +kernel⟩,
    ⟨⟨engineInv_same q rfl rfl rfl, by show 1 ≤ 2; decide, Nat.zero_le _, rfl, rfl, rfl⟩, rfl, ?_,
      fun h => (by cases h), rfl,
      ?_, ?_⟩,
    ⟨⟨⟨⟨Nat.zero_le _, List.Pairwise.nil, List.Pairwise.nil, List.Pairwise.nil,
        fun _ h => absurd h List.not_mem_nil⟩, q.2, q.3, fun _ h => (by cases h), fun h => (by cases h),
        fun _ h => absurd h List.not_mem_nil, q.7, q.8, q.9⟩, by show 1 ≤ 2; decide, Nat.zero_le _, rfl, rfl, rfl⟩,
      rfl⟩, ?_, ?_⟩ <;>
  cases m <;> decide +kernel

/-- TickCountsThePosition: a tick outside PLAY and one in PLAY; a LEVEL line held low. -/
theorem witness_tick :
    State.reset.pins.transport ≠ .play ∧ (playing .refuse).pins.transport = .play ∧
    (0x8 : BitVec 4).getLsbD 3 = true ∧
    { GpiLine.reset with function := .arm, detection := .level }.function = .arm := by decide +kernel

/-! ## Witnesses: the cue list and the edit engine -/

/-- CueRequestsServed: CUE ADD turned away for each reason and taken, past the last id; CUE REMOVE of the cursor's
entry, of none and of
an ACTIVE one; CUE READ at the ends of its ranges. -/
theorem witness_cue_requests :
    let add (i o f : Nat) : List Byte := be 5 i ++ be 5 o ++ be 2 f ++ [3, 0xE7, 0, 1]
    reply State.reset .cueAdd (add 0 16 16) = some [0, 1, 0] ∧
    reply State.reset .cueAdd (add 0 4096 4096) = some [0, 1, 0] ∧
    reply State.reset .cueAdd (add 0 15 15) = some [5] ∧ reply State.reset .cueAdd (add 0 4097 4097) = some [5] ∧
    reply State.reset .cueAdd (add 0 15 16) = some [5] ∧
    reply State.reset .cueAdd (add 26843544000 26843545584 16) = some [0, 1, 0] ∧
    reply State.reset .cueAdd (add 26843544000 26843545585 16) = some [5] ∧
    reply (poised .refuse) .cueAdd (add 20799 30000 16) = some [9] ∧
    reply (poised .refuse) .cueAdd (add 20800 30000 16) = some [0, 2, 1] ∧
    reply (poised .refuse) .cueAdd (add 15000 15100 16) = some [6] ∧
    reply ((poised .refuse).setEngine { (poised .refuse).engine with lastId := some 255 }) .cueAdd
      (add 20800 30000 16) = some [0, 2, 1] ∧
    (reply active .cueRead [0, 1]).map (fun r => r.take 12) = some [0, 1, 2, 0, 0, 1, 0, 0, 0, 0, 0, 1] ∧
    (reply active .cueRead [0, 1]).map (fun r => r.drop 29) = some [2] ∧
    reply ((poised .refuse).setEngine { (poised .refuse).engine with cues := List.replicate 16 cue }) .cueAdd
      (add 40000 50000 16) = some [7] ∧
    reply (poised .refuse) .cueRemove [1] = some [0, 0] ∧ reply (poised .refuse) .cueRemove [2] = some [8] ∧
    reply active .cueRemove [1] = some [6] ∧ (reply (poised .refuse) .cueRead [15, 12]).map List.length = some 12 ∧
    (reply (poised .refuse) .cueRead [0, 1]).map List.length = some 30 ∧
    reply (poised .refuse) .cueRead [16, 1] = some [5] ∧ reply (poised .refuse) .cueRead [0, 0] = some [5] ∧
    reply (poised .refuse) .cueRead [0, 13] = some [5] := by decide +kernel

/-- CUE REMOVE's own premises: the entry is the only one, PENDING, with the cursor on it; ahead of another; and with
the cursor elsewhere. -/
theorem witness_cue_remove :
    let d : CueEntry := { cue with id := 2, inPoint := 32000, outPoint := 33000 }
    (poised .refuse).engine.cues = [] ++ cue :: [] ∧ cue.id = (1 : Byte).toNat ∧ cue.state = .pending ∧
    (poised .refuse).engine.cursor = .entry cue.id ∧ ([] : List CueEntry) = [] ∧
    (∀ e ∈ ([] ++ [d] : List CueEntry), e.id ≠ (1 : Byte).toNat) ∧ [d].head? = some d ∧
    (State.reset.setEngine { Engine.reset with cues := [cue] }).engine.cursor ≠ .entry cue.id := by decide +kernel

/-- EditRequestsServed: EDIT ARM turned away for each reason, taken in both modes, with an entry ahead and with one
passed; EDIT DISARM, EDIT ABORT and EDIT SETUP in and out of their states; SPLICE LOG READ at the ends of its
ranges. -/
theorem witness_edit_requests :
    let s := State.reset.setEngine { Engine.reset with cues := [cue] }
    let never := { s with input := { s.input with source := .digital }
                          lineage := { s.lineage with cls := .consumer .never } }
    let late := s.setPosition { s.position with w := 9 }
    CueListInv s ∧ s.engine.recordsMade ≤ 4294967295 ∧
    reply s .editArm [2, 0] = some [5] ∧ reply s .editArm [0, 2] = some [5] ∧
    reply State.reset .editArm [0, 0] = some [6] ∧ reply never .editArm [0, 0] = some [10] ∧
    reply never .editArm [1, 0] = some [0, 1, 1, 1, 0] ∧ reply s .editArm [0, 0] = some [0, 1, 1, 1, 0] ∧
    reply late .editArm [0, 0] = some [0, 0, 0, 0, 1] ∧ reply late .editArm [1, 1] = some [0, 1, 0, 0, 0] ∧
    reply active .editDisarm [] = some [6] ∧ reply (poised .refuse) .editDisarm [] = some [0] ∧
    reply active .editAbort [] = some [0, 1] ∧ reply (poised .refuse) .editAbort [] = some [6] ∧
    reply s .editSetup [2] = some [0, 2] ∧ reply s .editSetup [1] = some [5] ∧
    reply (poised .refuse) .editSetup [2] = some [6] ∧ reply s .spliceLogRead [15, 10] = some [0, 0, 0, 0, 0, 0, 0] ∧
    reply s .spliceLogRead [16, 10] = some [5] ∧ reply s .spliceLogRead [15, 11] = some [5] ∧
    reply s .spliceLogRead [15, 0] = some [5] := by
  have h := (poised_engineInv .refuse).cueList
  exact ⟨⟨h.1, h.2, h.3, h.4, h.5⟩, by decide +kernel⟩

/-- CrossfadeLiesBetween: the shortest and the longest fade the rule gives, at both ends; an ACTIVE entry aborted on
a REFUSE in EXECUTE, and on request in either mode, by the pending abort and by a GPI ABORT. -/
theorem witness_crossfade (m : EngineMode) (y : Mark) :
    let s := inserting m (.permit y) true
    let g := handing .abort (inserting m (.permit y) false)
    (1 ≤ 16 ∧ 0 ≤ 16 ∧ 1 ≤ 4096 ∧ 4096 ≤ 4096) ∧
    EngineInv active ∧ InputInv active ∧ active.engine.arm.mode = .execute ∧ (nextCapture active).2 = .refuse ∧
    EngineInv s ∧ InputInv s ∧ s.engine.pendingAbort = true ∧ s.position.lock = .locked ∧
    s.formatter.emission = none ∧ s.link.resetDue = false ∧ s.pins.transport = .play ∧
    s.engine.cues = [] ++ { cue with state := .active .insert } :: [] ∧ s.engine.cursor = .entry 1 ∧
    EngineInv g ∧ InputInv g ∧ g.position.gpi[0].function = .abort ∧ g.position.gpi[0].queue ≠ [] := by
  have h := inserting_engineInv m (.permit y) false
  have p := poised_inputInv (.permit y)
  have q := poised_inputInv .refuse
  exact ⟨by decide, inserting_engineInv .execute .refuse false, ⟨q.1, q.2, q.3, q.4, q.5, q.6, q.7⟩, rfl, rfl,
    inserting_engineInv m (.permit y) true, ⟨p.1, p.2, p.3, p.4, p.5, p.6, p.7⟩, rfl, rfl, rfl, rfl, rfl, rfl, rfl,
    engineInv_same h rfl rfl rfl, ⟨p.1, p.2, p.3, p.4, p.5, p.6, p.7⟩, rfl,
    fun h => (by cases h)⟩

/-- NoSpliceFrameWithoutLock: an entry ACTIVE at a tick that carries SLIPPED. -/
theorem witness_lost_lock :
    let s := active.setPosition { active.position with lock := .slipped, age := 0 }
    s.link.resetDue = false ∧ s.pins.transport = .play ∧ EngineInv s ∧ PositionInv s ∧ s.position.lock ≠ .locked ∧
    s.formatter.emission = none ∧ (∃ c ∈ s.engine.cues, s.engine.state = .active ∧ s.engine.cursor = .entry c.id) := by
  refine ⟨rfl, rfl, ?_, ?_, fun h => (by cases h), rfl, _, List.mem_singleton.mpr rfl, rfl, rfl⟩
  · have h := inserting_engineInv .execute .refuse false
    exact engineInv_same h rfl rfl rfl
  · have h := poised_positionInv .refuse
    exact ⟨h.1, h.2, h.3, by decide, h.5, h.6, fun _ => rfl, fun h => absurd rfl h, fun h => (by cases h),
      fun h => (by cases h), h.11, h.12⟩

/-- NoSpliceFrameWithoutLock, ARMED: a start frame above W, one at W with the lock age below L, one below W, with no
entry after it; and a cursor past the last entry. -/
theorem witness_armed_tick (x : Ruling) (w : FrameNo) :
    let s := (poised x).setPosition { (poised x).position with w := w, age := 5 }
    let e := { s.engine with arm := { mode := .rehearse, loop := true }, cursor := .passed }
    EngineInv s ∧ PositionInv s ∧ s.engine.state = .armed ∧ s.formatter.emission = none ∧
    (∀ i : Fin 4, s.position.gpi[i].function = .arm → s.position.gpi[i].queue = []) ∧
    s.engine.cues = [] ++ cue :: [] ∧ s.engine.cursor = .entry cue.id ∧ ([] : List CueEntry).head? = none ∧
    EngineInv (s.setEngine e) ∧ (s.setEngine e).engine.cursor = .passed ∧
    ((8 : FrameNo) + 1).toNat < cue.startFrame 1600 ∧ cue.startFrame 1600 = ((9 : FrameNo) + 1).toNat ∧
    min (5 + 1) 65535 < s.engine.lockAgeReq ∧ cue.startFrame 1600 < ((10 : FrameNo) + 1).toNat := by
  have h := poised_engineInv x
  have p := poised_positionInv x
  refine ⟨engineInv_same h rfl rfl rfl,
    ⟨p.1, p.2, p.3, by show 5 ≤ 65535; decide, p.5, p.6, fun h => absurd rfl h, fun h => absurd rfl h,
      fun h => (by cases h), fun _ => rfl, p.11, p.12⟩,
    rfl, rfl, ?_, rfl, rfl, rfl,
    ⟨⟨h.1.1, h.1.2, h.1.3, h.1.4, h.1.5⟩, h.2, ⟨fun h => (by cases h), fun h => (by cases h)⟩,
      fun _ h => (by cases h), fun h => (by cases h), ?_, fun _ => ⟨rfl, rfl⟩, fun _ => rfl, h.9⟩,
    rfl, by decide, by decide, by show 6 < 30; decide, by decide⟩
  · intro i; show State.reset.position.gpi[i].function = .arm → State.reset.position.gpi[i].queue = []; revert i; decide
  · intro e he h'; rw [List.mem_singleton.mp he] at h'; cases h'

/-- EntryStartsAtItsStartTick: the start tick of the cursor's entry, under each ruling on capture frame W − 2. -/
theorem witness_entry_start (x : Ruling) :
    let s := poised x
    s.link.resetDue = false ∧ s.pins.transport = .play ∧ EngineInv s ∧ InputInv s ∧ s.formatter.emission = none ∧
    s.position.lock = .locked ∧ s.engine.cues = [] ++ cue :: [] ∧ s.engine.cursor = .entry cue.id ∧
    s.engine.state = .armed ∧
    (∀ i : Fin 4, s.position.gpi[i].function = .arm → s.position.gpi[i].queue = []) ∧
    cue.startFrame (spf s.input.rate) = (s.position.w + 1).toNat ∧
    s.engine.lockAgeReq ≤ min (s.position.age + 1) 65535 ∧ s.engine.arm.mode = .execute ∧
    (nextCapture s).2 = x :=
  ⟨rfl, rfl, poised_engineInv x, poised_inputInv x, rfl, rfl, rfl, rfl, rfl,
    by intro i; show State.reset.position.gpi[i].function = .arm → State.reset.position.gpi[i].queue = []
       revert i; decide,
    by show cue.startFrame 1600 = 10; decide, by show 30 ≤ 101; decide, rfl, rfl⟩

/-- EntryStartsAtItsStartTick, after the start: an entry ACTIVE in either mode, at a frame before its last one, and at
its last frame. -/
theorem witness_entry_goes_on (m : EngineMode) (y : Mark) :
    let s := inserting m (.permit y) false
    let c : CueEntry := { cue with state := .active .insert }
    EngineInv s ∧ InputInv s ∧ s.engine.state = .active ∧ s.engine.cues = [] ++ c :: [] ∧
    s.engine.cursor = .entry c.id ∧ s.engine.pendingAbort = false ∧ s.position.lock = .locked ∧
    s.formatter.emission = none ∧ (nextCapture s).2 ≠ .refuse ∧
    (∀ i : Fin 4, s.position.gpi[i].function = .abort → s.position.gpi[i].queue = []) ∧
    (s.position.w + 1).toNat ≠ c.lastFrame 1600 ∧
    EngineInv (finishing m) ∧ InputInv (finishing m) ∧ (nextCapture (finishing m)).2 ≠ .refuse ∧
    (finishing m).engine.cues = [] ++ c :: [] ∧ ((finishing m).position.w + 1).toNat = c.lastFrame 1600 := by
  have h := inserting_engineInv m (.permit .never) false
  have p := poised_inputInv (.permit y)
  refine ⟨inserting_engineInv m (.permit y) false, ⟨p.1, p.2, p.3, p.4, p.5, p.6, p.7⟩, rfl, rfl, rfl, rfl, rfl, rfl,
    fun h => (by cases h), ?_, by show (10 : Nat) ≠ 12; decide, engineInv_same h rfl rfl rfl,
    ⟨Nat.zero_le _, fun _ h => (by cases h), fun i c h => (by cases h), fun _ => rfl, fun _ => rfl,
      fun c h => absurd h List.not_mem_nil, fun _ h => (by cases h)⟩,
    fun h => (by cases h), rfl, by show 12 = cue.lastFrame 1600; decide⟩
  intro i; show State.reset.position.gpi[i].function = .abort → State.reset.position.gpi[i].queue = []
  revert i; decide

/-! ## Witnesses: queries -/

/-- QueryRequestsServed: a kind turned away; a repeat of a HELD and of a WAITING entry; a COMPLETE one; a new one
behind an entry, at both ends of its span, and outside it; a full table; each state cancelled, and none. -/
theorem witness_query_requests :
    let s := poised .refuse
    let done := State.reset.setQuery { QueryTable.reset with
      entries := [{ kind := .subcode, frame := 5, state := .complete 3 .unreadable, passes := 3, wait := 9 }] }
    let full := State.reset.setQuery { QueryTable.reset with
      entries := (List.range 4).map (fun i =>
        { kind := .subcode, frame := BitVec.ofNat 24 i, state := .waiting, passes := 0, wait := 0 }) }
    reply s .tapeQuery [2, 0, 0, 11] = some [5] ∧
    reply s .tapeQuery [0, 0, 0, 11] = some [1, 0, 0, 0, 11, 0, 1, 1, 0, 0, 0] ∧
    reply s .tapeQuery [1, 0, 0, 11] = some [1, 1, 0, 0, 11, 1, 0, 0, 2, 0, 7] ∧
    (reply done .tapeQuery [0, 0, 0, 5]).map (fun r => (r.length, r.take 11)) =
      some (23, [0, 0, 0, 0, 5, 1, 3, 0, 9, 0, 3]) ∧
    reply s .tapeQuery [0, 0, 0, 10] = some [1, 0, 0, 0, 10, 0, 1, 1, 0, 0, 0] ∧
    reply s .tapeQuery [0, 0, 0, 12] = some [1, 0, 0, 0, 12, 0, 1, 1, 0, 0, 0] ∧
    reply s .tapeQuery [0, 0, 0, 13] = some [1, 0, 0, 0, 13, 1, 0, 0, 0, 0, 0] ∧
    reply full .tapeQuery [0, 0, 0, 4] = some [7] ∧ reply s .queryCancel [2, 0, 0, 11] = some [5] ∧
    reply s .queryCancel [0, 0, 0, 12] = some [8] ∧ reply s .queryCancel [0, 0, 0, 11] = some [0, 0] ∧
    reply s .queryCancel [1, 0, 0, 11] = some [0, 1] ∧ reply done .queryCancel [0, 0, 0, 5] = some [0, 2] ∧
    reply s .querySetup [0xFF, 0xFF] = some [0, 0xFF, 0xFF] := by decide +kernel

/-- The COMPLETE entry's record fits its kind: none where UNREADABLE, the subcode of its frame where FOUND. -/
theorem witness_record_fits :
    QueryEntry.recordFits { kind := .subcode, frame := 5, state := .complete 3 .unreadable, passes := 3, wait := 9 } ∧
    QueryEntry.recordFits { kind := .subcode, frame := 5, passes := 0, wait := 9,
                            state := .complete 3 (.found (.subcode
                              { number := 5, program := 1, take := 2, mark := .free, rate := .rate48,
                                kind := .normal, refused := false })) } := by
  constructor
  · intro age x h; cases h
  · intro age x h; cases h; exact ⟨rfl, rfl⟩

/-- QueryTimersComplete: a wait count one below the limit at a tick; at the limit the last tick found, in PLAY and
outside it; a limit lowered after that tick, which waits for the next; a limit of 0; an age of 299 at a tick, and of 300;
an empty cue list in PLAY, and an entry HELD behind a cue entry. -/
theorem witness_query_timers :
    let w (n : Nat) : QueryEntry := { kind := .subcode, frame := 3, state := .waiting, passes := 0, wait := n }
    let a (n : Nat) : QueryEntry :=
      { kind := .quality, frame := 3, state := .complete n .expired, passes := 0, wait := 8 }
    let s (limit : Nat) (es : List QueryEntry) :=
      (playing .refuse).setQuery { entries := es, limit := limit, tickLimit := limit }
    let lowered := (s 9 [w 8]).setQuery { (s 9 [w 8]).query with limit := 2 }
    (playing .refuse).engine.cues = [] ∧ (playing .refuse).pins.transport = .play ∧
    (after (.frameTick 0) (s 8 [w 7])).query.entries.map (fun e => e.state) = [.complete 0 .expired] ∧
    (after .queryWaitExpiry (s 8 [w 8])).query.entries.map (fun e => e.state) = [.complete 0 .expired] ∧
    (after .queryWaitExpiry (s 0 [w 8])).query.entries = [w 8] ∧
    (after .queryWaitExpiry ((s 8 [w 8]).setPins State.reset.pins)).query.entries = [w 8] ∧
    (after .queryWaitExpiry lowered).query.entries = [w 8] ∧
    (after (.frameTick 0) lowered).query.entries.map (fun e => e.state) = [.complete 0 .expired] ∧
    (poised .refuse).query.entries.map (fun e => e.state) = [.held 1, .waiting] ∧
    (after (.frameTick 0) (s 8 [a 299])).query.entries = [] ∧ (after .queryDiscard (s 8 [a 300])).query.entries = [] ∧
    (after .queryDiscard (s 8 [a 299])).query.entries = [a 299] := by decide +kernel

end Sys2Proof.Tests
end

section
/-! PROOFS. The tape format read back (01, 1.1 to 1.6; 04): the fields of a block and of the subcode record, the
parity groups, and the frame in assembly that any blocks of one coded frame leave. -/

namespace Sys2Proof.Machine

/-! ## Bytes -/

@[simp] theorem length_be (k n : Nat) : (be k n).length = k := by
  induction k with
  | zero => rfl
  | succ k ih => simp [be, ih]

/-- Reading the `k` low bytes of `n` behind the bytes already read. -/
theorem foldl_be (k n acc : Nat) :
    (be k n).foldl (fun acc b => acc * 256 + b.toNat) acc = acc * 256 ^ k + n % 256 ^ k := by
  induction k generalizing acc with
  | zero => simp [be, Nat.mod_one]
  | succ k ih =>
    calc (be (k + 1) n).foldl (fun acc b => acc * 256 + b.toNat) acc
        = (acc * 256 + n / 256 ^ k % 256) * 256 ^ k + n % 256 ^ k := by
          rw [be, List.foldl_cons, ih, BitVec.toNat_ofNat]
      _ = acc * 256 ^ (k + 1) + (n % 256 ^ k + 256 ^ k * (n / 256 ^ k % 256)) := by ring_nf
      _ = acc * 256 ^ (k + 1) + n % 256 ^ (k + 1) := by rw [Nat.mod_pow_succ]

/-- The `k` low bytes of `n` spell `n` modulo 256 ^ k (00_scope.md, Byte order). -/
theorem ofBe_be (k n : Nat) : ofBe (be k n) = n % 256 ^ k := by simp [ofBe, foldl_be]

/-- The three bytes of a sample or a frame number spell it. -/
theorem ofNat_ofBe_be_three (x : BitVec 24) : BitVec.ofNat 24 (ofBe (be 3 x.toNat)) = x := by
  rw [ofBe_be, Nat.mod_eq_of_lt (show x.toNat < 256 ^ 3 from x.isLt), BitVec.ofNat_toNat, BitVec.setWidth_eq]

/-- The two bytes of a word spell it. -/
theorem ofNat_ofBe_be_two (x : Word16) : BitVec.ofNat 16 (ofBe (be 2 x.toNat)) = x := by
  rw [ofBe_be, Nat.mod_eq_of_lt (show x.toNat < 256 ^ 2 from x.isLt), BitVec.ofNat_toNat, BitVec.setWidth_eq]

/-- In a run of pieces of one length `c`, piece i starts at offset c · i. -/
theorem take_drop_flatMap_range {α : Type} {c n i : Nat} {f : Nat → List α} (hf : ∀ x, (f x).length = c)
    (hi : i < n) : (((List.range n).flatMap f).drop (c * i)).take c = f i := by
  obtain ⟨m, rfl⟩ : ∃ m, n = i + (m + 1) := ⟨n - i - 1, by omega⟩
  have hlen : ((List.range i).flatMap f).length = c * i := by
    simp [List.length_flatMap, hf, Nat.mul_comm]
  rw [List.range_add, List.flatMap_append, List.drop_left' hlen, List.range_succ_eq_map, List.map_cons,
    List.flatMap_cons, List.take_left' (hf _), Nat.add_zero]

/-! ## Payloads (R6, R8, R11) -/

@[simp] theorem length_dataPayload (t : Track) (pairs : List Pair) (j : Nat) :
    (dataPayload t pairs j).length = 120 := by
  simp [dataPayload, List.length_flatMap, Config.slotsPerBlock]

/-- Place i of data block j reads back slot j + 40i (R6). -/
theorem payloadSample_dataPayload {t : Track} {pairs : List Pair} {j i : Nat} (hi : i < 40) :
    payloadSample (dataPayload t pairs j) i = slotSample t pairs (j + 40 * i) := by
  rw [payloadSample, dataPayload, Config.slotsPerBlock,
    take_drop_flatMap_range (f := fun i => be 3 (slotSample t pairs (j + Config.dataBlocks * i)).toNat)
      (fun _ => length_be 3 _) hi, ofNat_ofBe_be_three]
  rfl

@[simp] theorem length_xorBytes (a b : List Byte) : (xorBytes a b).length = min a.length b.length := by
  simp [xorBytes]

@[simp] theorem length_parityPayload (t : Track) (pairs : List Pair) (g : Nat) :
    (parityPayload t pairs g).length = 120 := by
  simp [parityPayload]

@[simp] theorem length_subcodePayload (r : Subcode) : (subcodePayload r).length = 120 := by
  simp [subcodePayload, subcodeBytes, frameBytes, bit]

@[simp] theorem length_payloadAt (t : Track) (pairs : List Pair) (r : Subcode) (p : Nat) :
    (payloadAt t pairs r p).length = 120 := by
  unfold payloadAt
  split
  · exact length_dataPayload ..
  · split
    · exact length_parityPayload ..
    · exact length_subcodePayload r

theorem payloadAt_data {t : Track} {pairs : List Pair} {r : Subcode} {j : Nat} (h : j < 40) :
    payloadAt t pairs r j = dataPayload t pairs j := if_pos h

theorem payloadAt_parity {t : Track} {pairs : List Pair} {r : Subcode} {g : Nat} (h : g < 10) :
    payloadAt t pairs r (g + 40) = parityPayload t pairs g := by
  rw [payloadAt, if_neg (by omega), if_pos (by omega), Nat.add_sub_cancel]

theorem markOfCode_be (m : Mark) : be 1 (markCode m) = [BitVec.ofNat 8 (markCode m)]
    ∧ markOfCode (BitVec.ofNat 8 (markCode m)) = some m := by
  cases m <;> decide

theorem rateOfCode_be (x : Rate) : be 1 (rateCode x) = [BitVec.ofNat 8 (rateCode x)]
    ∧ rateOfCode (BitVec.ofNat 8 (rateCode x)) = some x := by
  cases x <;> decide

theorem kindOfCode_be (k : FrameKind) : be 1 (frameKindCode k) = [BitVec.ofNat 8 (frameKindCode k)]
    ∧ kindOfCode (BitVec.ofNat 8 (frameKindCode k)) = some k := by
  cases k <;> decide

theorem boolOfCode_bit (b : Bool) : ∃ c, bit b = [c] ∧ boolOfCode c = some b :=
  ⟨_, rfl, by cases b <;> decide⟩

theorem frameOfBytes_be (n : FrameNo) : ∃ a b c, be 3 n.toNat = [a, b, c] ∧ frameOfBytes a b c = n :=
  ⟨_, _, _, rfl, ofNat_ofBe_be_three n⟩

theorem word16OfBytes_be (x : Word16) : ∃ a b, be 2 x.toNat = [a, b] ∧ word16OfBytes a b = x :=
  ⟨_, _, rfl, ofNat_ofBe_be_two x⟩

/-- A subcode record within its ranges is read back from its payload (R11, R12). -/
theorem parseSubcode_subcodePayload {r : Subcode} (h : r.program.toNat ≤ 999) :
    parseSubcode (subcodePayload r) = some r := by
  obtain ⟨n0, n1, n2, hn, hnumber⟩ := frameOfBytes_be r.number
  obtain ⟨p0, p1, hp, hprogram⟩ := word16OfBytes_be r.program
  obtain ⟨t0, t1, ht, htake⟩ := word16OfBytes_be r.take
  obtain ⟨hm, hmark⟩ := markOfCode_be r.mark
  obtain ⟨hr, hrate⟩ := rateOfCode_be r.rate
  obtain ⟨hk, hkind⟩ := kindOfCode_be r.kind
  obtain ⟨f, hf, hrefused⟩ := boolOfCode_bit r.refused
  simp [subcodePayload, subcodeBytes, frameBytes, hn, hp, ht, hm, hr, hk, hf, parseSubcode, hnumber, hprogram,
    htake, hmark, hrate, hkind, hrefused, h]

/-! ## Blocks (R2 to R4) -/

theorem trackOfCode_trackCode (t : Track) : trackOfCode (trackCode t) = some t := by
  cases t <;> decide

/-- A block as written is usable, and reads back as its header and payload (R2 to R4). -/
theorem parseBlock_blockBytes {t : Track} {p : Nat} {tag : Word16} {payload : List Byte} (hp : p < 51)
    (hl : payload.length = 120) : parseBlock (blockBytes t p tag payload) = some ⟨t, p, tag, payload⟩ := by
  obtain ⟨g0, g1, hg, htag⟩ := word16OfBytes_be tag
  have hcovered : (trackCode t :: BitVec.ofNat 8 p :: g0 :: g1 :: payload).length = 124 := by simp [hl]
  have hpos : (BitVec.ofNat 8 p).toNat = p := by
    rw [BitVec.toNat_ofNat]
    omega
  unfold parseBlock blockBytes
  simp only [hg, List.cons_append, List.nil_append]
  rw [← List.cons_append, ← List.cons_append, ← List.cons_append, ← List.cons_append,
    List.take_left' hcovered, List.drop_left' hcovered]
  simp [hl, Config.blockBytes, Config.positions, trackOfCode_trackCode, hpos, hp, htag]

/-! ## Write order (R14) -/

/-- The place in write order of a position of a track. -/
def writeIndex (t : Track) (p : Nat) : Nat := (if t = .a then 0 else 51) + p

/-- The positions of a track follow one another in write order. -/
theorem exists_writeIndex_eq (t : Track) : ∃ base ≤ 51, ∀ p, writeIndex t p = base + p := by
  cases t
  · exact ⟨0, by decide, fun _ => rfl⟩
  · exact ⟨51, le_rfl, fun _ => rfl⟩

/-- The track of a place in write order. -/
def trackAt (n : Nat) : Track := if n < 51 then .a else .b

/-- The position of a place in write order. -/
def positionAt (n : Nat) : Nat := n % 51

/-- The block of a coded frame at a place in write order. -/
def blockAt (pairs : List Pair) (r : Subcode) (n : Nat) : List Byte :=
  blockBytes (trackAt n) (positionAt n) (tagOf r.number) (payloadAt (trackAt n) pairs r (positionAt n))

/-- The places 0 to 101 stand for the track and position pairs, each once. -/
theorem at_iff_writeIndex {n p : Nat} {t : Track} (hn : n < 102) (hp : p < 51) :
    trackAt n = t ∧ positionAt n = p ↔ n = writeIndex t p := by
  unfold trackAt positionAt writeIndex
  cases t
  · simp
    omega
  · simp
    omega

theorem writeIndex_lt (t : Track) {p : Nat} (hp : p < 51) : writeIndex t p < 102 := by
  obtain ⟨base, hbase, hindex⟩ := exists_writeIndex_eq t
  rw [hindex]
  omega

theorem blockAt_writeIndex {pairs : List Pair} {r : Subcode} {t : Track} {p : Nat} (hp : p < 51) :
    blockAt pairs r (writeIndex t p) = blockBytes t p (tagOf r.number) (payloadAt t pairs r p) := by
  obtain ⟨ht, hp⟩ := (at_iff_writeIndex (writeIndex_lt t hp) hp).mpr rfl
  rw [blockAt, ht, hp]

/-- A coded frame is its blocks in write order. -/
theorem codeFrame_eq (pairs : List Pair) (r : Subcode) :
    codeFrame pairs r = (List.range 102).map (blockAt pairs r) := by
  have horder : List.range 102 = [Track.a, Track.b].flatMap (fun t => (List.range 51).map (writeIndex t)) := by decide
  rw [codeFrame, horder, List.map_flatMap]
  congr 1
  funext t
  rw [List.map_map]
  exact List.map_congr_left fun p hp => (blockAt_writeIndex (List.mem_range.mp hp)).symm

/-! ## Blocks taken one by one (R51, R53) -/

/-- With no PART RESET due, BLOCK_ARRIVAL gathers the block and has it judged. -/
theorem exec_blockArrival {s : State} (hd : s.link.resetDue = false) (h : Head) (bytes : List Byte) :
    exec (.blockArrival h bytes) s = .next (blockArrival h bytes s) := by
  show execBlockArrival h bytes s = _
  rw [execBlockArrival, settled_eq hd]

/-- Blocks that arrive one after the other at a head are judged one after the other. -/
theorem runCommands_blockArrivals {s : State} (hd : s.link.resetDue = false) (h : Head) (bs : List (List Byte)) :
    ∃ t, runCommands (bs.map (Instr.blockArrival h)) s = .next t
      ∧ t.decoder.assembly.get h = bs.foldl judgeBlock (s.decoder.assembly.get h) := by
  induction bs generalizing s with
  | nil => exact ⟨s, rfl, rfl⟩
  | cons b bs ih =>
    obtain ⟨t, hrun, hasm⟩ := ih (s := blockArrival h b s) (by simpa [blockArrival] using hd)
    refine ⟨t, ?_, ?_⟩
    · rw [List.map_cons, runCommands, exec_blockArrival hd]
      exact hrun
    · rw [hasm]
      simp [blockArrival]

/-- The frame in assembly that holds the blocks of one coded frame at the places `places` of its write order. -/
def assemblyOf (pairs : List Pair) (r : Subcode) (places : List Nat) : Assembly :=
  { tag := if places = [] then none else some (tagOf r.number)
    places := places.map (fun n =>
      { track := trackAt n, position := positionAt n, payload := payloadAt (trackAt n) pairs r (positionAt n) })
    foreign := 0 }

section AssemblyOf
variable {pairs : List Pair} {r : Subcode} {places : List Nat}

/-- A position is filled, with its own payload, exactly when its place in write order is among those held. -/
theorem placeOf_assemblyOf (hplaces : ∀ n ∈ places, n < 102) {t : Track} {p : Nat} (hp : p < 51) :
    placeOf (assemblyOf pairs r places) t p
      = if writeIndex t p ∈ places then some (payloadAt t pairs r p) else none := by
  induction places with
  | nil => rfl
  | cons n places ih =>
    have hiff := at_iff_writeIndex (t := t) (hplaces n List.mem_cons_self) hp
    have ih := ih (fun m hm => hplaces m (List.mem_cons_of_mem n hm))
    simp only [placeOf, assemblyOf, List.map_cons, List.find?_cons] at ih ⊢
    by_cases hn : n = writeIndex t p
    · obtain ⟨ht, hp⟩ := hiff.mpr hn
      simp [ht, hp, ← hn]
    · have hne : (trackAt n == t && positionAt n == p) = false := by
        rw [Bool.eq_false_iff]
        simpa using fun ht hp => hn (hiff.mp ⟨ht, hp⟩)
      rw [hne]
      simpa [List.mem_cons, Ne.symm hn] using ih

/-- The next block of the frame, at a place not yet held, is placed. -/
theorem judgeBlock_assemblyOf (hplaces : ∀ n ∈ places, n < 102) {n : Nat} (hn : n < 102) (hnew : n ∉ places) :
    judgeBlock (assemblyOf pairs r places) (blockAt pairs r n) = assemblyOf pairs r (places ++ [n]) := by
  have hpos : positionAt n < 51 := Nat.mod_lt _ (by decide)
  have hempty : placeOf (assemblyOf pairs r places) (trackAt n) (positionAt n) = none := by
    rw [placeOf_assemblyOf hplaces hpos, ← (at_iff_writeIndex hn hpos).mp ⟨rfl, rfl⟩, if_neg hnew]
  rw [judgeBlock, blockAt, parseBlock_blockBytes hpos (length_payloadAt ..)]
  by_cases hfirst : places = []
  · simp [hfirst, assemblyOf, Assembly.place]
  · simp only [hempty]
    simp [hfirst, assemblyOf, Assembly.place]

/-- Distinct blocks of one coded frame, judged in any order on an empty frame in assembly, are all placed. -/
theorem foldl_judgeBlock_blockAt (hplaces : ∀ n ∈ places, n < 102) (hnodup : places.Nodup) :
    (places.map (blockAt pairs r)).foldl judgeBlock Assembly.empty = assemblyOf pairs r places := by
  induction places using List.reverseRecOn with
  | nil => rfl
  | append_singleton places n ih =>
    have hheld : ∀ m ∈ places, m < 102 := fun m hm => hplaces m (List.mem_append_left [n] hm)
    obtain ⟨hnodup, -, hdisjoint⟩ := List.nodup_append.mp hnodup
    rw [List.map_append, List.foldl_append, ih hheld hnodup]
    exact judgeBlock_assemblyOf hheld (hplaces n (by simp)) (fun hn => hdisjoint n hn n (by simp) rfl)

/-! ## Recovery (R8, R9) -/

theorem mem_groupOthers {j q : Nat} : q ∈ groupOthers j ↔ q ≠ j ∧ q % 10 = j % 10 ∧ q < 50 := by
  simp only [groupOthers, List.mem_filter, List.mem_cons, List.not_mem_nil, or_false, bne_iff_ne]
  omega

theorem xorBytes_comm (a b : List Byte) : xorBytes a b = xorBytes b a :=
  List.zipWith_comm_of_comm BitVec.xor_comm

theorem xorBytes_assoc (a b c : List Byte) : xorBytes (xorBytes a b) c = xorBytes a (xorBytes b c) := by
  apply List.ext_getElem
  · simp [Nat.min_assoc]
  · intro i _ _
    simp [xorBytes, BitVec.xor_assoc]

theorem xorBytes_left_comm (a b c : List Byte) : xorBytes a (xorBytes b c) = xorBytes b (xorBytes a c) := by
  rw [← xorBytes_assoc, xorBytes_comm a b, xorBytes_assoc]

/-- A payload XORed twice into another of its length leaves that one. -/
theorem xorBytes_cancel {a b : List Byte} (h : b.length = a.length) : xorBytes b (xorBytes b a) = a := by
  apply List.ext_getElem
  · simp [h]
  · intro i _ _
    simp [xorBytes]

/-- When `p` is the exclusive OR of four payloads, any one of the four is that of `p` and the other three (R8). -/
theorem xorAll_of_parity {a b c d p : List Byte} (hb : b.length = a.length) (hc : c.length = a.length)
    (hd : d.length = a.length) (hp : p = xorBytes a (xorBytes b (xorBytes c d))) : xorAll [b, c, d, p] = a :=
  calc xorBytes (xorBytes (xorBytes b c) d) p
      = xorBytes b (xorBytes b (xorBytes c (xorBytes c (xorBytes d (xorBytes d a))))) := by
        simp only [hp, xorBytes_comm, xorBytes_left_comm]
    _ = a := by rw [xorBytes_cancel hd, xorBytes_cancel hc, xorBytes_cancel hb]

/-- The other members of a group, for each of its four data positions. -/
theorem groupOthers_of_group : ∀ g < 10,
    groupOthers g = [g + 10, g + 20, g + 30, g + 40] ∧ groupOthers (g + 10) = [g, g + 20, g + 30, g + 40] ∧
    groupOthers (g + 20) = [g, g + 10, g + 30, g + 40] ∧ groupOthers (g + 30) = [g, g + 10, g + 20, g + 40] := by
  decide

/-- A data block's payload, those of the group's other three data blocks, and the parity that ties them (R8). -/
theorem exists_group_of_data (t : Track) (pairs : List Pair) {j : Nat} (hj : j < 40) :
    ∃ a < 40, ∃ b < 40, ∃ c < 40, groupOthers j = [a, b, c, j % 10 + 40] ∧
      parityPayload t pairs (j % 10) = xorBytes (dataPayload t pairs j)
        (xorBytes (dataPayload t pairs a) (xorBytes (dataPayload t pairs b) (dataPayload t pairs c))) := by
  obtain ⟨g, hg, hmod, hmember⟩ : ∃ g < 10, j % 10 = g ∧ (j = g ∨ j = g + 10 ∨ j = g + 20 ∨ j = g + 30) :=
    ⟨j % 10, by omega, rfl, by omega⟩
  obtain ⟨h0, h10, h20, h30⟩ := groupOthers_of_group g hg
  rw [hmod, parityPayload]
  obtain rfl | rfl | rfl | rfl := hmember
  · exact ⟨_, by omega, _, by omega, _, by omega, h0, xorBytes_assoc ..⟩
  · exact ⟨_, by omega, _, by omega, _, by omega, h10, by rw [xorBytes_assoc, xorBytes_left_comm]⟩
  · exact ⟨_, by omega, _, by omega, _, by omega, h20, by simp only [xorBytes_comm, xorBytes_left_comm]⟩
  · exact ⟨_, by omega, _, by omega, _, by omega, h30, by simp only [xorBytes_comm, xorBytes_left_comm]⟩

/-- The exclusive OR of the other four payloads of a data block's group is its own payload (R8). -/
theorem xorAll_groupOthers {t : Track} {pairs : List Pair} {r : Subcode} {j : Nat} (hj : j < 40) :
    xorAll ((groupOthers j).map (payloadAt t pairs r)) = dataPayload t pairs j := by
  obtain ⟨a, ha, b, hb, c, hc, hothers, hparity⟩ := exists_group_of_data t pairs hj
  rw [hothers, List.map_cons, List.map_cons, List.map_cons, List.map_singleton, payloadAt_data ha,
    payloadAt_data hb, payloadAt_data hc, payloadAt_parity (Nat.mod_lt j (by decide))]
  exact xorAll_of_parity (by simp) (by simp) (by simp) hparity

/-- Every member is found, or the whole list is given up. -/
theorem mapM_ite {α β : Type} {f : α → Option β} {g : α → β} {P : α → Prop} [DecidablePred P] {l : List α}
    (h : ∀ x ∈ l, f x = if P x then some (g x) else none) :
    l.mapM f = if ∀ x ∈ l, P x then some (l.map g) else none := by
  induction l with
  | nil => simp
  | cons x l ih =>
    rw [List.mapM_cons, h x List.mem_cons_self, ih (fun y hy => h y (List.mem_cons_of_mem x hy))]
    by_cases hx : P x
    · by_cases hl : ∀ y ∈ l, P y
      · rw [if_pos hx, if_pos hl, if_pos (List.forall_mem_cons.mpr ⟨hx, hl⟩)]
        rfl
      · rw [if_pos hx, if_neg hl, if_neg (fun h => hl (List.forall_mem_cons.mp h).2)]
        rfl
    · rw [if_neg hx, if_neg (fun h => hx (List.forall_mem_cons.mp h).1)]
      rfl

/-- A data block of the frame is read back when it is held, or when all the others of its group are (R9). -/
theorem dataBlock_assemblyOf (hplaces : ∀ n ∈ places, n < 102) {t : Track} {j : Nat} (hj : j < 40) :
    dataBlock (assemblyOf pairs r places) t j
      = if writeIndex t j ∈ places ∨ ∀ q ∈ groupOthers j, writeIndex t q ∈ places
        then some (dataPayload t pairs j) else none := by
  have hothers : ∀ q ∈ groupOthers j, placeOf (assemblyOf pairs r places) t q
      = if writeIndex t q ∈ places then some (payloadAt t pairs r q) else none := by
    intro q hq
    obtain ⟨-, -, hq⟩ := mem_groupOthers.mp hq
    exact placeOf_assemblyOf hplaces (by omega)
  rw [dataBlock, placeOf_assemblyOf hplaces (by omega), mapM_ite hothers]
  by_cases hheld : writeIndex t j ∈ places
  · simp [hheld, payloadAt_data hj]
  · simp only [hheld, if_false, false_or]
    split
    · simp [xorAll_groupOthers hj]
    · rfl

/-- A track's subcode qualifies exactly when its block is held (R12, R57). -/
theorem qualifying_assemblyOf (hplaces : ∀ n ∈ places, n < 102) (hprogram : r.program.toNat ≤ 999) (t : Track) :
    qualifying (assemblyOf pairs r places) t = if writeIndex t 50 ∈ places then some r else none := by
  rw [qualifying, goodSubcode, placeOf_assemblyOf hplaces (by decide)]
  by_cases hheld : writeIndex t 50 ∈ places
  · have htag : (assemblyOf pairs r places).tag = some (tagOf r.number) := if_neg (List.ne_nil_of_mem hheld)
    have hpayload : payloadAt t pairs r 50 = subcodePayload r := rfl
    simp [hheld, htag, hpayload, parseSubcode_subcodePayload hprogram]
  · simp [hheld]

/-- With the subcode block of either track held, the frame's own subcode is used (R57). -/
theorem chooseSubcode_assemblyOf (hplaces : ∀ n ∈ places, n < 102) (hprogram : r.program.toNat ≤ 999)
    (hheld : writeIndex .a 50 ∈ places ∨ writeIndex .b 50 ∈ places) :
    (chooseSubcode (assemblyOf pairs r places)).1 = some r := by
  rw [chooseSubcode, qualifying_assemblyOf hplaces hprogram, qualifying_assemblyOf hplaces hprogram]
  by_cases ha : writeIndex .a 50 ∈ places
  · simp [ha]
  · simp [ha, hheld.resolve_left ha]

end AssemblyOf

/-! ## Samples (R5, R6, R60) -/

theorem trackOfL_ne_trackOfR (n : Nat) : trackOfL n ≠ trackOfR n := by
  unfold trackOfL trackOfR
  split <;> decide

theorem ite_dataTrack (a : Assembly) (t : Track) :
    (if t = .a then dataTrack a .a else dataTrack a .b) = dataTrack a t := by
  cases t <;> rfl

section WholeTracks
variable {a : Assembly} {pairs : List Pair}
  (hdata : ∀ t, ∀ j < 40, dataBlock a t j = some (dataPayload t pairs j))
include hdata

theorem lostCount_eq_zero : lostCount a = 0 := by
  have hfilled : ∀ t, (List.range 40).countP (fun j => (dataBlock a t j).isNone) = 0 := by
    intro t
    rw [List.countP_eq_zero]
    intro j hj
    simp [hdata t j (List.mem_range.mp hj)]
  simp [lostCount, Config.dataBlocks, hfilled]

/-- With every data block of a track at hand, each slot reads back its sample. -/
theorem slotValue_dataTrack (t : Track) {n : Nat} (hn : n < 1600) :
    slotValue (dataTrack a t) n = some (slotSample t pairs n) := by
  have hblock : (dataTrack a t)[n % 40]? = some (some (dataPayload t pairs (n % 40))) := by
    have hj : n % 40 < 40 := Nat.mod_lt n (by decide)
    simp [dataTrack, Config.dataBlocks, hj, hdata t _ hj]
  rw [slotValue, Config.dataBlocks, hblock]
  simp [payloadSample_dataPayload (show n / 40 < 40 by omega), Nat.mod_add_div]

/-- With every data block at hand, the frame's samples are the pairs as written (R5). -/
theorem frameSamples_eq (hlen : pairs.length ≤ 1600) :
    frameSamples pairs.length a = ⟨pairs.map (fun p => some p.l), pairs.map (fun p => some p.r)⟩ := by
  have hchannel (track : Nat → Track) (channel : Pair → Sample)
      (hcarried : ∀ n p, (if trackOfL n = track n then p.l else p.r) = channel p) :
      (List.range pairs.length).map (fun n =>
          slotValue (if track n = .a then dataTrack a .a else dataTrack a .b) n)
        = pairs.map (fun p => some (channel p)) := by
    refine List.ext_getElem (by simp) fun n hn _ => ?_
    rw [List.length_map, List.length_range] at hn
    rw [List.getElem_map, List.getElem_map, List.getElem_range, ite_dataTrack,
      slotValue_dataTrack hdata _ (by omega), slotSample, List.getElem?_eq_getElem hn, ← hcarried n]
  rw [frameSamples, hchannel trackOfL Pair.l (by simp), hchannel trackOfR Pair.r (by simp [trackOfL_ne_trackOfR])]

end WholeTracks

/-! ## Bursts (R10) -/

/-- The places in write order that a burst of `k` blocks from place `i` spares. -/
def spared (i k : Nat) : List Nat := (List.range 102).take i ++ (List.range 102).drop (i + k)

theorem mem_spared {i k n : Nat} : n ∈ spared i k ↔ n < 102 ∧ (n < i ∨ i + k ≤ n) := by
  rw [spared, List.take_range, List.mem_append, List.mem_range, List.range_eq_range', List.drop_range',
    List.mem_range'_1]
  omega

theorem spared_lt {i k : Nat} : ∀ n ∈ spared i k, n < 102 := fun _ hn => (mem_spared.mp hn).1

theorem nodup_spared (i k : Nat) : (spared i k).Nodup := by
  have hsub : (spared i k).Sublist (List.range 102) := by
    rw [← List.take_append_drop i (List.range 102)]
    exact (List.Sublist.refl _).append (List.drop_sublist_drop_left _ (Nat.le_add_right i k))
  exact List.nodup_range.sublist hsub

/-- A coded frame read with a burst of `k` blocks missing leaves the blocks that the burst spares. -/
theorem runCommands_spared {s : State} {h : Head} (hd : s.link.resetDue = false)
    (hempty : s.decoder.assembly.get h = Assembly.empty) (pairs : List Pair) (r : Subcode) (i k : Nat) :
    ∃ t, runCommands (((codeFrame pairs r).take i ++ (codeFrame pairs r).drop (i + k)).map
        (Instr.blockArrival h)) s = .next t ∧ t.decoder.assembly.get h = assemblyOf pairs r (spared i k) := by
  have hblocks : (codeFrame pairs r).take i ++ (codeFrame pairs r).drop (i + k)
      = (spared i k).map (blockAt pairs r) := by
    rw [codeFrame_eq, spared, List.map_append, List.map_take, List.map_drop]
  rw [hblocks]
  obtain ⟨t, hrun, hasm⟩ := runCommands_blockArrivals hd h ((spared i k).map (blockAt pairs r))
  exact ⟨t, hrun, by rw [hasm, hempty, foldl_judgeBlock_blockAt spared_lt (nodup_spared i k)]⟩

/-- Ten consecutive positions hold one member of each group at most. -/
theorem mod_ten_ne {p x y : Nat} (hp : p ≤ x) (hxy : x < y) (hy : y < p + 10) : x % 10 ≠ y % 10 := by omega

/-- After a burst of up to ten blocks every data block is at hand, as placed or rebuilt. -/
theorem dataBlock_after_ten {pairs : List Pair} {r : Subcode} {i k : Nat} (hk : k ≤ 10) (t : Track) :
    ∀ j < 40, dataBlock (assemblyOf pairs r (spared i k)) t j = some (dataPayload t pairs j) := by
  intro j hj
  rw [dataBlock_assemblyOf spared_lt hj, if_pos]
  by_cases hheld : writeIndex t j ∈ spared i k
  · exact .inl hheld
  · refine .inr fun q hq => ?_
    obtain ⟨hne, hgroup, hq⟩ := mem_groupOthers.mp hq
    obtain ⟨base, hbase, hindex⟩ := exists_writeIndex_eq t
    rw [mem_spared, hindex] at hheld ⊢
    omega

/-- A burst of up to ten blocks spares one of the two subcode blocks, which stand 51 places apart (R13). -/
theorem subcode_spared {i k : Nat} (hk : k ≤ 10) :
    writeIndex .a 50 ∈ spared i k ∨ writeIndex .b 50 ∈ spared i k := by
  have ha : writeIndex .a 50 = 50 := rfl
  have hb : writeIndex .b 50 = 101 := rfl
  rw [mem_spared, mem_spared, ha, hb]
  omega

/-- A burst of eleven blocks from position p of a track costs the data blocks p and p + 10, and no other. -/
theorem dataBlock_after_eleven {pairs : List Pair} {r : Subcode} {t : Track} {p : Nat} (hp : p ≤ 40) {j : Nat}
    (hj : j < 40) :
    dataBlock (assemblyOf pairs r (spared (writeIndex t p) 11)) t j = none ↔ (j = p ∨ j = p + 10) := by
  obtain ⟨base, hbase, hindex⟩ := exists_writeIndex_eq t
  have hmem : ∀ q < 51, writeIndex t q ∈ spared (writeIndex t p) 11 ↔ q < p ∨ p + 11 ≤ q := by
    intro q hq
    rw [mem_spared, hindex, hindex]
    omega
  rw [dataBlock_assemblyOf spared_lt hj, ite_eq_right_iff, imp_iff_not (Option.some_ne_none _), not_or,
    hmem j (by omega)]
  constructor
  · rintro ⟨hlost, hothers⟩
    push Not at hothers
    obtain ⟨q, hq, hqlost⟩ := hothers
    obtain ⟨hne, hgroup, hq⟩ := mem_groupOthers.mp hq
    rw [hmem q (by omega)] at hqlost
    omega
  · intro hend
    have hlost (q : Nat) (hq : q < 51) (hend : q = p ∨ q = p + 10) :
        writeIndex t q ∉ spared (writeIndex t p) 11 := by
      rw [hmem q hq]
      omega
    refine ⟨by omega, fun hothers => ?_⟩
    obtain rfl | rfl := hend
    · exact hlost (j + 10) (by omega) (.inr rfl) (hothers _ (mem_groupOthers.mpr (by omega)))
    · exact hlost p (by omega) (.inl rfl) (hothers _ (mem_groupOthers.mpr (by omega)))

theorem spf_le (x : Rate) : spf x ≤ 1600 := by cases x <;> decide

/-- Settles O44: the group of a position is its remainder by ten, so that a burst of ten meets each group once, and one
of eleven meets the group of its two ends twice. -/
theorem burstOfTenBlocksIsRepaired : Obligations.BurstOfTenBlocksIsRepaired := by
  refine ⟨fun p x y => mod_ten_ne, ?_, ?_⟩
  · intro s h pairs r i k hd hempty hlen hprogram hk
    obtain ⟨t, hrun, hasm⟩ := runCommands_spared hd hempty pairs r i k
    have hdata := dataBlock_after_ten (pairs := pairs) (r := r) (i := i) hk
    refine ⟨t, hrun, ?_⟩
    simp only [hasm, ← hlen]
    exact ⟨chooseSubcode_assemblyOf spared_lt hprogram (subcode_spared hk), lostCount_eq_zero hdata,
      frameSamples_eq hdata (hlen ▸ spf_le _)⟩
  · intro s h pairs r track p hd hempty hp
    obtain ⟨t, hrun, hasm⟩ := runCommands_spared hd hempty pairs r (writeIndex track p) 11
    exact ⟨t, hrun, fun j hj => hasm ▸ dataBlock_after_eleven hp hj⟩

end Sys2Proof.Machine
end

section
/-! PROOFS. The position unit's requests at service (06: R97, R98, R102): POSITION READ, GPI SETUP, MARK READ. -/

namespace Sys2Proof.Machine

/-! ## Service -/

/-- A request that comes up for service is served from the state as it stands. -/
theorem service_settled_serves {s : State} {r : LinkRequest} (h : Serves s r) {k : RequestKind} (hk : r.kind = k)
    (serve : List Byte → State → Served) : service k serve (settled s) = serveRequest serve r s := by
  rw [settled_eq h.settled, service_serves h hk]

section Rows
variable {s : State} {r : LinkRequest} (h : Serves s r)
include h

theorem exec_positionRead_serves (hk : r.kind = .positionRead) :
    exec .positionRead s = .next (serveRequest servePositionRead r s) :=
  congrArg _ (service_settled_serves h hk servePositionRead)

theorem exec_gpiSetup_serves (hk : r.kind = .gpiSetup) :
    exec .gpiSetup s = .next (serveRequest serveGpiSetup r s) :=
  congrArg _ (service_settled_serves h hk serveGpiSetup)

theorem exec_markRead_serves (hk : r.kind = .markRead) :
    exec .markRead s = .next (serveRequest serveMarkRead r s) :=
  congrArg _ (service_settled_serves h hk serveMarkRead)

end Rows

/-! ## Reply fields -/

/-- A field of one byte holds its number modulo 256. -/
theorem be_one (n : Nat) : be 1 n = [BitVec.ofNat 8 n] := by simp [be]

@[simp] theorem length_bit (b : Bool) : (bit b).length = 1 := rfl

/-- An optional field is as long when absent as when present (R17). -/
theorem length_optField {k : Nat} {o : Option (List Byte)} (h : ∀ bs ∈ o, bs.length = k) :
    (optField k o).length = k + 1 := by
  cases o with
  | none => simp [optField]
  | some bs => simp [optField, h bs rfl]

@[simp] theorem length_optFrame (o : Option FrameNo) : (optFrame o).length = 4 :=
  length_optField (by simp [frameBytes])

/-! ## Request codes (R98) -/

theorem lineOfCode_of_lt {b : Byte} (h : b.toNat < 4) : lineOfCode b = some ⟨b.toNat, h⟩ := dif_pos h

theorem lineOfCode_of_not_lt {b : Byte} (h : ¬ b.toNat < 4) : lineOfCode b = none := dif_neg h

theorem gpiFunctionOfCode_eq (b : Byte) :
    gpiFunctionOfCode b = if b.toNat ≤ 3 then
      some (if b = 0 then .off else if b = 1 then .mark else if b = 2 then .arm else .abort) else none := by
  simp only [gpiFunctionOfCode, ← BitVec.toNat_inj]
  grind

theorem gpiDetectionOfCode_eq (b : Byte) :
    gpiDetectionOfCode b = if b.toNat ≤ 1 then some (if b = 0 then .edge else .level) else none := by
  simp only [gpiDetectionOfCode, ← BitVec.toNat_inj]
  grind

theorem depthOfCode_eq (b : Byte) :
    depthOfCode b = if 1 ≤ b.toNat ∧ b.toNat ≤ 2 then some b.toNat else none := by
  simp only [depthOfCode, ← BitVec.toNat_inj]
  grind

theorem boolOfCode_eq (b : Byte) : boolOfCode b = if b.toNat ≤ 1 then some (b == 1) else none := by
  by_cases hfalse : b = 0
  · subst hfalse
    rfl
  · by_cases htrue : b = 1
    · subst htrue
      rfl
    · rw [boolOfCode, if_neg hfalse, if_neg htrue, if_neg (by bv_omega)]

/-! ## GPI SETUP and MARK READ served -/

/-- GPI SETUP with each field in its range configures the line. -/
theorem serveGpiSetup_served {line fn dt depth clear : Byte} (hline : line.toNat < 4) (hfn : fn.toNat ≤ 3)
    (hdt : dt.toNat ≤ 1) (hdepth : 1 ≤ depth.toNat ∧ depth.toNat ≤ 2) (hclear : clear.toNat ≤ 1) (s : State) :
    serveGpiSetup [line, fn, dt, depth, clear] s = served (setLine ⟨line.toNat, hline⟩
      { function := if fn = 0 then .off else if fn = 1 then .mark else if fn = 2 then .arm else .abort
        detection := if dt = 0 then .edge else .level
        depth := depth.toNat
        clearOnStop := clear == 1
        queue := []
        overwrite := false } s) [] := by
  simp only [serveGpiSetup, lineOfCode_of_lt hline, gpiFunctionOfCode_eq, gpiDetectionOfCode_eq, depthOfCode_eq,
    boolOfCode_eq, if_pos hfn, if_pos hdt, if_pos hdepth, if_pos hclear]

/-- GPI SETUP with a field out of its range is turned away. -/
theorem serveGpiSetup_turnedAway {line fn dt depth clear : Byte}
    (h : ¬ (line.toNat < 4 ∧ fn.toNat ≤ 3 ∧ dt.toNat ≤ 1 ∧ 1 ≤ depth.toNat ∧ depth.toNat ≤ 2 ∧ clear.toNat ≤ 1))
    (s : State) : serveGpiSetup [line, fn, dt, depth, clear] s = turnedAway s .badValue := by
  simp only [serveGpiSetup, lineOfCode, gpiFunctionOfCode_eq, gpiDetectionOfCode_eq, depthOfCode_eq, boolOfCode_eq]
  split
  next hline hfn hdt hdepth hclear =>
    have hline := (Option.dite_none_right_eq_some.mp hline).1
    have hfn := (Option.ite_none_right_eq_some.mp hfn).1
    have hdt := (Option.ite_none_right_eq_some.mp hdt).1
    obtain ⟨hleast, hmost⟩ := (Option.ite_none_right_eq_some.mp hdepth).1
    have hclear := (Option.ite_none_right_eq_some.mp hclear).1
    exact absurd ⟨hline, hfn, hdt, hleast, hmost, hclear⟩ h
  next => rfl

/-- MARK READ of a MARK line takes the oldest mark and clears the flag, also when the queue was empty. -/
theorem serveMarkRead_served {line : Byte} (hline : line.toNat < 4) {s : State} {l : GpiLine}
    (hl : s.position.gpi[line.toNat] = l) (hmark : l.function = .mark) :
    serveMarkRead [line] s = served
      (setLine ⟨line.toNat, hline⟩ { l with queue := l.queue.tail, overwrite := false } s)
      (optField 6 (l.queue.head?.map gpiBytes) ++ be 1 l.queue.tail.length ++ bit l.overwrite) := by
  subst hl
  simp only [serveMarkRead, lineOfCode_of_lt hline, Fin.getElem_fin, if_pos hmark]

/-- MARK READ of a line that is not a MARK line is turned away. -/
theorem serveMarkRead_state {line : Byte} (hline : line.toNat < 4) {s : State}
    (hmark : s.position.gpi[line.toNat].function ≠ .mark) : serveMarkRead [line] s = turnedAway s .state := by
  simp only [serveMarkRead, lineOfCode_of_lt hline, Fin.getElem_fin, if_neg hmark]

/-- MARK READ of no line is turned away. -/
theorem serveMarkRead_badValue {line : Byte} (hline : ¬ line.toNat < 4) (s : State) :
    serveMarkRead [line] s = turnedAway s .badValue := by
  simp only [serveMarkRead, lineOfCode_of_not_lt hline]

/-- Settles O51: each request is served from the state as it stands, by the branch of its rule that its fields pick. -/
theorem positionRequestsServed : Obligations.PositionRequestsServed := by
  refine ⟨rfl, rfl, rfl, ?_, ?_, ?_⟩
  · intro s r h hk hp
    refine ⟨_, by rw [exec_positionRead_serves h hk, serveRequest_served (by rw [hp]; rfl)], ?_, ?_⟩
    · have hcount : ∀ bs ∈ (if s.pins.transport = .play then
          some (be 2 (min s.sampleCount (spf s.input.rate - 1))) else none), bs.length = 2 := by
        intro bs hbs
        obtain ⟨-, hbs⟩ := Option.ite_none_right_eq_some.mp hbs
        exact Option.some_inj.mp hbs ▸ length_be 2 _
      simp [frameBytes, length_optField hcount, gpiLines]
    · -- byte by byte, once the coded fields and the presence byte are known
      cases s.pins.transport <;> cases s.position.lock <;> cases s.position.last <;>
        simp [be_one, frameBytes, optField, optFrame, lockCode, transportCode, gpiLines, bit]
  · intro s r line fn dt depth clear h hk hp
    rw [exec_gpiSetup_serves h hk]
    split
    next hrange =>
      obtain ⟨hline, hfn, hdt, hleast, hmost, hclear⟩ := hrange
      rw [serveRequest_served (by rw [hp]; exact serveGpiSetup_served hline hfn hdt ⟨hleast, hmost⟩ hclear s)]
      rfl
    next hrange => rw [serveRequest_turnedAway (by rw [hp]; exact serveGpiSetup_turnedAway hrange s)]; rfl
  · intro s r line h hk hp
    rw [exec_markRead_serves h hk]
    split
    next hline =>
      intro l
      split
      next hmark =>
        rw [serveRequest_served (by rw [hp]; exact serveMarkRead_served (l := l) hline rfl hmark)]
        congr 2
        cases l.queue with
        | nil => rfl
        | cons x queue =>
          obtain ⟨position, lock⟩ := x
          cases lock <;> simp [optField, gpiBytes, positionBytes, be_one, lockCode, bit]
      next hmark => rw [serveRequest_turnedAway (by rw [hp]; exact serveMarkRead_state hline hmark)]; rfl
    next hline => rw [serveRequest_turnedAway (by rw [hp]; exact serveMarkRead_badValue hline s)]; rfl

end Sys2Proof.Machine
end

section
/-! PROOFS. The lineage guard's requests at service (08: R144, R146, R147): LINEAGE SETUP, LINEAGE STATUS, REFUSAL LIST
READ. -/

namespace Sys2Proof.Machine

/-! ## Service -/

section Rows
variable {s : State} {r : LinkRequest} (h : Serves s r)
include h

theorem exec_lineageSetup_serves (hk : r.kind = .lineageSetup) :
    exec .lineageSetup s = .next (serveRequest serveLineageSetup r s) :=
  congrArg _ (service_settled_serves h hk serveLineageSetup)

theorem exec_lineageStatus_serves (hk : r.kind = .lineageStatus) :
    exec .lineageStatus s = .next (serveRequest serveLineageStatus r s) :=
  congrArg _ (service_settled_serves h hk serveLineageStatus)

theorem exec_refusalListRead_serves (hk : r.kind = .refusalListRead) :
    exec .refusalListRead s = .next (serveRequest serveRefusalListRead r s) :=
  congrArg _ (service_settled_serves h hk serveRefusalListRead)

end Rows

/-! ## LINEAGE SETUP served (R146) -/

theorem markOfCode_eq (b : Byte) :
    markOfCode b = if b.toNat ≤ 2 then some (if b = 0 then .free else if b = 1 then .once else .never) else none := by
  simp only [markOfCode, ← BitVec.toNat_inj]
  grind

theorem actionOfCode_eq (b : Byte) :
    actionOfCode b = if b.toNat ≤ 1 then some (if b = 0 then .silence else .halt) else none := by
  simp only [actionOfCode, ← BitVec.toNat_inj]
  grind

/-- The code of the mark that a code names is that code again. -/
theorem markCode_of_markOfCode {b : Byte} {m : Mark} (h : markOfCode b = some m) : be 1 (markCode m) = [b] := by
  unfold markOfCode at h
  split_ifs at h <;> cases h <;> subst b <;> rfl

/-- The code of the refusal action that a code names is that code again. -/
theorem actionCode_of_actionOfCode {b : Byte} {a : RefusalAction} (h : actionOfCode b = some a) :
    be 1 (actionCode a) = [b] := by
  unfold actionOfCode at h
  split_ifs at h <;> cases h <;> subst b <;> rfl

/-- LINEAGE SETUP with both codes listed takes the mark and the action, and answers with the codes. -/
theorem serveLineageSetup_served {m a : Byte} {origin : Mark} {action : RefusalAction}
    (hm : markOfCode m = some origin) (ha : actionOfCode a = some action) (s : State) :
    serveLineageSetup [m, a] s = served (s.setLineage { s.lineage with origin, action }) [m, a] := by
  simp only [serveLineageSetup, hm, ha, markCode_of_markOfCode hm, actionCode_of_actionOfCode ha,
    List.cons_append, List.nil_append]

/-- LINEAGE SETUP with an unlisted code is turned away. -/
theorem serveLineageSetup_turnedAway {m a : Byte} (h : markOfCode m = none ∨ actionOfCode a = none) (s : State) :
    serveLineageSetup [m, a] s = turnedAway s .badValue := by
  obtain h | h := h <;> simp [serveLineageSetup, h]

/-! ## Reply fields of the lineage guard (R17, R144, R147) -/

@[simp] theorem length_optByte (o : Option Nat) : (optByte o).length = 2 := length_optField (by simp)

theorem optByte_none : optByte none = [0, 0] := rfl

theorem optByte_some (n : Nat) : optByte (some n) = [1, BitVec.ofNat 8 n] := by rw [← be_one]; rfl

theorem rulingBytes_permit (m : Mark) : rulingBytes (.permit m) = [0, 1, BitVec.ofNat 8 (markCode m)] := by
  rw [rulingBytes, be_one, optByte_some]
  rfl

theorem rulingBytes_refuse : rulingBytes .refuse = [1, 0, 0] := rfl

theorem contextBytes_record : contextBytes .record = [0, 0, 0] := rfl

theorem contextBytes_edit (id : Nat) : contextBytes (.edit id) = [1, 1, BitVec.ofNat 8 id] := by
  rw [contextBytes, be_one, optByte_some]
  rfl

@[simp] theorem length_rulingBytes (x : Ruling) : (rulingBytes x).length = 3 := by cases x <;> simp [rulingBytes]

@[simp] theorem length_contextBytes (x : SpanContext) : (contextBytes x).length = 3 := by
  cases x <;> simp [contextBytes]

@[simp] theorem length_refusedBytes (e : RefusedEntry) : (refusedBytes e).length = 10 := by
  simp [refusedBytes, frameBytes]

/-- The list of n refused spans takes 10 n bytes (R144). -/
theorem length_flatMap_refusedBytes (l : List RefusedEntry) : (l.flatMap refusedBytes).length = 10 * l.length := by
  simp [List.length_flatMap, Nat.mul_comm]

/-! ## The clear of REFUSAL LIST READ (R144) -/

/-- The clear leaves INCOMPLETE set only where an unlisted span is open. -/
theorem clearRefusals_incomplete_iff (l : Lineage) :
    l.clearRefusals.incomplete = true ↔ l.incomplete = true ∧ ∃ sp, l.span = some sp ∧ sp.listed = false := by
  cases hspan : l.span <;> simp [Lineage.clearRefusals, hspan]

/-- REFUSAL LIST READ with a listed clear answers with the list as it stood. -/
theorem serveRefusalListRead_served {c : Byte} {clear : Bool} (hc : boolOfCode c = some clear) (s : State) :
    serveRefusalListRead [c] s = served (if clear then s.setLineage s.lineage.clearRefusals else s)
      (bit s.lineage.incomplete ++ be 1 s.lineage.refusals.length ++ s.lineage.refusals.flatMap refusedBytes) := by
  simp only [serveRefusalListRead, hc]

/-- REFUSAL LIST READ with an unlisted clear is turned away. -/
theorem serveRefusalListRead_turnedAway {c : Byte} (hc : boolOfCode c = none) (s : State) :
    serveRefusalListRead [c] s = turnedAway s .badValue := by
  simp only [serveRefusalListRead, hc]

/-- Settles O42: each request is served from the state as it stands; the status and the list are compared field by
field with the bytes of their rules. -/
theorem lineageRequestsServed : Obligations.LineageRequestsServed := by
  refine ⟨rfl, rfl, rfl, ?setup, ?status, ?list⟩
  case setup =>
    intro s r m a h hk hp
    rw [exec_lineageSetup_serves h hk]
    split
    next hout =>
      have hnone : markOfCode m = none ∨ actionOfCode a = none := by
        rw [markOfCode_eq, actionOfCode_eq]
        exact hout.imp (fun hm => if_neg (by omega)) (fun ha => if_neg (by omega))
      rw [serveRequest_turnedAway (by rw [hp]; exact serveLineageSetup_turnedAway hnone s)]
      rfl
    next hin =>
      obtain ⟨hm, ha⟩ := not_or.mp hin
      have hmark := (markOfCode_eq m).trans (if_pos (Nat.not_lt.mp hm))
      have haction := (actionOfCode_eq a).trans (if_pos (Nat.not_lt.mp ha))
      rw [serveRequest_served (by rw [hp]; exact serveLineageSetup_served hmark haction s)]
  case status =>
    intro s r h hk hp l mark ruling context status current
    have hruling (x : Ruling) : rulingBytes x = ruling x := by
      cases x with
      | permit m => exact rulingBytes_permit m
      | refuse => exact rulingBytes_refuse
    have hcontext (x : SpanContext) : contextBytes x = context x := by
      cases x with
      | record => exact contextBytes_record
      | edit id => exact contextBytes_edit id
    have hstatus : effective s.lineage.cls = status := rfl
    have hcurrent : currentRuling s = current := rfl
    refine ⟨_, by rw [exec_lineageStatus_serves h hk, serveRequest_served (by rw [hp]; rfl)], ?_, ?_⟩
    · have hlast : ∀ bs ∈ s.lineage.lastRuling.map (fun x => frameBytes x.number ++ rulingBytes x.ruling),
          bs.length = 6 := by simp [frameBytes]
      have hspan : ∀ bs ∈ s.lineage.span.map (fun sp => frameBytes sp.start ++ frameBytes sp.last
          ++ contextBytes sp.context ++ bit sp.listed), bs.length = 10 := by simp [frameBytes]
      simp only [List.length_cons, List.length_append, length_be, length_bit, length_optByte, length_rulingBytes,
        length_optField hlast, length_optField hspan]
    · simp only [l, be_one, hruling, hcontext, hstatus, hcurrent, List.append_assoc, List.cons_append, List.nil_append]
      -- the fields that the two sides spell differently, in the reply's order
      congr
      · cases s.lineage.cls with
        | absent => rfl
        | pro => rfl
        | consumer copy => cases copy <;> rfl
      · cases s.lineage.interval with
        | none => exact optByte_none
        | some m => exact optByte_some _
      · cases s.lineage.action <;> rfl
      · cases s.lineage.lastRuling <;> rfl
      · cases s.lineage.span <;> rfl
  case list =>
    intro s r c h hk hp entry reply unlistedOpen
    have hentry (e : RefusedEntry) : refusedBytes e = entry e := by
      refine congrArg₂ _ (congrArg₂ _ rfl ?stop) ?context
      case stop => cases e.stop <;> rfl
      case context =>
        cases e.context with
        | record => exact contextBytes_record
        | edit id => exact contextBytes_edit id
    have hreply : 0 :: (bit s.lineage.incomplete ++ be 1 s.lineage.refusals.length
        ++ s.lineage.refusals.flatMap refusedBytes) = reply := by
      rw [funext hentry, be_one]
      rfl
    rw [exec_refusalListRead_serves h hk]
    refine ⟨fun hcap => ?_, ?_, ?_, ?_⟩
    · rw [← hreply]
      simp only [List.length_cons, List.length_append, length_bit, length_be, length_flatMap_refusedBytes]
      omega
    · intro hc
      have hnone : boolOfCode c = none := (boolOfCode_eq c).trans (if_neg (by omega))
      rw [serveRequest_turnedAway (by rw [hp]; exact serveRefusalListRead_turnedAway hnone s)]
      rfl
    · rintro rfl
      rw [serveRequest_served (by rw [hp]; exact serveRefusalListRead_served rfl s), hreply]
      rfl
    · rintro rfl
      rw [serveRequest_served (by rw [hp]; exact serveRefusalListRead_served rfl s), hreply]
      exact ⟨_, rfl, rfl, clearRefusals_incomplete_iff s.lineage⟩

end Sys2Proof.Machine
end

section
/-! PROOFS. The query table's requests at service (09: R150 to R152, R158, R159): TAPE QUERY, QUERY CANCEL, QUERY
SETUP. -/

namespace Sys2Proof.Machine

/-! ## Service -/

section Rows
variable {s : State} {r : LinkRequest} (h : Serves s r)
include h

theorem exec_tapeQuery_serves (hk : r.kind = .tapeQuery) :
    exec .tapeQuery s = .next (serveRequest serveTapeQuery r s) :=
  congrArg _ (service_settled_serves h hk serveTapeQuery)

theorem exec_queryCancel_serves (hk : r.kind = .queryCancel) :
    exec .queryCancel s = .next (serveRequest serveQueryCancel r s) :=
  congrArg _ (service_settled_serves h hk serveQueryCancel)

theorem exec_querySetup_serves (hk : r.kind = .querySetup) :
    exec .querySetup s = .next (serveRequest serveQuerySetup r s) :=
  congrArg _ (service_settled_serves h hk serveQuerySetup)

end Rows

/-! ## The kind asked for (R150) -/

theorem queryKindOfCode_eq (b : Byte) :
    queryKindOfCode b = if b.toNat ≤ 1 then some (if b = 0 then .subcode else .quality) else none := by
  simp only [queryKindOfCode, ← BitVec.toNat_inj]
  grind

theorem queryKindOfCode_of_le {b : Byte} (h : b.toNat ≤ 1) :
    queryKindOfCode b = some (if b = 0 then .subcode else .quality) := (queryKindOfCode_eq b).trans (if_pos h)

theorem queryKindOfCode_of_lt {b : Byte} (h : 1 < b.toNat) : queryKindOfCode b = none :=
  (queryKindOfCode_eq b).trans (if_neg (Nat.not_le.mpr h))

/-- The code of the query kind that a code names is that code again. -/
theorem queryKindCode_of_queryKindOfCode {b : Byte} {kind : QueryKind} (h : queryKindOfCode b = some kind) :
    be 1 (queryKindCode kind) = [b] := by
  unfold queryKindOfCode at h
  split_ifs at h <;> cases h <;> subst b <;> rfl

/-! ## The entry asked for (R149) -/

@[simp] theorem QueryEntry.is_iff {e : QueryEntry} {kind : QueryKind} {f : FrameNo} :
    e.is kind f = true ↔ e.kind = kind ∧ e.frame = f := by simp [QueryEntry.is]

/-- The only entry of a kind and frame is the one found. -/
theorem find_query_of_only {entries : List QueryEntry} {e : QueryEntry} {kind : QueryKind} {f : FrameNo}
    (he : e ∈ entries) (hown : e.kind = kind ∧ e.frame = f)
    (honly : ∀ d ∈ entries, d.kind = kind ∧ d.frame = f → d = e) :
    entries.find? (fun e => e.is kind f) = some e := by
  cases hfind : entries.find? (fun e => e.is kind f) with
  | none => exact absurd (QueryEntry.is_iff.mpr hown) (List.find?_eq_none.mp hfind e he)
  | some d =>
    have his : d.is kind f = true := List.find?_some (p := fun e : QueryEntry => e.is kind f) hfind
    rw [honly d (List.mem_of_find?_eq_some hfind) (QueryEntry.is_iff.mp his)]

/-- Where no entry is of a kind and frame, none is found. -/
theorem find_query_of_none {entries : List QueryEntry} {kind : QueryKind} {f : FrameNo}
    (hnone : ∀ e ∈ entries, ¬(e.kind = kind ∧ e.frame = f)) : entries.find? (fun e => e.is kind f) = none :=
  List.find?_eq_none.mpr (fun e he his => hnone e he (QueryEntry.is_iff.mp his))

theorem removeQuery_eq (kind : QueryKind) (f : FrameNo) (s : State) :
    removeQuery kind f s = s.setQuery { s.query with
      entries := s.query.entries.filter (fun d => decide (¬(d.kind = kind ∧ d.frame = f))) } := by
  have hpred : (fun d : QueryEntry => !d.is kind f) = fun d => decide (¬(d.kind = kind ∧ d.frame = f)) := by
    funext d
    simp only [decide_not, ← QueryEntry.is_iff, Bool.decide_eq_true]
  rw [removeQuery, hpred]

/-! ## TAPE QUERY served (R150 to R152) -/

section Branches
variable {k f0 f1 f2 : Byte} {kind : QueryKind} {s : State}

/-- TAPE QUERY of no listed kind is turned away. -/
theorem serveTapeQuery_badValue (hk : queryKindOfCode k = none) :
    serveTapeQuery [k, f0, f1, f2] s = turnedAway s .badValue := by
  simp only [serveTapeQuery, hk]

/-- TAPE QUERY of a kind and frame in the table is a repeat. -/
theorem serveTapeQuery_repeat (hk : queryKindOfCode k = some kind) {e : QueryEntry}
    (he : s.query.entries.find? (fun e => e.is kind (frameOfBytes f0 f1 f2)) = some e) :
    serveTapeQuery [k, f0, f1, f2] s = answerRepeat e s := by
  simp only [serveTapeQuery, hk, he]

/-- TAPE QUERY of a kind and frame not in the table is turned away by a full table. -/
theorem serveTapeQuery_full (hk : queryKindOfCode k = some kind)
    (he : s.query.entries.find? (fun e => e.is kind (frameOfBytes f0 f1 f2)) = none)
    (hfull : 4 ≤ s.query.entries.length) : serveTapeQuery [k, f0, f1, f2] s = turnedAway s .full := by
  simp only [serveTapeQuery, hk, he]
  exact if_pos hfull

/-- TAPE QUERY of a kind and frame not in the table makes an entry where there is room. -/
theorem serveTapeQuery_new (hk : queryKindOfCode k = some kind)
    (he : s.query.entries.find? (fun e => e.is kind (frameOfBytes f0 f1 f2)) = none)
    (hroom : s.query.entries.length < 4) :
    serveTapeQuery [k, f0, f1, f2] s = answered
      (s.setQuery { s.query with entries := s.query.entries ++ [newQuery kind (frameOfBytes f0 f1 f2) s] })
      (pendingContent (newQuery kind (frameOfBytes f0 f1 f2) s)) := by
  simp only [serveTapeQuery, hk, he]
  exact if_neg (Nat.not_le.mpr hroom)

/-! ## QUERY CANCEL served (R158) -/

/-- QUERY CANCEL of no listed kind is turned away. -/
theorem serveQueryCancel_badValue (hk : queryKindOfCode k = none) :
    serveQueryCancel [k, f0, f1, f2] s = turnedAway s .badValue := by
  simp only [serveQueryCancel, hk]

/-- QUERY CANCEL of a kind and frame not in the table is turned away. -/
theorem serveQueryCancel_notFound (hk : queryKindOfCode k = some kind)
    (he : s.query.entries.find? (fun e => e.is kind (frameOfBytes f0 f1 f2)) = none) :
    serveQueryCancel [k, f0, f1, f2] s = turnedAway s .notFound := by
  simp only [serveQueryCancel, hk, he]

/-- QUERY CANCEL removes the entry of its kind and frame, whatever its state. -/
theorem serveQueryCancel_served (hk : queryKindOfCode k = some kind) {e : QueryEntry}
    (he : s.query.entries.find? (fun e => e.is kind (frameOfBytes f0 f1 f2)) = some e) :
    serveQueryCancel [k, f0, f1, f2] s = served (removeQuery kind (frameOfBytes f0 f1 f2) s)
      [BitVec.ofNat 8 (queryStateCode e.state)] := by
  simp only [serveQueryCancel, hk, he, be_one]

end Branches

/-! ## A repeat (R151) -/

/-- A repeat of an entry not COMPLETE keeps it. -/
theorem answerRepeat_pending {e : QueryEntry} (h : ∀ age o, e.state ≠ .complete age o) (s : State) :
    answerRepeat e s = answered s (pendingContent e) := by
  cases hs : e.state with
  | held id => simp only [answerRepeat, hs]
  | waiting => simp only [answerRepeat, hs]
  | complete age o => exact absurd hs (h age o)

/-- A repeat of a COMPLETE entry removes it. -/
theorem answerRepeat_complete {e : QueryEntry} {age : Nat} {o : QueryOutcome} (h : e.state = .complete age o)
    (s : State) : answerRepeat e s = served (removeQuery e.kind e.frame s) (doneContent e age o) := by
  simp only [answerRepeat, h]

/-! ## A new entry (R152) -/

/-- A new entry is HELD behind a cue entry whose span holds its frame, or no span does and it is WAITING. -/
theorem newQuery_state (kind : QueryKind) (f : FrameNo) (s : State) :
    (∃ c ∈ s.engine.cues, (newQuery kind f s).state = .held c.id ∧
      c.startFrame (spf s.input.rate) ≤ f.toNat ∧ f.toNat ≤ c.lastFrame (spf s.input.rate)) ∨
    ((newQuery kind f s).state = .waiting ∧ ∀ c ∈ s.engine.cues,
      f.toNat < c.startFrame (spf s.input.rate) ∨ c.lastFrame (spf s.input.rate) < f.toNat) := by
  cases hfind : s.engine.cues.find? (fun c => c.spans (spf s.input.rate) f.toNat) with
  | some c =>
    have hspans : c.spans (spf s.input.rate) f.toNat = true :=
      List.find?_some (p := fun c : CueEntry => c.spans (spf s.input.rate) f.toNat) hfind
    refine .inl ⟨c, List.mem_of_find?_eq_some hfind, by simp only [newQuery, hfind], ?_⟩
    simpa [CueEntry.spans] using hspans
  | none =>
    refine .inr ⟨by simp only [newQuery, hfind], fun c hc => ?_⟩
    have hspans := List.find?_eq_none.mp hfind c hc
    simp only [CueEntry.spans, Bool.and_eq_true, decide_eq_true_eq] at hspans
    omega

theorem newQuery_not_complete (kind : QueryKind) (f : FrameNo) (s : State) (age : Nat) (o : QueryOutcome) :
    (newQuery kind f s).state ≠ .complete age o := by
  obtain ⟨c, -, h, -⟩ | ⟨h, -⟩ := newQuery_state kind f s <;> simp [h]

/-! ## Reply fields (R11, R17, R151) -/

theorem queryKindCode_byte (kind : QueryKind) :
    BitVec.ofNat 8 (queryKindCode kind) = if kind = .subcode then 0 else 1 := by cases kind <;> rfl

theorem rateCode_byte (rate : Rate) :
    BitVec.ofNat 8 (rateCode rate) = if rate = .rate48 then 0 else 1 := by cases rate <;> rfl

/-- The state and the blocking entry of a HELD entry, as a PENDING reply gives them. -/
theorem pendingContent_held {e : QueryEntry} {id : Nat} (h : e.state = .held id) :
    pendingContent e = [if e.kind = .subcode then 0 else 1] ++ be 3 e.frame.toNat ++ [0, 1, BitVec.ofNat 8 id]
      ++ [BitVec.ofNat 8 e.passes] ++ be 2 e.wait := by
  simp [pendingContent, h, be_one, queryKindCode_byte, frameBytes, queryStateCode, optByte_some]

/-- The state of a WAITING entry, as a PENDING reply gives it. -/
theorem pendingContent_waiting {e : QueryEntry} (h : e.state = .waiting) :
    pendingContent e = [if e.kind = .subcode then 0 else 1] ++ be 3 e.frame.toNat ++ [1, 0, 0]
      ++ [BitVec.ofNat 8 e.passes] ++ be 2 e.wait := by
  simp [pendingContent, h, be_one, queryKindCode_byte, frameBytes, queryStateCode, optByte_none]

/-- The subcode record field by field (R11). -/
theorem subcodeBytes_eq (x : Subcode) :
    subcodeBytes x = be 3 x.number.toNat ++ be 2 x.program.toNat ++ be 2 x.take.toNat
      ++ [BitVec.ofNat 8 (markCode x.mark), if x.rate = .rate48 then 0 else 1,
        BitVec.ofNat 8 (frameKindCode x.kind), if x.refused then 1 else 0] := by
  simp [subcodeBytes, frameBytes, be_one, rateCode_byte, bit]

@[simp] theorem length_subcodeBytes (r : Subcode) : (subcodeBytes r).length = 11 := by
  simp [subcodeBytes, frameBytes]

@[simp] theorem length_qualityBytes (q : QualityRecord) : (qualityBytes q).length = 16 := by
  simp [qualityBytes]

theorem recordField_found_subcode (kind : QueryKind) (x : Subcode) :
    recordField kind (.found (.subcode x)) = 1 :: subcodeBytes x := rfl

theorem recordField_found_quality (kind : QueryKind) (x : QualityRecord) :
    recordField kind (.found (.quality x)) = 1 :: qualityBytes x := rfl

/-- With no record the field is zeros (R17). -/
theorem recordField_absent {kind : QueryKind} {o : QueryOutcome} (h : ∀ x, o ≠ .found x) :
    ∀ b ∈ recordField kind o, b = 0 := by
  cases o with
  | found x => exact absurd rfl (h x)
  | unreadable => simp [recordField, optField]
  | expired => simp [recordField, optField]

theorem length_recordField_absent {kind : QueryKind} {o : QueryOutcome} (h : ∀ x, o ≠ .found x) :
    (recordField kind o).length = if kind = .subcode then 12 else 17 := by
  cases o with
  | found x => exact absurd rfl (h x)
  | unreadable => cases kind <;> rfl
  | expired => cases kind <;> rfl

/-- The record field has the length of the entry's kind, record or none. -/
theorem length_recordField {e : QueryEntry} (hfits : e.recordFits) {age : Nat} {o : QueryOutcome}
    (hs : e.state = .complete age o) :
    (recordField e.kind o).length = if e.kind = .subcode then 12 else 17 := by
  cases o with
  | unreadable => exact length_recordField_absent (by simp)
  | expired => exact length_recordField_absent (by simp)
  | found x =>
    cases x with
    | subcode x =>
      obtain ⟨hkind, -⟩ : e.kind = .subcode ∧ x.number = e.frame := hfits age _ hs
      simp [recordField_found_subcode, hkind]
    | quality x =>
      have hkind : e.kind = .quality := hfits age _ hs
      simp [recordField_found_quality, hkind]

theorem length_doneContent {e : QueryEntry} (hfits : e.recordFits) {age : Nat} {o : QueryOutcome}
    (hs : e.state = .complete age o) :
    (doneContent e age o).length = if e.kind = .subcode then 22 else 27 := by
  have hrecord := length_recordField hfits hs
  simp only [doneContent, frameBytes, List.length_append, length_be, hrecord]
  split <;> rfl

/-- Settles O59: each request is served from the state as it stands, by the branch of its rule that the kind, the entry
found and the room in the table pick; the replies are compared field by field with the bytes of their rules. -/
theorem queryRequestsServed : Obligations.QueryRequestsServed := by
  refine ⟨rfl, rfl, rfl, rfl, rfl, rfl, ?_⟩
  intro content
  have hcontent {e : QueryEntry} (h : ∀ age o, e.state ≠ .complete age o) : pendingContent e = content e := by
    cases hs : e.state with
    | held id => rw [pendingContent_held hs]; simp only [content, hs]
    | waiting => rw [pendingContent_waiting hs]; simp only [content, hs]
    | complete age o => exact absurd hs (h age o)
  refine ⟨?tapeQuery, ?queryCancel, ?querySetup⟩
  case tapeQuery =>
    intro s r k f0 f1 f2 h hr hp kind frame own
    rw [exec_tapeQuery_serves h hr]
    refine ⟨fun hk => ?badValue, fun hk e he hown honly => ⟨fun hstate => ?kept, fun age o hfits hstate => ?done⟩,
      fun hk hnone => ⟨fun hfull => ?full, fun hroom => ?new⟩⟩
    case badValue =>
      rw [serveRequest_turnedAway (by rw [hp]; exact serveTapeQuery_badValue (queryKindOfCode_of_lt hk))]
      rfl
    case kept =>
      have hfind := find_query_of_only he hown honly
      rw [serveRequest_answered (by
        rw [hp, serveTapeQuery_repeat (queryKindOfCode_of_le hk) hfind]
        exact answerRepeat_pending hstate s), hcontent hstate]
    case done =>
      have hfind := find_query_of_only he hown honly
      obtain ⟨hkind, hframe⟩ := hown
      have hcode := queryKindOfCode_of_le hk
      refine ⟨0 :: doneContent e age o, ?_, ?_, recordField e.kind o, ?_, ?_, ?_, recordField_absent⟩
      · rw [serveRequest_served (by
          rw [hp, serveTapeQuery_repeat hcode hfind]
          exact answerRepeat_complete hstate s), hkind, hframe, removeQuery_eq]
      · rw [List.length_cons, length_doneContent hfits hstate, hkind]
        simp only [kind]
        split <;> rfl
      · rw [doneContent, hkind, queryKindCode_of_queryKindOfCode hcode, hframe]
        cases o <;> simp [be_one, frameBytes, queryOutcomeCode]
      · rintro x rfl -
        refine ⟨recordField_found_subcode _ x, ?_⟩
        rw [subcodeBytes_eq]
        cases x.kind <;> rfl
      · rintro x rfl -
        exact recordField_found_quality _ x
    case full =>
      rw [serveRequest_turnedAway (by
        rw [hp]
        exact serveTapeQuery_full (queryKindOfCode_of_le hk) (find_query_of_none hnone) hfull)]
      rfl
    case new =>
      refine ⟨newQuery kind frame s, ⟨rfl, rfl⟩, rfl, rfl, newQuery_state kind frame s, ?_⟩
      rw [serveRequest_answered (by
        rw [hp]
        exact serveTapeQuery_new (queryKindOfCode_of_le hk) (find_query_of_none hnone) hroom),
        hcontent (newQuery_not_complete kind _ s)]
      rfl
  case queryCancel =>
    intro s r k f0 f1 f2 h hr hp kind own
    rw [exec_queryCancel_serves h hr]
    refine ⟨fun hk => ?badValue, fun hk hnone => ?notFound, fun hk e he hown honly => ?removed⟩
    case badValue =>
      rw [serveRequest_turnedAway (by rw [hp]; exact serveQueryCancel_badValue (queryKindOfCode_of_lt hk))]
      rfl
    case notFound =>
      rw [serveRequest_turnedAway (by
        rw [hp]
        exact serveQueryCancel_notFound (queryKindOfCode_of_le hk) (find_query_of_none hnone))]
      rfl
    case removed =>
      rw [serveRequest_served (by
        rw [hp]
        exact serveQueryCancel_served (queryKindOfCode_of_le hk) (find_query_of_only he hown honly)), removeQuery_eq]
      cases e.state <;> rfl
  case querySetup =>
    intro s r a b h hr hp
    rw [exec_querySetup_serves h hr, serveRequest_served (by rw [hp]; rfl)]

end Sys2Proof.Machine
end

section
/-! PROOFS. The link unit's requests at service (10: R172 to R175): PROBE, LINK STATUS, LINK SETUP, ASSIGN. -/

namespace Sys2Proof.Machine

/-! ## Service -/

section Rows
variable {s : State} {r : LinkRequest} (h : Serves s r)
include h

theorem exec_probe_serves (hk : r.kind = .probe) : exec .probe s = .next (serveRequest serveProbe r s) :=
  congrArg _ (service_settled_serves h hk serveProbe)

theorem exec_linkStatus_serves (hk : r.kind = .linkStatus) :
    exec .linkStatus s = .next (serveRequest serveLinkStatus r s) :=
  congrArg _ (service_settled_serves h hk serveLinkStatus)

theorem exec_linkSetup_serves (hk : r.kind = .linkSetup) :
    exec .linkSetup s = .next (serveRequest serveLinkSetup r s) :=
  congrArg _ (service_settled_serves h hk serveLinkSetup)

theorem exec_assign_serves (hk : r.kind = .assign) : exec .assign s = .next (serveRequest serveAssign r s) :=
  congrArg _ (service_settled_serves h hk serveAssign)

end Rows

/-! ## LINK SETUP and ASSIGN served (R173, R174) -/

/-- LINK SETUP with S from 1 to 8 sets the slice. -/
theorem serveLinkSetup_served {b : Byte} (hb : 1 ≤ b.toNat ∧ b.toNat ≤ 8) (s : State) :
    serveLinkSetup [b] s = served (s.setLink { s.link with slice := b.toNat }) [b] :=
  if_neg (by omega)

/-- LINK SETUP with S out of its range is turned away. -/
theorem serveLinkSetup_turnedAway {b : Byte} (hb : ¬ (1 ≤ b.toNat ∧ b.toNat ≤ 8)) (s : State) :
    serveLinkSetup [b] s = turnedAway s .badValue :=
  if_pos (by omega)

/-- ASSIGN of a range within 1 to 30 assigns it. -/
theorem serveAssign_served {a last : Byte} (hrange : 1 ≤ a.toNat ∧ a.toNat ≤ last.toNat ∧ last.toNat ≤ 30)
    (s : State) : serveAssign [a, last] s =
      served (s.setLink { s.link with assigned := some { a := a.toNat, last := last.toNat } }) [a, last] :=
  if_neg (by omega)

/-- ASSIGN of a range that is empty or not within 1 to 30 is turned away. -/
theorem serveAssign_turnedAway {a last : Byte}
    (hrange : ¬ (1 ≤ a.toNat ∧ a.toNat ≤ last.toNat ∧ last.toNat ≤ 30)) (s : State) :
    serveAssign [a, last] s = turnedAway s .badValue :=
  if_pos (by omega)

/-- Settles O30: each request is served from the state as it stands, by the branch of its rule that its fields pick.
The reply is formed from the state that the service leaves, so an ASSIGN is answered under the new A. -/
theorem linkRequestsServed : Obligations.LinkRequestsServed := by
  refine ⟨rfl, rfl, rfl, rfl, ?probe, ?linkStatus, ?linkSetup, ?assign⟩
  case probe =>
    intro s r h hk hp
    rw [exec_probe_serves h hk, serveRequest_served (by rw [hp]; rfl)]
    rfl
  case linkStatus =>
    intro s r mask h hk hp
    rw [exec_linkStatus_serves h hk, serveRequest_served (by rw [hp]; rfl)]
    simp only [be_one, List.append_assoc]
    rfl
  case linkSetup =>
    intro s r b h hk hp
    rw [exec_linkSetup_serves h hk]
    split
    next hb => rw [serveRequest_served (by rw [hp]; exact serveLinkSetup_served hb s)]
    next hb => rw [serveRequest_turnedAway (by rw [hp]; exact serveLinkSetup_turnedAway hb s)]; rfl
  case assign =>
    intro s r a last h hk hp
    rw [exec_assign_serves h hk]
    split
    next hrange => rw [serveRequest_served (by rw [hp]; exact serveAssign_served hrange s)]
    next hrange => rw [serveRequest_turnedAway (by rw [hp]; exact serveAssign_turnedAway hrange s)]; rfl

end Sys2Proof.Machine
end

section
/-! PROOFS. The commands taken together: a request row is the service of its kind, every command starts from the settled
state, and an invariant that each event and each service keeps is one that every step keeps. -/

namespace Sys2Proof.Machine

/-- The owning rule of a request kind. -/
def RequestKind.serve : RequestKind → List Byte → State → Served
  | .probe => serveProbe
  | .assign => serveAssign
  | .linkStatus => serveLinkStatus
  | .partReset => servePartReset
  | .linkSetup => serveLinkSetup
  | .noticeSetup => serveNoticeSetup
  | .noticeClear => serveNoticeClear
  | .noticeRead => serveNoticeRead
  | .sourceSelect => serveSourceSelect
  | .monitorSelect => serveMonitorSelect
  | .inputStatusRead => serveInputStatusRead
  | .recordStart => serveRecordStart
  | .recordStop => serveRecordStop
  | .recordStatus => serveRecordStatus
  | .lineageSetup => serveLineageSetup
  | .concealSetup => serveConcealSetup
  | .qualityRead => serveQualityRead
  | .qualityTotals => serveQualityTotals
  | .prereadSetup => servePrereadSetup
  | .positionRead => servePositionRead
  | .gpiSetup => serveGpiSetup
  | .markRead => serveMarkRead
  | .cueAdd => serveCueAdd
  | .cueRemove => serveCueRemove
  | .cueRead => serveCueRead
  | .editArm => serveEditArm
  | .editDisarm => serveEditDisarm
  | .editAbort => serveEditAbort
  | .spliceLogRead => serveSpliceLogRead
  | .editSetup => serveEditSetup
  | .lineageStatus => serveLineageStatus
  | .refusalListRead => serveRefusalListRead
  | .tapeQuery => serveTapeQuery
  | .queryCancel => serveQueryCancel
  | .querySetup => serveQuerySetup

/-- A request row is the service of its kind on the settled state. -/
theorem exec_row (k : RequestKind) (s : State) : exec k.row s = .next (service k k.serve (settled s)) := by
  cases k <;> rfl

/-- A row serves the request of its kind that has come up. -/
theorem exec_row_serves {s : State} {r : LinkRequest} (h : Serves s r) :
    exec r.kind.row s = .next (serveRequest r.kind.serve r s) := by
  rw [exec_row, settled_eq h.settled, service_serves h rfl]

/-- A broadcast of right length is served by its kind's own rule, save a PART RESET and what is no broadcast. -/
theorem serveBroadcast_eq {k : RequestKind} (hk : k.broadcast = true) (hreset : k ≠ .partReset) (p : List Byte)
    (s : State) : serveBroadcast k p s = (k.serve p s).silent := by
  cases k <;> first | rfl | exact absurd rfl hreset | exact absurd hk (by decide)

/-- A broadcast's service is its kind's own, or nothing. -/
theorem serveBroadcast_cases (k : RequestKind) (p : List Byte) (s : State) :
    serveBroadcast k p s = (k.serve p s).silent ∨ serveBroadcast k p s = s := by
  cases k <;> first | exact .inl rfl | exact .inr rfl

/-- What a command does once the state is settled; POWER_ON_RESET stands apart, since it settles nothing. -/
def act : Instr → State → State
  | .powerOnReset, s => State.powerOn s.pins s.pending
  | .partResetEffect, s => s
  | .sampleClock p, s => sampleClock p s
  | .outputBoundary, s => boundaryIfDue s
  | .receiverPairStrobe p, s => if s.pins.locked then enterPair .digital p s else s
  | .lockIndicationChange active, s => lockIndication active s
  | .statusArrival a, s => statusArrival a s
  | .blockArrival h bytes, s => blockArrival h bytes s
  | .headFrameEnd h, s => closeFrame h s
  | .transportState t, s => transportChange t s
  | .frameTick gpiLow, s => frameTick gpiLow s
  | .absenceCountExpiry, s => absenceExpiry s
  | .queryWaitExpiry, s => expireQueries s
  | .queryDiscard, s => discardQueries s
  | .frameWritten, s => frameWritten s
  | .gpiFallingEdge line, s => fallingEdge line s
  | .frameReceivedUpstream bytes, s => takeBytes .up bytes s
  | .linkByteGapTimeout side, s => byteGap side s
  | .frameReceivedDownstream bytes, s => takeBytes .down bytes s
  | .arbiterChoice, s => arbitrate s
  | .upstreamFrameSent, s => upSent s
  | .downstreamSend, s => startDown s
  | .downstreamFrameSent, s => downSent s
  | .holdInputChange side asserted, s => holdChange side asserted s
  | .presentChange high, s => presentChange high s
  | .brokenFrame side bytes, s => takeBytes side bytes s
  | .partReset, s => service .partReset servePartReset s
  | .probe, s => service .probe serveProbe s
  | .assign, s => service .assign serveAssign s
  | .linkStatus, s => service .linkStatus serveLinkStatus s
  | .linkSetup, s => service .linkSetup serveLinkSetup s
  | .noticeSetup, s => service .noticeSetup serveNoticeSetup s
  | .noticeClear, s => service .noticeClear serveNoticeClear s
  | .noticeRead, s => service .noticeRead serveNoticeRead s
  | .sourceSelect, s => service .sourceSelect serveSourceSelect s
  | .monitorSelect, s => service .monitorSelect serveMonitorSelect s
  | .inputStatusRead, s => service .inputStatusRead serveInputStatusRead s
  | .recordStart, s => service .recordStart serveRecordStart s
  | .recordStop, s => service .recordStop serveRecordStop s
  | .recordStatus, s => service .recordStatus serveRecordStatus s
  | .lineageSetup, s => service .lineageSetup serveLineageSetup s
  | .concealSetup, s => service .concealSetup serveConcealSetup s
  | .qualityRead, s => service .qualityRead serveQualityRead s
  | .qualityTotals, s => service .qualityTotals serveQualityTotals s
  | .prereadSetup, s => service .prereadSetup servePrereadSetup s
  | .positionRead, s => service .positionRead servePositionRead s
  | .gpiSetup, s => service .gpiSetup serveGpiSetup s
  | .markRead, s => service .markRead serveMarkRead s
  | .cueAdd, s => service .cueAdd serveCueAdd s
  | .cueRemove, s => service .cueRemove serveCueRemove s
  | .cueRead, s => service .cueRead serveCueRead s
  | .editArm, s => service .editArm serveEditArm s
  | .editDisarm, s => service .editDisarm serveEditDisarm s
  | .editAbort, s => service .editAbort serveEditAbort s
  | .spliceLogRead, s => service .spliceLogRead serveSpliceLogRead s
  | .editSetup, s => service .editSetup serveEditSetup s
  | .lineageStatus, s => service .lineageStatus serveLineageStatus s
  | .refusalListRead, s => service .refusalListRead serveRefusalListRead s
  | .tapeQuery, s => service .tapeQuery serveTapeQuery s
  | .queryCancel, s => service .queryCancel serveQueryCancel s
  | .querySetup, s => service .querySetup serveQuerySetup s

/-- Every command but POWER_ON_RESET does what it does on the settled state. -/
theorem exec_eq_act {c : Instr} (h : c ≠ .powerOnReset) (s : State) : exec c s = .next (act c (settled s)) := by
  cases c <;> first | rfl | exact absurd rfl h

/-- With no PART RESET due, every command does what it does on the state as it stands. -/
theorem exec_eq_act_of_not_due {s : State} (h : s.link.resetDue = false) (c : Instr) : exec c s = .next (act c s) := by
  cases hc : decide (c = .powerOnReset)
  · rw [exec_eq_act (of_decide_eq_false hc), settled_eq h]
  · rw [of_decide_eq_true hc]; rfl

/-! ## What every step keeps, from what each command keeps -/

/-- Each event and each service keeps `P`, which holds after a reset and does not look at the waiting commands. -/
structure Kept (P : State → Prop) : Prop where
  pending : ∀ x s, P s → P (s.setPending x)
  power : ∀ pins pending, P (State.powerOn pins pending)
  partReset : ∀ s, P s → P (partResetEffect s)
  sampleClock : ∀ p s, P s → P (sampleClock p s)
  boundary : ∀ s, P s → P (boundaryIfDue s)
  receiverPair : ∀ p s, P s → P (enterPair .digital p s)
  lockIndication : ∀ a s, P s → P (lockIndication a s)
  statusArrival : ∀ a s, P s → P (statusArrival a s)
  blockArrival : ∀ h bytes s, P s → P (blockArrival h bytes s)
  headFrameEnd : ∀ h s, P s → P (closeFrame h s)
  transport : ∀ t s, P s → P (transportChange t s)
  tick : ∀ g s, P s → P (frameTick g s)
  absence : ∀ s, P s → P (absenceExpiry s)
  expiry : ∀ s, P s → P (expireQueries s)
  discard : ∀ s, P s → P (discardQueries s)
  written : ∀ s, P s → P (frameWritten s)
  edge : ∀ i s, P s → P (fallingEdge i s)
  receiver : ∀ side r s, P s → P (setReceiver side r s)
  received : ∀ side x s, P s → P (onReceived side x s)
  arbiter : ∀ s, P s → P (arbitrate s)
  upSent : ∀ s, P s → P (upSent s)
  startDown : ∀ s, P s → P (startDown s)
  downSent : ∀ s, P s → P (downSent s)
  hold : ∀ side a s, P s → P (holdChange side a s)
  present : ∀ high s, P s → P (presentChange high s)
  service : ∀ (k : RequestKind) s, P s → P (service k k.serve s)

section Kept
variable {P : State → Prop} (h : Kept P)
include h

theorem Kept.settled {s : State} (hs : P s) : P (settled s) := by
  unfold Machine.settled
  split
  · exact h.partReset s hs
  · exact hs

theorem Kept.takeByte (side : Side) {s : State} (b : Byte) (hs : P s) : P (takeByte side s b) :=
  h.received _ _ _ (h.receiver _ _ _ (h.settled hs))

theorem Kept.takeBytes (side : Side) (bytes : List Byte) {s : State} (hs : P s) : P (takeBytes side bytes s) := by
  induction bytes generalizing s with
  | nil => exact hs
  | cons b bs ih => exact ih (h.takeByte side b hs)

theorem Kept.byteGap (side : Side) {s : State} (hs : P s) : P (byteGap side s) := by
  unfold Machine.byteGap
  split
  · exact hs
  · exact h.received _ _ _ (h.receiver _ _ _ hs)

theorem Kept.act (c : Instr) (s : State) (hs : P s) : P (act c s) := by
  cases c
  case powerOnReset => exact h.power _ _
  case partResetEffect => exact hs
  case sampleClock p => exact h.sampleClock p s hs
  case outputBoundary => exact h.boundary s hs
  case receiverPairStrobe p =>
    exact iteInduction (motive := P) (fun _ => h.receiverPair p _ hs) (fun _ => hs)
  case lockIndicationChange a => exact h.lockIndication a s hs
  case statusArrival a => exact h.statusArrival a s hs
  case blockArrival hd bytes => exact h.blockArrival hd bytes s hs
  case headFrameEnd hd => exact h.headFrameEnd hd s hs
  case transportState t => exact h.transport t s hs
  case frameTick g => exact h.tick g s hs
  case absenceCountExpiry => exact h.absence s hs
  case queryWaitExpiry => exact h.expiry s hs
  case queryDiscard => exact h.discard s hs
  case frameWritten => exact h.written s hs
  case gpiFallingEdge i => exact h.edge i s hs
  case frameReceivedUpstream bytes => exact h.takeBytes .up bytes hs
  case linkByteGapTimeout side => exact h.byteGap side hs
  case frameReceivedDownstream bytes => exact h.takeBytes .down bytes hs
  case arbiterChoice => exact h.arbiter s hs
  case upstreamFrameSent => exact h.upSent s hs
  case downstreamSend => exact h.startDown s hs
  case downstreamFrameSent => exact h.downSent s hs
  case holdInputChange side a => exact h.hold side a s hs
  case presentChange high => exact h.present high s hs
  case brokenFrame side bytes => exact h.takeBytes side bytes hs
  all_goals exact h.service _ _ hs

theorem Kept.exec {c : Instr} {s t : State} (hs : P s) (ht : exec c s = .next t) : P t := by
  by_cases hc : c = .powerOnReset
  · subst hc
    obtain rfl : State.powerOn s.pins s.pending = t := by injection ht
    exact h.power _ _
  · rw [exec_eq_act hc] at ht
    obtain rfl : Machine.act c (Machine.settled s) = t := by injection ht
    exact h.act c _ (h.settled hs)

/-- What each command keeps, every step keeps. -/
theorem Kept.keeps : Keeps P := by
  intro s t hs ht
  unfold step at ht
  split at ht
  · obtain rfl : s = t := by injection ht
    exact hs
  · exact h.exec (h.pending _ s hs) ht

end Kept

end Sys2Proof.Machine
end

section
/-! PROOFS. What the service of each request kind leaves, said once for each kind: the state as it stands, or the one effect
that its rule has. -/

namespace Sys2Proof.Machine

/-! ## Requests that change nothing -/

section Reads
variable (p : List Byte) (s : State)

@[simp] theorem serveProbe_state : (serveProbe p s).state = s := by
  unfold serveProbe; split <;> rfl

@[simp] theorem serveNoticeRead_state : (serveNoticeRead p s).state = s := by
  unfold serveNoticeRead; split <;> rfl

@[simp] theorem serveInputStatusRead_state : (serveInputStatusRead p s).state = s := by
  unfold serveInputStatusRead; split <;> rfl

@[simp] theorem serveRecordStatus_state : (serveRecordStatus p s).state = s := by
  unfold serveRecordStatus; split <;> rfl

@[simp] theorem serveQualityRead_state : (serveQualityRead p s).state = s := by
  unfold serveQualityRead; (repeat' split) <;> rfl

@[simp] theorem servePositionRead_state : (servePositionRead p s).state = s := by
  unfold servePositionRead; split <;> rfl

@[simp] theorem serveCueRead_state : (serveCueRead p s).state = s := by
  unfold serveCueRead; (repeat' split) <;> rfl

@[simp] theorem serveSpliceLogRead_state : (serveSpliceLogRead p s).state = s := by
  unfold serveSpliceLogRead; (repeat' split) <;> rfl

@[simp] theorem serveLineageStatus_state : (serveLineageStatus p s).state = s := by
  unfold serveLineageStatus; split <;> rfl

end Reads

/-! ## Requests of the link unit, the notice unit and the output unit -/

section Effects
variable (p : List Byte) (s : State)

theorem serveAssign_cases : (serveAssign p s).state = s ∨ ∃ a last : Nat, 1 ≤ a ∧ a ≤ last ∧ last ≤ 30 ∧
    (serveAssign p s).state = s.setLink { s.link with assigned := some { a := a, last := last } } := by
  unfold serveAssign
  split
  · split
    · exact .inl rfl
    · exact .inr ⟨_, _, by omega, by omega, by omega, rfl⟩
  · exact .inl rfl

theorem serveLinkStatus_cases : (serveLinkStatus p s).state = s ∨ ∃ flags : BitVec 8,
    (serveLinkStatus p s).state = s.setLink { s.link with flags := flags } := by
  unfold serveLinkStatus
  split
  · exact .inr ⟨_, rfl⟩
  · exact .inl rfl

theorem serveLinkSetup_cases : (serveLinkSetup p s).state = s ∨ ∃ slice : Nat, 1 ≤ slice ∧ slice ≤ 8 ∧
    (serveLinkSetup p s).state = s.setLink { s.link with slice := slice } := by
  unfold serveLinkSetup
  split
  · split
    · exact .inl rfl
    · exact .inr ⟨_, by omega, by omega, rfl⟩
  · exact .inl rfl

theorem servePartReset_cases : (servePartReset p s).state = s ∨
    (servePartReset p s).state = s.setLink { s.link with paused := true } := by
  unfold servePartReset
  split
  · exact .inr rfl
  · exact .inl rfl

theorem serveNoticeSetup_cases :
    ((serveNoticeSetup p s).state = s ∧ (serveNoticeSetup p s).evaluates = false) ∨ ∃ c prio enable,
      (serveNoticeSetup p s).state = s.setNotice (s.notice.setup c prio enable) ∧
      (serveNoticeSetup p s).evaluates = true := by
  unfold serveNoticeSetup
  split
  · split
    · split
      · exact .inl ⟨rfl, rfl⟩
      · exact .inr ⟨_, _, _, rfl, rfl⟩
    · exact .inl ⟨rfl, rfl⟩
  · exact .inl ⟨rfl, rfl⟩

theorem serveNoticeClear_cases :
    ((serveNoticeClear p s).state = s ∧ (serveNoticeClear p s).evaluates = false) ∨
      p.length = 3 ∧ ofBe p < 262144 ∧
      (serveNoticeClear p s).state = s.setNotice
        { s.notice with pending := s.notice.pending &&& ~~~(BitVec.ofNat 24 (ofBe p)), lr := -1 } ∧
      (serveNoticeClear p s).evaluates = true := by
  unfold serveNoticeClear
  split
  · split
    · exact .inl ⟨rfl, rfl⟩
    · exact .inr ⟨rfl, by omega, rfl, rfl⟩
  · exact .inl ⟨rfl, rfl⟩

theorem serveMonitorSelect_cases : (serveMonitorSelect p s).state = s ∨ ∃ monitor,
    (serveMonitorSelect p s).state = s.setOutput { s.output with monitor := monitor } := by
  unfold serveMonitorSelect
  split
  · split
    · exact .inr ⟨_, rfl⟩
    · exact .inl rfl
  · exact .inl rfl

/-! ## Requests of the other blocks -/

theorem serveSourceSelect_cases : (serveSourceSelect p s).state = s ∨
    (∃ source, (serveSourceSelect p s).state = s.setInput { s.input with source := source }) ∨
    ∃ source rate, rate ≠ s.input.rate ∧ s.formatter.state = .idle ∧ s.engine.state = .disarmed ∧
      (serveSourceSelect p s).state = changeRate rate (s.setInput { s.input with source := source }) := by
  unfold serveSourceSelect
  split
  · split
    next source rate _ _ =>
      split
      · exact .inl rfl
      next hfree =>
        by_cases hr : rate = s.input.rate
        · exact .inr (.inl ⟨source, by simp [hr, served]⟩)
        · have ⟨hf, he⟩ : s.formatter.state = .idle ∧ s.engine.state = .disarmed := by
            simpa [rateBlocked, hr] using hfree
          exact .inr (.inr ⟨source, rate, hr, hf, he, by simp [hr, served]⟩)
    · exact .inl rfl
  · exact .inl rfl

theorem serveRecordStart_cases : (serveRecordStart p s).state = s ∨ ∃ mode start program take,
    BitVec.toNat program ≤ 999 ∧ recordBlocked mode s = false ∧
      (serveRecordStart p s).state = startRecording mode start program take s := by
  unfold serveRecordStart
  split
  · split
    · exact .inl rfl
    · split
      · exact .inl rfl
      · split
        · exact .inl rfl
        next hp hb => exact .inr ⟨_, _, _, _, by omega, by simpa using hb, rfl⟩
  · exact .inl rfl

theorem serveRecordStop_cases : (serveRecordStop p s).state = s ∨
    (serveRecordStop p s).state = s.setFormatter s.formatter.stop := by
  unfold serveRecordStop
  split
  · exact .inr rfl
  · exact .inl rfl

theorem serveLineageSetup_cases : (serveLineageSetup p s).state = s ∨ ∃ origin action,
    (serveLineageSetup p s).state = s.setLineage { s.lineage with origin := origin, action := action } := by
  unfold serveLineageSetup
  split
  · split
    · exact .inr ⟨_, _, rfl⟩
    · exact .inl rfl
  · exact .inl rfl

theorem serveConcealSetup_cases : (serveConcealSetup p s).state = s ∨ ∃ hlim ≤ 255,
    (serveConcealSetup p s).state = s.setConceal { s.conceal with hlim := hlim } := by
  unfold serveConcealSetup
  split
  next lim =>
    split
    · exact .inr ⟨_, by have := lim.isLt; omega, rfl⟩
    · exact .inl rfl
    · exact .inl rfl
  · exact .inl rfl

theorem serveQualityTotals_cases : (serveQualityTotals p s).state = s ∨
    (serveQualityTotals p s).state = s.setDecoder { s.decoder with totals := ⟨Totals.zero, Totals.zero⟩ } := by
  unfold serveQualityTotals
  split
  · split
    next clear _ => cases clear <;> simp [served]
    · exact .inl rfl
  · exact .inl rfl

theorem servePrereadSetup_cases : (servePrereadSetup p s).state = s ∨ ∃ d : Nat, 1 ≤ d ∧ d ≤ 4 ∧
    s.formatter.state = .idle ∧ s.engine.state = .disarmed ∧
      (servePrereadSetup p s).state = s.setDecoder { s.decoder with preread := d } := by
  unfold servePrereadSetup
  split
  · split
    · exact .inl rfl
    · split
      · exact .inl rfl
      next hd hb =>
        have ⟨hf, he⟩ := not_or.mp hb
        exact .inr ⟨_, by omega, by omega, not_not.mp hf, not_not.mp he, rfl⟩
  · exact .inl rfl

theorem serveGpiSetup_cases : (serveGpiSetup p s).state = s ∨ ∃ (i : Fin 4) (l : GpiLine),
    (l.depth = 1 ∨ l.depth = 2) ∧ l.queue = [] ∧ (serveGpiSetup p s).state = setLine i l s := by
  unfold serveGpiSetup
  split
  next dp _ =>
    split
    next depth _ _ _ _ hdepth _ =>
      refine .inr ⟨_, _, ?_, rfl, rfl⟩
      rw [depthOfCode_eq] at hdepth
      split at hdepth
      · injection hdepth
        subst depth
        dsimp only
        omega
      · contradiction
    · exact .inl rfl
  · exact .inl rfl

theorem serveMarkRead_cases : (serveMarkRead p s).state = s ∨ ∃ i : Fin 4,
    (serveMarkRead p s).state = setLine i
      { s.position.gpi[i] with queue := s.position.gpi[i].queue.tail, overwrite := false } s := by
  unfold serveMarkRead
  split
  · split
    · exact .inl rfl
    · dsimp only
      split
      · exact .inr ⟨_, rfl⟩
      · exact .inl rfl
  · exact .inl rfl

theorem serveCueAdd_cases : (serveCueAdd p s).state = s ∨ ∃ (inP outP fade : Nat) (program take : Word16),
    let e := newCue (nextId s.engine) inP outP fade program take
    badCue (spf s.input.rate) inP outP fade program.toNat = false ∧ s.engine.cues.length < 16 ∧
      s.engine.cues.any (overlaps (spf s.input.rate) e) = false ∧ beforeCursor inP s = false ∧
      (serveCueAdd p s).state =
        s.setEngine { s.engine with cues := insertCue e s.engine.cues, lastId := some e.id } := by
  unfold serveCueAdd
  split
  · unfold addCue
    dsimp only
    split
    · exact .inl rfl
    · split
      · exact .inl rfl
      · split
        · exact .inl rfl
        · split
          · exact .inl rfl
          next hbad hfull hover hbefore =>
            exact .inr ⟨_, _, _, _, _, by simpa using hbad, by simpa [Config.cueCap] using hfull,
              by simpa using hover, by simpa using hbefore, rfl⟩
  · exact .inl rfl

theorem serveCueRemove_cases : (serveCueRemove p s).state = s ∨ ∃ id e, findCue id s = some e ∧ e.state = .pending ∧
    (serveCueRemove p s).state = dropCue id s := by
  unfold serveCueRemove
  split
  · split
    · exact .inl rfl
    next e he =>
      split
      next hp => exact .inr ⟨_, e, he, hp, rfl⟩
      · exact .inl rfl
  · exact .inl rfl

theorem serveEditArm_cases : (serveEditArm p s).state = s ∨ ∃ arm, armBlocked s = false ∧
    (serveEditArm p s).state = armEngine arm s := by
  unfold serveEditArm
  split
  · split
    · dsimp only
      split
      · exact .inl rfl
      · split
        · exact .inl rfl
        next hb _ => exact .inr ⟨_, by simpa using hb, rfl⟩
    · exact .inl rfl
  · exact .inl rfl

theorem serveEditDisarm_cases : (serveEditDisarm p s).state = s ∨
    s.engine.state ≠ .active ∧ (serveEditDisarm p s).state = disarm s := by
  unfold serveEditDisarm
  split
  · split
    · exact .inl rfl
    next ha => exact .inr ⟨ha, rfl⟩
  · exact .inl rfl

theorem serveEditAbort_cases : (serveEditAbort p s).state = s ∨
    s.engine.state = .active ∧ (serveEditAbort p s).state = s.setEngine { s.engine with pendingAbort := true } := by
  unfold serveEditAbort
  split
  · split
    next ha => exact .inr ⟨ha, rfl⟩
    · exact .inl rfl
  · exact .inl rfl

theorem serveEditSetup_cases : (serveEditSetup p s).state = s ∨ ∃ l : Nat, 2 ≤ l ∧ l ≤ 255 ∧
    s.engine.state = .disarmed ∧ (serveEditSetup p s).state = s.setEngine { s.engine with lockAgeReq := l } := by
  unfold serveEditSetup
  split
  next b =>
    split
    · exact .inl rfl
    · split
      next hd => exact .inr ⟨_, by omega, by have := b.isLt; omega, hd, rfl⟩
      · exact .inl rfl
  · exact .inl rfl

theorem serveRefusalListRead_cases : (serveRefusalListRead p s).state = s ∨
    (serveRefusalListRead p s).state = s.setLineage s.lineage.clearRefusals := by
  unfold serveRefusalListRead
  split
  · split
    next clear _ => cases clear <;> simp [served]
    · exact .inl rfl
  · exact .inl rfl

theorem serveTapeQuery_cases : (serveTapeQuery p s).state = s ∨
    (∃ kind f, (serveTapeQuery p s).state = removeQuery kind f s) ∨
    ∃ kind f, s.query.entries.find? (fun e => e.is kind f) = none ∧ s.query.entries.length < 4 ∧
      (serveTapeQuery p s).state =
        s.setQuery { s.query with entries := s.query.entries ++ [newQuery kind f s] } := by
  unfold serveTapeQuery
  split
  · split
    · exact .inl rfl
    · dsimp only
      split
      next e he =>
        unfold answerRepeat
        split
        · exact .inr (.inl ⟨_, _, rfl⟩)
        · exact .inl rfl
        · exact .inl rfl
      next hnone =>
        split
        · exact .inl rfl
        next hfull => exact .inr (.inr ⟨_, _, hnone, by simpa [Config.queryCap] using hfull, rfl⟩)
  · exact .inl rfl

theorem serveQueryCancel_cases : (serveQueryCancel p s).state = s ∨
    ∃ kind f, (serveQueryCancel p s).state = removeQuery kind f s := by
  unfold serveQueryCancel
  split
  · split
    · exact .inl rfl
    · dsimp only
      split
      · exact .inr ⟨_, _, rfl⟩
      · exact .inl rfl
  · exact .inl rfl

theorem serveQuerySetup_cases : (serveQuerySetup p s).state = s ∨
    ∃ limit, (serveQuerySetup p s).state = s.setQuery { s.query with limit := limit } := by
  unfold serveQuerySetup
  split
  · exact .inr ⟨_, rfl⟩
  · exact .inl rfl

end Effects

/-! ## What evaluates -/

/-- Only NOTICE SETUP and NOTICE CLEAR ask for an evaluation. -/
theorem serve_evaluates {k : RequestKind} (h : k ≠ .noticeSetup) (h' : k ≠ .noticeClear) (p : List Byte) (s : State) :
    (k.serve p s).evaluates = false := by
  cases k
  case noticeSetup => exact absurd rfl h
  case noticeClear => exact absurd rfl h'
  all_goals
    simp only [RequestKind.serve, serveProbe, serveAssign, serveLinkStatus, servePartReset, serveLinkSetup,
      serveNoticeRead, serveSourceSelect, serveMonitorSelect, serveInputStatusRead, serveRecordStart, serveRecordStop,
      serveRecordStatus, serveLineageSetup, serveConcealSetup, serveQualityRead, serveQualityTotals, servePrereadSetup,
      servePositionRead, serveGpiSetup, serveMarkRead, serveCueAdd, addCue, serveCueRemove, serveCueRead, serveEditArm,
      serveEditDisarm, serveEditAbort, serveSpliceLogRead, serveEditSetup, serveLineageStatus, serveRefusalListRead,
      serveTapeQuery, answerRepeat, serveQueryCancel, serveQuerySetup]
    (repeat' split) <;> rfl

end Sys2Proof.Machine
end

section
/-! PROOFS. What the formatter's tick and the edit engine do to the part, said once: every one of their operations is built
of a few, so that whatever these few keep, all of them keep. -/

namespace Sys2Proof.Machine

/-- A change of a cue entry that leaves what R104 fixes when the entry is added. -/
structure KeepsCue (f : CueEntry → CueEntry) : Prop where
  id : ∀ e, (f e).id = e.id
  inPoint : ∀ e, (f e).inPoint = e.inPoint
  outPoint : ∀ e, (f e).outPoint = e.outPoint
  fade : ∀ e, (f e).fade = e.fade
  program : ∀ e, (f e).program = e.program

/-- `t` comes from `s` by operations of the formatter's tick and of the edit engine. -/
inductive Work : State → State → Prop
  | refl (s : State) : Work s s
  | raise {s t : State} (c : Cause) : Work s t → Work s (raise c t)
  | refused {s t : State} (w : FrameNo) (x : SpanContext) : Work s t → Work s (refusedReport w x t)
  | close {s t : State} : Work s t → Work s (closeSpan t)
  | engine {s t : State} (e : Engine) (h : Work s t) (cues : e.cues = t.engine.cues := by rfl) : Work s (t.setEngine e)
  | removeCue {s t : State} (id : Nat) : Work s t → Work s (removeCue id t)
  | changeCue {s t : State} (id : Nat) (f : CueEntry → CueEntry) (h : Work s t)
      (keeps : KeepsCue f := by constructor <;> exact fun _ => rfl) : Work s (changeCue id f t)
  | splice {s t : State} (f : Option PlayFrame) : Work s t →
      Work s (t.setOutput { t.output with fresh := { t.output.fresh with splice := f } })
  | conceal {s t : State} (head : Head) (number : Option FrameNo) (xs : Stereo (List (Option Sample))) :
      Work s t → Work s (t.setConceal (concealFrame t.conceal head number xs).1)
  | emit {s t : State} (origin : EmissionOrigin) (pairs : List Pair) (r : Subcode) : Work s t →
      Work s (emit origin pairs r t)
  | endRecording {s t : State} (reason : EndReason) : Work s t → Work s (endRecording reason t)

namespace Work
variable {s t : State}

theorem trans {u : State} (h : Work s t) (h' : Work t u) : Work s u := by
  induction h' with
  | refl => exact h
  | raise c _ ih => exact ih.raise c
  | refused w x _ ih => exact ih.refused w x
  | close _ ih => exact ih.close
  | engine e _ hc ih => exact ih.engine e hc
  | removeCue id _ ih => exact ih.removeCue id
  | changeCue id f _ hf ih => exact ih.changeCue id f hf
  | splice f _ ih => exact ih.splice f
  | conceal head number xs _ ih => exact ih.conceal head number xs
  | emit origin pairs r _ ih => exact ih.emit origin pairs r
  | endRecording reason _ ih => exact ih.endRecording reason

theorem raiseIf (b : Bool) (c : Cause) (h : Work s t) : Work s (raiseIf b c t) := by
  cases b
  · exact h
  · exact h.raise c

/-! ## The formatter's tick -/

theorem finishStopping (h : Work s t) : Work s (finishStopping t) := by
  unfold Machine.finishStopping
  split
  · exact (h.endRecording _).close
  · exact h

theorem recordFrame (h : Work s t) : Work s (recordFrame t) := by
  unfold Machine.recordFrame
  dsimp only
  split
  · exact (h.emit _ _ _).close.finishStopping
  · exact ((h.emit _ _ _).refused _ _).finishStopping
  · exact ((h.endRecording _).refused _ _).close

theorem formatterTick (h : Work s t) : Work s (formatterTick t) := by
  unfold Machine.formatterTick
  split
  · exact h
  · exact h.recordFrame
  · exact h.recordFrame

/-! ## The end of an entry -/

theorem logRecord (r : SpliceRecord) (h : Work s t) : Work s (logRecord r t) := h.engine _

theorem leaveList (id : Nat) (h : Work s t) : Work s (leaveList id t) := by
  unfold Machine.leaveList
  split
  · exact h.removeCue id
  · exact h.changeCue id _

end Work

/-- Placing the cursor leaves the list. -/
@[simp] theorem Engine.pointTo_cues (e : Engine) (next : Option CueEntry) : (e.pointTo next).cues = e.cues := by
  unfold Engine.pointTo Engine.passLast
  (repeat' split) <;> rfl

namespace Work
variable {s t : State}

theorem advanceCursor (next : Option CueEntry) (h : Work s t) : Work s (advanceCursor next t) :=
  h.engine _ (Engine.pointTo_cues _ _)

theorem reportEnd (h : Work s t) : Work s (reportEnd t) := by
  unfold Machine.reportEnd
  split
  · exact h.close
  · exact h

theorem endEntry (r : SpliceRecord) (h : Work s t) : Work s (endEntry r t) :=
  ((((h.logRecord r).raise _).leaveList _).advanceCursor _).reportEnd

theorem endActive (o : EntryOutcome) (x : Option Reason) (b : Bool) (h : Work s t) : Work s (endActive o x b t) := by
  unfold Machine.endActive
  split
  · exact h.endEntry _
  · exact h

/-! ## Producing a frame -/

theorem concealInto (head : Head) (number : Option FrameNo) (xs : Stereo (List (Option Sample))) (h : Work s t) :
    Work s (concealInto head number xs t).1 :=
  (h.conceal head number xs).raiseIf _ _

theorem fetchOld (h : Work s t) : Work s (fetchOld t).1 := by
  unfold Machine.fetchOld
  split
  · exact h
  · exact h.concealInto _ _ _

theorem handOn (f : SpliceFrame) (e : CueEntry) (h : Work s t) : Work s (handOn f e t) := by
  unfold Machine.handOn
  dsimp only
  split
  · exact ((h.engine _).splice _).emit _ _ _
  · exact (h.engine _).splice _

theorem addDegraded (e : CueEntry) (k : Nat) (h : Work s t) : Work s (addDegraded e k t) :=
  h.changeCue _ _

theorem produceInput (e : CueEntry) (h : Work s t) : Work s (produceInput e t) := by
  have hfetch : Work s (if isInserted e (t.position.w.toNat * spf t.input.rate) (spf t.input.rate) = true
      then (t, OldSide.none) else Machine.fetchOld t).1 := by
    split
    · exact h
    · exact h.fetchOld
  exact (((hfetch.addDegraded e _).handOn _ e).changeCue _ _).reportEnd

theorem awaitEnd (x : Ending) (h : Work s t) : Work s (awaitEnd x t) := h.engine _

theorem produceFrame (e : CueEntry) (h : Work s t) : Work s (produceFrame e t) := by
  unfold Machine.produceFrame
  dsimp only
  split
  · split
    · exact (h.produceInput e).awaitEnd _
    · exact (h.produceInput e).endActive _ _ _
  · exact h.produceInput e

theorem produceFade (e : CueEntry) (refusal : Bool) (h : Work s t) : Work s (produceFade e refusal t) :=
  (h.fetchOld.addDegraded e _).handOn _ e

theorem abortRefused (e : CueEntry) (h : Work s t) : Work s (abortRefused e t) :=
  ((h.produceFade e true).refused _ _).awaitEnd _

theorem abortRequested (e : CueEntry) (h : Work s t) : Work s (abortRequested e t) := by
  unfold Machine.abortRequested
  dsimp only
  split
  · exact (h.produceFade e false).awaitEnd _
  · exact (h.produceFade e false).endActive _ _ _

/-! ## Arming, starting and the tick -/

theorem passOver (e : CueEntry) (h : Work s t) : Work s (passOver t e) :=
  ((h.logRecord _).raise _).removeCue _

theorem foldl_passOver (es : List CueEntry) (h : Work s t) : Work s (es.foldl Machine.passOver t) := by
  induction es generalizing t with
  | nil => exact h
  | cons e es ih => exact ih (h.passOver e)

theorem armEngine (m : ArmMode) (h : Work s t) : Work s (armEngine m t) := by
  unfold Machine.armEngine
  dsimp only
  have htaken : Work s (t.setEngine (t.engine.takeArm m)) := h.engine _
  split
  · exact (htaken.foldl_passOver _).engine _ (Engine.pointTo_cues _ _)
  · exact htaken.engine _ (Engine.pointTo_cues _ _)

theorem disarm (h : Work s t) : Work s (disarm t) := h.engine _

theorem engineRequest (f : GpiFunction) (h : Work s t) : Work s (engineRequest t f) := by
  unfold Machine.engineRequest
  split
  · split
    · exact h
    · exact h.armEngine _
  · exact h.disarm
  · exact h
  · exact h.engine _
  all_goals exact h

theorem foldl_engineRequest (fs : List GpiFunction) (h : Work s t) : Work s (fs.foldl Machine.engineRequest t) := by
  induction fs generalizing t with
  | nil => exact h
  | cons f fs ih => exact ih (h.engineRequest f)

theorem startEntry (e : CueEntry) (h : Work s t) : Work s (startEntry e t) := by
  unfold Machine.startEntry
  dsimp only
  exact (((h.engine _).changeCue _ _).raise _).produceFrame _

theorem refuseEntry (e : CueEntry) (h : Work s t) : Work s (refuseEntry e t) := (h.refused _ _).endEntry _

theorem compareEntries (es : List CueEntry) (h : Work s t) : Work s (compareEntries es t) := by
  induction es generalizing t with
  | nil => exact h
  | cons e es ih =>
    unfold Machine.compareEntries
    dsimp only
    split
    · exact h
    · split
      · exact ih (h.endEntry _)
      · split
        · exact ih (h.endEntry _)
        · split
          · exact ih (h.refuseEntry e)
          · exact h.startEntry e

theorem activeTick (h : Work s t) : Work s (activeTick t) := by
  unfold Machine.activeTick
  split
  · exact h
  next e _ =>
    split
    · exact h.endActive _ _ _
    · split
      · exact h.abortRefused e
      · split
        · exact h.abortRequested e
        · exact h.produceFrame e

theorem engineTick (fs : List GpiFunction) (h : Work s t) : Work s (engineTick fs t) := by
  unfold Machine.engineTick
  dsimp only
  have hfs := h.foldl_engineRequest fs
  split
  · exact hfs
  · exact hfs.compareEntries _
  · exact hfs.activeTick

/-! ## Frames written, the transport, the rewind and CUE REMOVE -/

theorem reachEnd (h : Work s t) : Work s (reachEnd t) := by
  unfold Machine.reachEnd
  split
  · exact h
  all_goals exact h.endActive _ _ _

theorem spliceWritten (w : FrameNo) (h : Work s t) : Work s (spliceWritten w t) := by
  unfold Machine.spliceWritten
  split
  · exact (h.engine _).reachEnd
  · exact h

theorem transportAbort (h : Work s t) : Work s (transportAbort t) := by
  unfold Machine.transportAbort
  split
  · exact h.endActive _ _ _
  · exact h

theorem rewind (h : Work s t) : Work s (rewind t) := by
  unfold Machine.rewind
  split
  · exact h.engine _ (Engine.pointTo_cues _ _)
  · exact h

theorem dropCue (id : Nat) (h : Work s t) : Work s (dropCue id t) := by
  unfold Machine.dropCue
  dsimp only
  split
  · exact (h.removeCue id).engine _ (Engine.pointTo_cues _ _)
  · exact h.removeCue id

theorem emptyCues (h : Work s t) : Work s (emptyCues t) := by
  unfold Machine.emptyCues
  generalize t.engine.cues.map (fun e => e.id) = ids
  induction ids generalizing t with
  | nil => exact h
  | cons id ids ih => exact ih (h.removeCue id)

end Work

/-- A written frame leaves the emission, and then the engine works on its end. -/
theorem frameWritten_work {s : State} {e : Emission} (h : s.formatter.emission = some e) :
    Work (s.setFormatter (s.formatter.finish e)) (frameWritten s) := by
  unfold frameWritten
  rw [h]
  dsimp only
  split
  · exact (Work.refl _).spliceWritten _
  · exact .refl _

theorem frameWritten_none {s : State} (h : s.formatter.emission = none) : frameWritten s = s := by
  unfold frameWritten
  rw [h]

/-! ## What all of it leaves -/

namespace Work
variable {s t : State}

/-- The blocks that the formatter's tick and the engine never touch. -/
structure Leaves (s t : State) : Prop where
  pending : t.pending = s.pending
  pins : t.pins = s.pins
  sampleCount : t.sampleCount = s.sampleCount
  input : t.input = s.input
  gathered : t.gathered = s.gathered
  decoder : t.decoder = s.decoder
  ring : t.ring = s.ring
  position : t.position = s.position
  written : t.formatter.written = s.formatter.written
  unconfirmed : t.formatter.unconfirmed = s.formatter.unconfirmed

theorem leaves (h : Work s t) : Leaves s t := by
  induction h with
  | refl => exact ⟨rfl, rfl, rfl, rfl, rfl, rfl, rfl, rfl, rfl, rfl⟩
  | engine e _ _ ih => exact ⟨ih.1, ih.2, ih.3, ih.4, ih.5, ih.6, ih.7, ih.8, ih.9, ih.10⟩
  | splice f _ ih => exact ⟨ih.1, ih.2, ih.3, ih.4, ih.5, ih.6, ih.7, ih.8, ih.9, ih.10⟩
  | conceal _ _ _ _ ih => exact ⟨ih.1, ih.2, ih.3, ih.4, ih.5, ih.6, ih.7, ih.8, ih.9, ih.10⟩
  | changeCue _ _ _ _ ih => exact ⟨ih.1, ih.2, ih.3, ih.4, ih.5, ih.6, ih.7, ih.8, ih.9, ih.10⟩
  | removeCue _ _ ih => exact ⟨ih.1, ih.2, ih.3, ih.4, ih.5, ih.6, ih.7, ih.8, ih.9, ih.10⟩
  | emit _ _ _ _ ih => exact ⟨ih.1, ih.2, ih.3, ih.4, ih.5, ih.6, ih.7, ih.8, ih.9, ih.10⟩
  | endRecording _ _ ih => exact ⟨ih.1, ih.2, ih.3, ih.4, ih.5, ih.6, ih.7, ih.8, ih.9, ih.10⟩
  | raise c _ ih => constructor <;> simp [ih.pending, ih.pins, ih.sampleCount, ih.input, ih.gathered, ih.decoder,
      ih.ring, ih.position, ih.written, ih.unconfirmed]
  | refused w x _ ih => constructor <;> simp [ih.pending, ih.pins, ih.sampleCount, ih.input, ih.gathered, ih.decoder,
      ih.ring, ih.position, ih.written, ih.unconfirmed]
  | close _ ih => constructor <;> simp [ih.pending, ih.pins, ih.sampleCount, ih.input, ih.gathered, ih.decoder,
      ih.ring, ih.position, ih.written, ih.unconfirmed]

end Work

end Sys2Proof.Machine
end

section
/-! PROOFS. Every block but the link unit reaches the notice unit and the link unit by raising causes alone (11.2, 11.3). -/

namespace Sys2Proof.Machine

/-- `t` comes from `s` by raising causes and by changes of other blocks than the notice unit and the link unit. -/
inductive Raises : State → State → Prop
  | refl (s : State) : Raises s s
  | set {s t u : State} (h : Raises s t) (notice : u.notice = t.notice := by rfl) (link : u.link = t.link := by rfl) :
      Raises s u
  | raise {s t : State} (c : Cause) : Raises s t → Raises s (raise c t)

/-- What raisings and changes of other blocks keep, `Raises` keeps. -/
theorem Raises.keeps {P : State → Prop} (set : ∀ s t, t.notice = s.notice → t.link = s.link → P s → P t)
    (raised : ∀ c s, P s → P (Machine.raise c s)) {s t : State} (h : Raises s t) (hs : P s) : P t := by
  induction h with
  | refl => exact hs
  | set _ hn hl ih => exact set _ _ hn hl ih
  | raise c _ ih => exact raised c _ ih

theorem Work.raises {s t : State} (h : Work s t) : Raises s t := by
  induction h with
  | refl => exact .refl _
  | raise c _ ih => exact ih.raise c
  | refused w x _ ih =>
    unfold refusedReport
    split
    · exact ih.set
    · split
      · exact (ih.set).raise _
      · exact ((ih.set).raise _).raise _
  | close _ ih =>
    unfold closeSpan
    split
    · exact ih
    · exact (ih.set).raise _
  | engine _ _ _ ih => exact ih.set
  | removeCue _ _ ih => exact ih.set
  | changeCue _ _ _ _ ih => exact ih.set
  | splice _ _ ih => exact ih.set
  | conceal _ _ _ _ ih => exact ih.set
  | emit _ _ _ _ ih => exact ih.set
  | endRecording _ _ ih => exact ih.set

namespace Raises
variable {s t u : State}

theorem trans (h : Raises s t) (h' : Raises t u) : Raises s u := by
  induction h' with
  | refl => exact h
  | set _ hn hl ih => exact ih.set hn hl
  | raise c _ ih => exact ih.raise c

theorem raiseIf (b : Bool) (c : Cause) (h : Raises s t) : Raises s (raiseIf b c t) := by
  cases b
  · exact h
  · exact h.raise c

theorem work (h : Raises s t) (h' : Work t u) : Raises s u := h.trans h'.raises

/-! ## Input unit and lineage guard -/

theorem rederive (h : Raises s t) : Raises s (rederive t) := (h.set).raiseIf _ _

theorem closeSpan (h : Raises s t) : Raises s (closeSpan t) := h.work (.close (.refl t))

theorem closeCapture (h : Raises s t) : Raises s (closeCapture t) := by
  unfold Machine.closeCapture
  split
  · exact h
  · exact (h.set).raiseIf _ _

theorem captureTick (h : Raises s t) : Raises s (captureTick t) :=
  ((h.closeCapture.set).rederive).set (openCapture_notice _) (openCapture_link _)

theorem enterPair (source : Source) (p : Pair) (h : Raises s t) : Raises s (enterPair source p t) := by
  unfold Machine.enterPair
  split
  · exact h
  · split
    · exact h.set
    · exact h

theorem absenceExpiry (h : Raises s t) : Raises s (absenceExpiry t) := by
  unfold Machine.absenceExpiry
  split
  · exact h.rederive
  · exact h

/-! ## Query table -/

theorem updateQueries (f : QueryEntry → QueryEntry) (h : Raises s t) : Raises s (updateQueries f t) :=
  (h.set).raiseIf _ _

theorem discardQueries (h : Raises s t) : Raises s (discardQueries t) := (h.set).raiseIf _ _

theorem queryTick (h : Raises s t) : Raises s (queryTick t) := ((h.set).updateQueries _).discardQueries

theorem expireQueries (h : Raises s t) : Raises s (expireQueries t) := by
  unfold Machine.expireQueries
  split
  · exact h.updateQueries _
  · exact h

/-! ## Position unit -/

theorem gpiRequest (i : Fin 4) (h : Raises s t) : Raises s (gpiRequest i t) := ((h.set).raiseIf _ _).raiseIf _ _

theorem fallingEdge (i : Fin 4) (h : Raises s t) : Raises s (fallingEdge i t) := by
  unfold Machine.fallingEdge
  dsimp only
  split
  · exact h.gpiRequest i
  · exact h

theorem levelRequests (g : BitVec 4) (h : Raises s t) : Raises s (levelRequests g t) := by
  unfold Machine.levelRequests
  generalize gpiLines = lines
  induction lines generalizing t with
  | nil => exact h
  | cons i lines ih =>
    refine ih ?_
    unfold levelRequest
    dsimp only
    split
    · exact h.gpiRequest i
    · exact h

theorem newStart (w : FrameNo) (h : Raises s t) : Raises s (newStart w t) := (h.set).raiseIf _ _

theorem lockLoss (h : Raises s t) : Raises s (lockLoss t) := (h.set).raiseIf _ _

/-! ## Formatter, tick and transport -/

theorem frameWritten (h : Raises s t) : Raises s (frameWritten t) := by
  cases he : t.formatter.emission with
  | none => rwa [frameWritten_none he]
  | some e => exact (h.set).work (frameWritten_work he)

theorem frameTick (g : BitVec 4) (h : Raises s t) : Raises s (frameTick g t) := by
  unfold Machine.frameTick
  split
  · have hposition : Raises s (positionTick (clearHanded (Machine.frameWritten t))) := h.frameWritten.set
    have hqueries := (hposition.levelRequests g).captureTick.queryTick
    exact (hqueries.work ((Work.refl _).formatterTick.engineTick
      (handedRequests (Machine.frameWritten t)))).set
  · exact h

theorem recordingTransport (h : Raises s t) : Raises s (recordingTransport t) := by
  unfold Machine.recordingTransport
  split
  · exact (h.set).closeSpan
  · split
    · exact h.set
    · exact h.set

theorem leavePlay (h : Raises s t) : Raises s (leavePlay t) :=
  ((h.set (emptyBuffer_notice _) (emptyBuffer_link _)).recordingTransport.lockLoss).work (Work.refl _).transportAbort

theorem transportChange (x : Transport) (h : Raises s t) : Raises s (transportChange x t) := by
  unfold Machine.transportChange
  dsimp only
  have hpins : Raises s (t.setPins { t.pins with transport := x }) := h.set
  split
  · exact h
  · split <;> split
    · exact (hpins.leavePlay).set
    · exact hpins.set
    · exact hpins.leavePlay
    · exact hpins

/-! ## The close of a tape frame -/

theorem judgeSubcode (x y : FrameNo) (h : Raises s t) : Raises s (judgeSubcode x y t) := by
  unfold Machine.judgeSubcode
  dsimp only
  split
  · split
    · exact ((h.set).work (Work.refl _).rewind).raiseIf _ _
    · exact (h.set).raiseIf _ _
  · exact h

/-! ## Requests -/

theorem changeRate (rate : Rate) (h : Raises s t) : Raises s (changeRate rate t) :=
  (((h.set (emptyBuffer_notice _) (emptyBuffer_link _)).work (Work.refl _).emptyCues).set).rederive

theorem startRecording (mode : RecordMode) (w : FrameNo) (program take : Word16) (h : Raises s t) :
    Raises s (startRecording mode w program take t) := by
  unfold Machine.startRecording
  dsimp only
  split
  · exact h.set
  · exact (h.set).newStart w

end Raises

/-- The service of a request of a block other than the link unit and the notice unit raises causes alone. -/
theorem serve_raises {k : RequestKind} (hk : k ∉ ([.assign, .linkStatus, .linkSetup, .partReset, .noticeSetup,
    .noticeClear] : List RequestKind)) (p : List Byte) (s : State) : Raises s (k.serve p s).state := by
  cases k
  case sourceSelect =>
    obtain h | ⟨_, h⟩ | ⟨_, _, _, _, _, h⟩ := serveSourceSelect_cases p s <;> rw [RequestKind.serve, h]
    · exact .refl s
    · exact (Raises.refl s).set
    · exact ((Raises.refl s).set).changeRate _
  case monitorSelect =>
    obtain h | ⟨_, h⟩ := serveMonitorSelect_cases p s <;> rw [RequestKind.serve, h]
    · exact .refl s
    · exact (Raises.refl s).set
  case recordStart =>
    obtain h | ⟨_, _, _, _, _, _, h⟩ := serveRecordStart_cases p s <;> rw [RequestKind.serve, h]
    · exact .refl s
    · exact (Raises.refl s).startRecording _ _ _ _
  case recordStop =>
    obtain h | h := serveRecordStop_cases p s <;> rw [RequestKind.serve, h]
    · exact .refl s
    · exact (Raises.refl s).set
  case lineageSetup =>
    obtain h | ⟨_, _, h⟩ := serveLineageSetup_cases p s <;> rw [RequestKind.serve, h]
    · exact .refl s
    · exact (Raises.refl s).set
  case concealSetup =>
    obtain h | ⟨_, _, h⟩ := serveConcealSetup_cases p s <;> rw [RequestKind.serve, h]
    · exact .refl s
    · exact (Raises.refl s).set
  case qualityTotals =>
    obtain h | h := serveQualityTotals_cases p s <;> rw [RequestKind.serve, h]
    · exact .refl s
    · exact (Raises.refl s).set
  case prereadSetup =>
    obtain h | ⟨_, _, _, _, _, h⟩ := servePrereadSetup_cases p s <;> rw [RequestKind.serve, h]
    · exact .refl s
    · exact (Raises.refl s).set
  case gpiSetup =>
    obtain h | ⟨_, _, _, _, h⟩ := serveGpiSetup_cases p s <;> rw [RequestKind.serve, h]
    · exact .refl s
    · exact (Raises.refl s).set
  case markRead =>
    obtain h | ⟨_, h⟩ := serveMarkRead_cases p s <;> rw [RequestKind.serve, h]
    · exact .refl s
    · exact (Raises.refl s).set
  case cueAdd =>
    obtain h | ⟨_, _, _, _, _, _, _, _, _, h⟩ := serveCueAdd_cases p s <;> rw [RequestKind.serve, h]
    · exact .refl s
    · exact (Raises.refl s).set
  case cueRemove =>
    obtain h | ⟨_, _, _, _, h⟩ := serveCueRemove_cases p s <;> rw [RequestKind.serve, h]
    · exact .refl s
    · exact ((Work.refl s).dropCue _).raises
  case editArm =>
    obtain h | ⟨_, _, h⟩ := serveEditArm_cases p s <;> rw [RequestKind.serve, h]
    · exact .refl s
    · exact ((Work.refl s).armEngine _).raises
  case editDisarm =>
    obtain h | ⟨_, h⟩ := serveEditDisarm_cases p s <;> rw [RequestKind.serve, h]
    · exact .refl s
    · exact (Raises.refl s).set
  case editAbort =>
    obtain h | ⟨_, h⟩ := serveEditAbort_cases p s <;> rw [RequestKind.serve, h]
    · exact .refl s
    · exact (Raises.refl s).set
  case editSetup =>
    obtain h | ⟨_, _, _, _, h⟩ := serveEditSetup_cases p s <;> rw [RequestKind.serve, h]
    · exact .refl s
    · exact (Raises.refl s).set
  case refusalListRead =>
    obtain h | h := serveRefusalListRead_cases p s <;> rw [RequestKind.serve, h]
    · exact .refl s
    · exact (Raises.refl s).set
  case tapeQuery =>
    obtain h | ⟨_, _, h⟩ | ⟨_, _, _, _, h⟩ := serveTapeQuery_cases p s <;> rw [RequestKind.serve, h]
    · exact .refl s
    · exact (Raises.refl s).set
    · exact (Raises.refl s).set
  case queryCancel =>
    obtain h | ⟨_, _, h⟩ := serveQueryCancel_cases p s <;> rw [RequestKind.serve, h]
    · exact .refl s
    · exact (Raises.refl s).set
  case querySetup =>
    obtain h | ⟨_, h⟩ := serveQuerySetup_cases p s <;> rw [RequestKind.serve, h]
    · exact .refl s
    · exact (Raises.refl s).set
  case assign => exact absurd (by decide) hk
  case linkStatus => exact absurd (by decide) hk
  case linkSetup => exact absurd (by decide) hk
  case partReset => exact absurd (by decide) hk
  case noticeSetup => exact absurd (by decide) hk
  case noticeClear => exact absurd (by decide) hk
  all_goals simpa [RequestKind.serve] using Raises.refl s

/-! ## The close of a tape frame, stage by stage -/

@[simp] theorem length_concealRun_outs (hlim : Nat) (st : ChannelState) (before : Option Sample)
    (xs : List (Option Sample)) : (concealRun hlim st before xs).outs.length = xs.length := by
  induction xs generalizing st before with
  | nil => rfl
  | cons x xs ih => simp [concealRun, ih]

/-- A concealed frame has as many pairs as each of its channels has samples. -/
theorem length_concealFrame_pairs (c : Conceal) (head : Head) (number : Option FrameNo)
    {xs : Stereo (List (Option Sample))} {n : Nat} (hl : xs.l.length = n) (hr : xs.r.length = n) :
    (concealFrame c head number xs).2.pairs.length = n := by
  simp [concealFrame, joinChannels, concealChannel, hl, hr]

/-- What each stage of a head's frame end keeps, the frame end keeps. -/
theorem closeFrame_stages {P : State → Prop} {hd : Head} {s : State} (raised : ∀ c u, P u → P (raise c u))
    (opened : P (openAssembly hd s))
    (concealed : ∀ number xs u, P u → P (u.setConceal (concealFrame u.conceal hd number xs).1))
    (quality : ∀ q u, P u → P (recordQuality hd q u)) (judged : ∀ x y u, P u → P (judgeSubcode x y u))
    (output : ∀ o u, P u → P (u.setOutput o))
    (ring : ∀ e u, e.pairs.length = spf s.input.rate → P u → P (u.setRing (joinRing u.position.w e u.ring)))
    (confirmed : ∀ n u, P u → P (confirm n u)) (reported : ∀ r u, P u → P (reportQueries r u)) :
    P (closeFrame hd s) := by
  have raisedIf (b : Bool) (c : Cause) {u : State} (hu : P u) : P (raiseIf b c u) := by
    cases b
    · exact hu
    · exact raised c u hu
  have hposition (sub : Option Subcode) (x : FrameNo) {u : State} (hu : P u) : P (toPosition hd sub x u) := by
    unfold toPosition
    split
    · exact judged _ _ _ hu
    · exact hu
    · exact hu
  have hring (number : Option FrameNo) (sub : Option Subcode) {c : ConcealedFrame} {u : State}
      (hc : c.pairs.length = spf s.input.rate) (hu : P u) : P (toRing hd number sub c u) := by
    unfold toRing
    split
    · exact ring _ _ hc hu
    · exact hu
    · exact hu
  have hconfirm (number : Option FrameNo) (lost : Nat) {u : State} (hu : P u) : P (toConfirm hd number lost u) := by
    unfold toConfirm
    split
    · split
      · exact raisedIf _ _ (confirmed _ _ hu)
      · exact hu
    · exact hu
    · exact hu
  unfold closeFrame
  extract_lets a n sub number mismatch samples out q
  have hlen : out.2.pairs.length = n := by
    refine length_concealFrame_pairs _ _ _ ?_ ?_
    · show (if mismatch = true then allInvalid n else frameSamples n a).l.length = n
      split <;> simp [allInvalid, frameSamples]
    · show (if mismatch = true then allInvalid n else frameSamples n a).r.length = n
      split <;> simp [allInvalid, frameSamples]
  have hquality : P (recordQuality hd q out.1) :=
    quality _ _ (raisedIf _ _ (concealed _ _ _ (raisedIf _ _ opened)))
  exact reported _ _ (hconfirm _ _ (hring _ _ hlen (output _ _ (hposition _ _ hquality))))

theorem Raises.closeFrame (hd : Head) (s : State) : Raises s (closeFrame hd s) :=
  closeFrame_stages (P := Raises s) (fun c _ h => h.raise c) (Raises.refl s).set (fun _ _ _ h => h.set)
    (fun _ _ h => h.set) (fun x y _ h => h.judgeSubcode x y) (fun _ _ h => h.set) (fun _ _ _ h => h.set)
    (fun _ _ h => h.set) (fun _ _ h => h.updateQueries _)

/-! ## Blocks that the link unit leaves alone -/

/-- Each event and each service of a block other than the link unit, the notice unit and the output unit keeps `P`, which
holds after a reset and does not look at those three units, nor at the levels of the link's own pins. -/
structure BlockKept (P : State → Prop) : Prop where
  pending : ∀ x s, P s → P (s.setPending x)
  link : ∀ x s, P s → P (s.setLink x)
  notice : ∀ x s, P s → P (s.setNotice x)
  output : ∀ x s, P s → P (s.setOutput x)
  pins : ∀ x s, x.transport = s.pins.transport → x.locked = s.pins.locked → P s → P (s.setPins x)
  power : ∀ pins pending, P (State.powerOn pins pending)
  count : ∀ s, P s → P (s.setSampleCount (satInc Config.max16 s.sampleCount))
  pair : ∀ source p s, P s → P (enterPair source p s)
  lockIndication : ∀ a s, P s → P (lockIndication a s)
  statusArrival : ∀ a s, P s → P (statusArrival a s)
  blockArrival : ∀ h bytes s, P s → P (blockArrival h bytes s)
  headFrameEnd : ∀ h s, P s → P (closeFrame h s)
  transport : ∀ t s, P s → P (transportChange t s)
  tick : ∀ g s, P s → P (frameTick g s)
  absence : ∀ s, P s → P (absenceExpiry s)
  expiry : ∀ s, P s → P (expireQueries s)
  discard : ∀ s, P s → P (discardQueries s)
  written : ∀ s, P s → P (frameWritten s)
  edge : ∀ i s, P s → P (fallingEdge i s)
  serve : ∀ k ∈ ([.sourceSelect, .recordStart, .recordStop, .lineageSetup, .concealSetup, .qualityTotals,
    .prereadSetup, .gpiSetup, .markRead, .cueAdd, .cueRemove, .editArm, .editDisarm, .editAbort, .editSetup,
    .refusalListRead, .tapeQuery, .queryCancel, .querySetup] : List RequestKind),
    ∀ p s, P s → P (k.serve p s).state

section BlockKept
variable {P : State → Prop} (h : BlockKept P) {s : State}
include h

theorem BlockKept.raise (c : Cause) (hs : P s) : P (raise c s) := by
  obtain ⟨_, _, _, hr, _⟩ := raise_shape c s
  rw [hr]
  exact h.link _ _ (h.notice _ _ hs)

theorem BlockKept.evaluate (hs : P s) : P (evaluate s) := by
  obtain ⟨_, _, hr⟩ := evaluate_shape s
  rw [hr]
  exact h.link _ _ (h.notice _ _ hs)

theorem BlockKept.setFlags (mask : BitVec 8) (hs : P s) : P (setFlags mask s) := by
  obtain ⟨_, _, _, _, hr⟩ := setFlags_shape mask s
  rw [hr]
  exact h.link _ _ (h.notice _ _ hs)

theorem BlockKept.serveAny (k : RequestKind) (p : List Byte) (hs : P s) : P (k.serve p s).state := by
  cases k
  case assign =>
    obtain hc | ⟨_, _, _, _, _, hc⟩ := serveAssign_cases p s <;> rw [RequestKind.serve, hc]
    · exact hs
    · exact h.link _ _ hs
  case linkStatus =>
    obtain hc | ⟨_, hc⟩ := serveLinkStatus_cases p s <;> rw [RequestKind.serve, hc]
    · exact hs
    · exact h.link _ _ hs
  case linkSetup =>
    obtain hc | ⟨_, _, _, hc⟩ := serveLinkSetup_cases p s <;> rw [RequestKind.serve, hc]
    · exact hs
    · exact h.link _ _ hs
  case partReset =>
    obtain hc | hc := servePartReset_cases p s <;> rw [RequestKind.serve, hc]
    · exact hs
    · exact h.link _ _ hs
  case noticeSetup =>
    obtain ⟨hc, _⟩ | ⟨_, _, _, hc, _⟩ := serveNoticeSetup_cases p s <;> rw [RequestKind.serve, hc]
    · exact hs
    · exact h.notice _ _ hs
  case noticeClear =>
    obtain ⟨hc, _⟩ | ⟨_, _, hc, _⟩ := serveNoticeClear_cases p s <;> rw [RequestKind.serve, hc]
    · exact hs
    · exact h.notice _ _ hs
  case monitorSelect =>
    obtain hc | ⟨_, hc⟩ := serveMonitorSelect_cases p s <;> rw [RequestKind.serve, hc]
    · exact hs
    · exact h.output _ _ hs
  case probe => simpa [RequestKind.serve] using hs
  case noticeRead => simpa [RequestKind.serve] using hs
  case inputStatusRead => simpa [RequestKind.serve] using hs
  case recordStatus => simpa [RequestKind.serve] using hs
  case qualityRead => simpa [RequestKind.serve] using hs
  case positionRead => simpa [RequestKind.serve] using hs
  case cueRead => simpa [RequestKind.serve] using hs
  case spliceLogRead => simpa [RequestKind.serve] using hs
  case lineageStatus => simpa [RequestKind.serve] using hs
  all_goals exact h.serve _ (by decide) p s hs

theorem BlockKept.silent (k : RequestKind) (p : List Byte) (hs : P s) : P (k.serve p s).silent := by
  unfold Served.silent
  split
  · exact h.evaluate (h.serveAny k p hs)
  · exact h.serveAny k p hs

theorem BlockKept.service (k : RequestKind) (hs : P s) : P (service k k.serve s) := by
  unfold Machine.service
  split
  · exact hs
  · split
    · unfold serveRequest
      dsimp only
      split
      · exact h.evaluate (h.link _ _ (h.serveAny k _ hs))
      · exact h.link _ _ (h.serveAny k _ hs)
    · exact hs

theorem BlockKept.linkReply (st : Status) (flags : BitVec 8) (f : Frame) (hs : P s) : P (linkReply st flags f s) := by
  unfold Machine.linkReply
  split
  · exact h.setFlags _ hs
  · exact h.setFlags _ (h.link _ _ hs)

theorem BlockKept.noDeck (f : Frame) (hs : P s) : P (noDeck f s) := by
  unfold Machine.noDeck
  split
  · exact h.linkReply _ _ f hs
  · exact h.setFlags _ hs

theorem BlockKept.forwardAddressed (f : Frame) (hs : P s) : P (forwardAddressed f s) := by
  unfold Machine.forwardAddressed
  split
  · split
    · exact h.setFlags _ hs
    · exact h.link _ _ hs
  · exact h.noDeck f hs

theorem BlockKept.takeFrame (f : Frame) (hs : P s) : P (takeFrame f s) := by
  unfold Machine.takeFrame
  split
  · exact h.setFlags _ hs
  · split
    · exact h.linkReply _ _ f hs
    · split
      · exact h.linkReply _ _ f hs
      · split
        · exact h.linkReply _ _ f hs
        · exact h.link _ _ hs

theorem BlockKept.broadcast (f : Frame) (hs : P s) : P (broadcast f s) := by
  unfold Machine.broadcast
  split
  next k _ =>
    split
    · unfold broadcastFrame
      dsimp only
      have hcopy : P (if hasCopy s = true then holdCopy f s else s) := iteInduction (fun _ => h.link _ _ hs) (fun _ => hs)
      have ht := h.setFlags (broadcastFlags k f s) hcopy
      generalize Machine.setFlags (broadcastFlags k f s) (if hasCopy s = true then holdCopy f s else s) = t at ht ⊢
      split
      · exact ht
      · split
        · split
          · exact ht
          · exact h.link _ _ ht
        · obtain he | he := serveBroadcast_cases k f.payload t <;> rw [he]
          · exact h.silent k _ ht
          · exact ht
    · exact h.setFlags _ hs
  · exact h.setFlags _ hs

theorem BlockKept.fromUpstream (f : Frame) (hs : P s) : P (fromUpstream f s) := by
  unfold Machine.fromUpstream
  split
  · exact h.broadcast f hs
  · split
    · unfold routeAssigned
      split
      · exact h.forwardAddressed f hs
      · split
        · exact h.takeFrame f hs
        · split
          · exact h.forwardAddressed f hs
          · exact h.noDeck f hs
    · split
      · exact h.takeFrame f hs
      · exact h.noDeck f hs

theorem BlockKept.onReceived (side : Side) (x : Received) (hs : P s) : P (onReceived side x s) := by
  unfold Machine.onReceived
  split
  · exact hs
  · exact h.setFlags _ hs
  · exact h.setFlags _ hs
  · split
    · exact h.fromUpstream _ hs
    · unfold fromDownstream
      split
      · exact h.setFlags _ hs
      · exact h.link _ _ hs

theorem BlockKept.upSent (hs : P s) : P (upSent s) := by
  unfold Machine.upSent
  split
  · exact hs
  · dsimp only
    split
    · exact h.link _ _ hs
    · split
      · exact h.link _ _ hs
      · exact h.setFlags _ (h.link _ _ hs)
      · split
        · exact h.link _ _ (h.link _ _ hs)
        · exact h.link _ _ hs

theorem BlockKept.presentChange (high : Bool) (hs : P s) : P (presentChange high s) := by
  have hp : P (s.setPins { s.pins with present := high }) := h.pins _ _ rfl rfl hs
  unfold Machine.presentChange
  dsimp only
  split
  · unfold presentFall
    dsimp only
    split <;> split
    · exact h.link _ _ (h.setFlags _ (h.link _ _ hp))
    · exact h.link _ _ (h.link _ _ hp)
    · exact h.setFlags _ (h.link _ _ hp)
    · exact h.link _ _ hp
  · exact hp

theorem BlockKept.boundaryIfDue (hs : P s) : P (boundaryIfDue s) := by
  unfold Machine.boundaryIfDue
  split
  · exact h.output _ _ hs
  · exact hs

/-- The events of the link unit and the output unit keep what does not look at them. -/
theorem BlockKept.kept : Kept P where
  pending := h.pending
  power := h.power
  partReset _ _ := h.link _ _ (h.power _ _)
  sampleClock p s hs := h.output _ _ (h.boundaryIfDue (h.count _ (h.pair .converter p s hs)))
  boundary _ hs := h.boundaryIfDue hs
  receiverPair := h.pair .digital
  lockIndication := h.lockIndication
  statusArrival := h.statusArrival
  blockArrival := h.blockArrival
  headFrameEnd := h.headFrameEnd
  transport := h.transport
  tick := h.tick
  absence := h.absence
  expiry := h.expiry
  discard := h.discard
  written := h.written
  edge := h.edge
  receiver side r s hs := by cases side <;> exact h.link _ _ hs
  received side x s hs := h.onReceived side x hs
  arbiter s hs := by
    unfold arbitrate
    split
    · split
      · exact h.link _ _ hs
      · exact hs
    · exact hs
  upSent _ hs := h.upSent hs
  startDown s hs := by
    unfold startDown
    split
    · split
      · exact h.link _ _ hs
      · exact hs
    · exact hs
  downSent s hs := by
    unfold downSent
    split
    · exact hs
    · dsimp only
      split
      · exact h.link _ _ (h.link _ _ hs)
      · exact h.link _ _ hs
  hold side a s hs := by cases side <;> exact h.pins _ _ rfl rfl hs
  present high _ hs := h.presentChange high hs
  service k _ hs := h.service k hs

end BlockKept

end Sys2Proof.Machine
end

section
/-! PROOFS. The notice unit (11): the leading cause, what a raising reports, and the notice requests at service. -/

namespace Sys2Proof.Machine

/-! ## The leading cause (R179) -/

theorem mem_allCauses (c : Cause) : c ∈ allCauses := by cases c <;> decide

theorem allCauses_ascending : allCauses.Pairwise (fun a b => (causeIndex a).val < (causeIndex b).val) := by decide

theorem causeIndex_injective {c d : Cause} (h : causeIndex c = causeIndex d) : c = d := by
  revert h; cases c <;> cases d <;> decide

/-- `d` does not outrank `c`: its priority is lower, or it is the same and its code is not lower. -/
def NoticeUnit.Outranks (n : NoticeUnit) (c d : Cause) : Prop :=
  n.priorityOf d < n.priorityOf c ∨ (n.priorityOf d = n.priorityOf c ∧ (causeIndex c).val ≤ (causeIndex d).val)

/-- `best` is the leading cause among `causes`. -/
def NoticeUnit.LeadsAmong (n : NoticeUnit) (causes : List Cause) : Option Cause → Prop
  | none => ∀ d ∈ causes, hasCause n.reported d = false
  | some c => c ∈ causes ∧ hasCause n.reported c = true ∧ ∀ d ∈ causes, hasCause n.reported d = true → n.Outranks c d

/-- A cause of higher code than all before it leads only by a higher priority. -/
theorem leadStep_leads {n : NoticeUnit} {causes : List Cause} {best : Option Cause} {c : Cause}
    (h : n.LeadsAmong causes best) (hc : ∀ d ∈ causes, (causeIndex d).val < (causeIndex c).val) :
    n.LeadsAmong (causes ++ [c]) (leadStep n best c) := by
  unfold leadStep
  split
  next hrep =>
    cases best with
    | none =>
      refine ⟨by simp, hrep, fun d hd hrd => ?_⟩
      obtain hd | rfl : d ∈ causes ∨ d = c := by simpa using hd
      · simp [h d hd] at hrd
      · exact .inr ⟨rfl, Nat.le_refl _⟩
    | some b =>
      obtain ⟨hb, hrb, hbest⟩ := h
      dsimp only
      split
      next hlt =>
        refine ⟨by simp, hrep, fun d hd hrd => ?_⟩
        obtain hd | rfl : d ∈ causes ∨ d = c := by simpa using hd
        · have := hbest d hd hrd
          unfold NoticeUnit.Outranks at this ⊢
          omega
        · exact .inr ⟨rfl, Nat.le_refl _⟩
      next hge =>
        refine ⟨by simp [hb], hrb, fun d hd hrd => ?_⟩
        obtain hd | rfl : d ∈ causes ∨ d = c := by simpa using hd
        · exact hbest d hd hrd
        · have := hc b hb
          unfold NoticeUnit.Outranks
          omega
  next hrep =>
    cases best with
    | none =>
      intro d hd
      obtain hd | rfl : d ∈ causes ∨ d = c := by simpa using hd
      · exact h d hd
      · simpa using hrep
    | some b =>
      obtain ⟨hb, hrb, hbest⟩ := h
      refine ⟨by simp [hb], hrb, fun d hd hrd => ?_⟩
      obtain hd | rfl : d ∈ causes ∨ d = c := by simpa using hd
      · exact hbest d hd hrd
      · exact absurd hrd hrep

theorem foldl_leadStep_leads (n : NoticeUnit) (post : List Cause) {pre : List Cause} {best : Option Cause}
    (hasc : (pre ++ post).Pairwise (fun a b => (causeIndex a).val < (causeIndex b).val))
    (h : n.LeadsAmong pre best) : n.LeadsAmong (pre ++ post) (post.foldl (leadStep n) best) := by
  induction post generalizing pre best with
  | nil => simpa using h
  | cons c post ih =>
    rw [List.append_cons] at hasc ⊢
    refine ih hasc (leadStep_leads h fun d hd => ?_)
    exact (List.pairwise_append.mp (List.pairwise_append.mp hasc).1).2.2 d hd c (by simp)

theorem leading_leads (n : NoticeUnit) : n.LeadsAmong allCauses n.leading :=
  foldl_leadStep_leads n allCauses (pre := []) (best := none) allCauses_ascending (by simp [NoticeUnit.LeadsAmong])

theorem leading_eq_none_iff (n : NoticeUnit) : n.leading = none ↔ ∀ c, hasCause n.reported c = false := by
  have h := leading_leads n
  constructor
  · intro hn c
    rw [hn] at h
    exact h c (mem_allCauses c)
  · intro hn
    cases hl : n.leading with
    | none => rfl
    | some c =>
      rw [hl] at h
      obtain ⟨_, hrep, _⟩ := h
      simp [hn c] at hrep

theorem leading_eq_some_iff (n : NoticeUnit) (c : Cause) : n.leading = some c ↔
    hasCause n.reported c = true ∧ ∀ d, hasCause n.reported d = true → n.Outranks c d := by
  have h := leading_leads n
  constructor
  · intro hc
    rw [hc] at h
    obtain ⟨_, hrep, hbest⟩ := h
    exact ⟨hrep, fun d => hbest d (mem_allCauses d)⟩
  · rintro ⟨hrep, hbest⟩
    cases hl : n.leading with
    | none => simp [(leading_eq_none_iff n).mp hl c] at hrep
    | some b =>
      rw [hl] at h
      obtain ⟨_, hrb, hb⟩ := h
      have h1 := hbest b hrb
      have h2 := hb c (mem_allCauses c) hrep
      unfold NoticeUnit.Outranks at h1 h2
      exact congrArg some (causeIndex_injective (Fin.ext (by omega)))

/-- Settles O15: the fold over the causes in the order of their codes keeps the leader of those it has met. -/
theorem leadingCauseIsHighest : Obligations.LeadingCauseIsHighest :=
  fun n => ⟨leading_eq_some_iff n, leading_eq_none_iff n⟩

/-! ## Evaluation and raising (R178, R179) -/

/-- No enabled pending cause outranks the leading one. -/
theorem priorityOf_le_of_leading {n : NoticeUnit} {c d : Cause} (h : n.leading = some c)
    (hd : hasCause n.reported d = true) : n.priorityOf d ≤ n.priorityOf c := by
  have := ((leading_eq_some_iff n c).mp h).2 d hd
  unfold NoticeUnit.Outranks at this
  omega

/-- An evaluation with no cause above Lr does nothing. -/
theorem evaluate_of_none {s : State}
    (h : ¬∃ d, hasCause s.notice.reported d = true ∧ s.notice.lr < (s.notice.priorityOf d : Int)) : evaluate s = s := by
  unfold evaluate
  split
  · rfl
  next c hc => exact if_neg fun hlt => h ⟨c, ((leading_eq_some_iff _ c).mp hc).1, hlt⟩

/-- An evaluation with a cause above Lr reports the leading one. -/
theorem evaluate_of_exists {s : State}
    (h : ∃ d, hasCause s.notice.reported d = true ∧ s.notice.lr < (s.notice.priorityOf d : Int)) :
    ∃ d, s.notice.leading = some d ∧ evaluate s = (s.setNotice { s.notice with lr := s.notice.priorityOf d }).setLink
      { s.link with own := queueNotice s.link.own (noticeFrame s.link s.notice d) } := by
  obtain ⟨d, hd, hlt⟩ := h
  cases hl : s.notice.leading with
  | none => simp [(leading_eq_none_iff _).mp hl d] at hd
  | some c =>
    have hle := priorityOf_le_of_leading hl hd
    refine ⟨c, rfl, ?_⟩
    unfold evaluate
    rw [hl]
    exact if_pos (by omega)

/-- With no NOTICE waiting, a new one joins as the newest. -/
theorem queueNotice_of_none {own : List OwnFrame} (h : ∀ o ∈ own, o.kind ≠ .notice) (f : Frame) :
    queueNotice own f = own ++ [{ kind := .notice, frame := f }] := by
  refine if_neg ?_
  simpa using h

theorem map_noticeFrame_of_none {own : List OwnFrame} (h : ∀ o ∈ own, o.kind ≠ .notice) (f : Frame) :
    own.map (fun o => if o.kind == .notice then { o with frame := f } else o) = own := by
  conv => rhs; rw [← List.map_id own]
  exact List.map_congr_left fun o ho => if_neg (by simpa using h o ho)

/-- A NOTICE that waits is replaced in its place. -/
theorem queueNotice_of_waiting {pre post : List OwnFrame} (h : ∀ o ∈ pre ++ post, o.kind ≠ .notice) (f g : Frame) :
    queueNotice (pre ++ { kind := .notice, frame := g } :: post) f
      = pre ++ { kind := .notice, frame := f } :: post := by
  unfold queueNotice
  rw [if_pos (by simp), List.map_append, List.map_cons,
    map_noticeFrame_of_none (fun o ho => h o (List.mem_append_left _ ho)),
    map_noticeFrame_of_none (fun o ho => h o (List.mem_append_right _ ho))]
  rfl

/-- Settles O16: a raising of a new cause is the evaluation of the set that the cause has joined. -/
theorem raisedCauseIsReported : Obligations.RaisedCauseIsReported := by
  refine ⟨fun c s h => if_pos h, fun c s h => ?_, fun own f h => queueNotice_of_none h f,
    fun pre post f g h => queueNotice_of_waiting h f g⟩
  intro n exceeds
  have hraise : raise c s = evaluate (s.setNotice n) := if_neg (by simp [h])
  rw [hraise]
  exact ⟨fun hnone => evaluate_of_none (s := s.setNotice n) hnone,
    fun hsome => evaluate_of_exists (s := s.setNotice n) hsome⟩

/-! ## NOTICE SETUP, NOTICE CLEAR and NOTICE READ at service (R180, R181) -/

/-- A served request whose rule asks for an evaluation is evaluated once its reply is formed. -/
theorem serveRequest_evaluates {serve : List Byte → State → Served} {r : LinkRequest} {s t : State} {reply : List Byte}
    (h : serve r.payload s = { state := t, reply := reply, evaluates := true }) :
    serveRequest serve r s = evaluate (replied r reply t) := by
  simp [serveRequest, h, replied]

theorem causeOfCode_some_iff {code : Nat} {c : Cause} : causeOfCode code = some c ↔ (causeIndex c).val + 1 = code := by
  unfold causeOfCode
  constructor
  · intro h
    split at h
    · simp at h
    next hz =>
      obtain ⟨hlt, hget⟩ := List.getElem?_eq_some_iff.mp h
      have hall : ∀ i (hi : i < allCauses.length), (causeIndex allCauses[i]).val = i := by decide
      have := hall _ hlt
      rw [hget] at this
      omega
  · rintro rfl
    rw [if_neg (by omega), Nat.add_sub_cancel]
    cases c <;> rfl

theorem exists_causeOfCode {code : Nat} (h : 1 ≤ code ∧ code ≤ 18) : ∃ c, causeOfCode code = some c :=
  ⟨allCauses[code - 1]'(by simp [allCauses]; omega), by unfold causeOfCode; rw [if_neg (by omega)]; simp⟩

theorem priorityOf_setup (n : NoticeUnit) (c d : Cause) (prio : BitVec 4) (enable : Bool) :
    (n.setup c prio enable).priorityOf d = if d = c then prio.toNat else n.priorityOf d := by
  unfold NoticeUnit.setup NoticeUnit.priorityOf
  by_cases h : d = c
  · simp [h]
  · rw [if_neg h]
    have hne : (causeIndex c).val ≠ (causeIndex d).val := fun he => h (causeIndex_injective (Fin.ext he.symm))
    simp only [Fin.getElem_fin]
    rw [Vector.getElem_set_ne _ _ hne]

theorem hasCause_and (a b : BitVec 24) (c : Cause) : hasCause (a &&& b) c = (hasCause a c && hasCause b c) := by
  simp [hasCause]

theorem hasCause_not (a : BitVec 24) (c : Cause) : hasCause (~~~a) c = !hasCause a c := by
  have := (causeIndex c).isLt
  simp [hasCause]
  omega

theorem hasCause_setup_enabled (n : NoticeUnit) (c d : Cause) (prio : BitVec 4) (enable : Bool) :
    hasCause (n.setup c prio enable).enabled d = if d = c then enable else hasCause n.enabled d := by
  unfold NoticeUnit.setup
  have hbit : hasCause (causeBit c) d = decide (d = c) := by rw [hasCause_causeBit, decide_eq_decide, eq_comm]
  cases enable with
  | false =>
    dsimp only
    rw [if_neg (by decide), hasCause_and, hasCause_not, hbit]
    split <;> simp [*]
  | true =>
    dsimp only
    rw [if_pos rfl, hasCause_or, hbit]
    split <;> simp [*]

theorem serveNoticeSetup_served {c p e : Byte} {cause : Cause} (hc : (causeIndex cause).val + 1 = c.toNat)
    (hp : p.toNat ≤ 15) (he : e.toNat ≤ 1) (s : State) : serveNoticeSetup [c, p, e] s =
      { state := s.setNotice (s.notice.setup cause (p.setWidth 4) (e == 1)), reply := [0, c, p, e],
        evaluates := true } := by
  unfold serveNoticeSetup
  dsimp only
  rw [causeOfCode_some_iff.mpr hc, boolOfCode_eq, if_pos he]
  exact if_neg (by omega)

theorem serveNoticeSetup_turnedAway {c p e : Byte}
    (h : ¬(1 ≤ c.toNat ∧ c.toNat ≤ 18 ∧ p.toNat ≤ 15 ∧ e.toNat ≤ 1)) (s : State) :
    serveNoticeSetup [c, p, e] s = turnedAway s .badValue := by
  unfold serveNoticeSetup
  dsimp only
  split
  next hc he =>
    have hcode := causeOfCode_some_iff.mp hc
    have := (causeIndex ‹Cause›).isLt
    rw [boolOfCode_eq] at he
    split at he
    · exact if_pos (by omega)
    · contradiction
  · rfl

theorem toNat_eq_one_iff (b : Byte) : (b == 1) = (b.toNat == 1) := by
  rw [Bool.eq_iff_iff, beq_iff_eq, beq_iff_eq]
  exact BitVec.toNat_inj.symm

/-- Settles O18: each request is served from the state as it stands, by the branch of its rule that its fields pick. -/
theorem noticeRequestsServed : Obligations.NoticeRequestsServed := by
  refine ⟨?setup, ?clear, ?read⟩
  case setup =>
    intro s r c p e h hk hpay
    have hrow : exec .noticeSetup s = .next (serveRequest serveNoticeSetup r s) :=
      congrArg _ (service_settled_serves h hk serveNoticeSetup)
    rw [hrow]
    split
    next hv =>
      obtain ⟨hlow, hhigh, hp, he⟩ := hv
      obtain ⟨cause, hcause⟩ := exists_causeOfCode ⟨hlow, hhigh⟩
      have hcode := causeOfCode_some_iff.mp hcause
      have hd (d : Cause) : ((causeIndex d).val + 1 = c.toNat) = (d = cause) := by
        rw [← hcode, Nat.add_right_cancel_iff, eq_iff_iff]
        exact ⟨fun hi => causeIndex_injective (Fin.ext hi), fun hi => by rw [hi]⟩
      refine ⟨s.notice.setup cause (p.setWidth 4) (e == 1), ?_, rfl, rfl, fun d => ⟨?_, ?_⟩⟩
      · rw [serveRequest_evaluates (by rw [hpay]; exact serveNoticeSetup_served hcode hp he s)]
      · rw [priorityOf_setup, BitVec.toNat_setWidth, Nat.mod_eq_of_lt (by omega)]
        simp only [hd]
      · rw [hasCause_setup_enabled, toNat_eq_one_iff]
        simp only [hd]
    next hv =>
      rw [serveRequest_turnedAway (by rw [hpay]; exact serveNoticeSetup_turnedAway hv s)]
      rfl
  case clear =>
    intro s r a b c h hk hpay mask
    have hrow : exec .noticeClear s = .next (serveRequest serveNoticeClear r s) :=
      congrArg _ (service_settled_serves h hk serveNoticeClear)
    have hlt : ofBe [a, b, c] < 2 ^ 24 := by
      have := a.isLt; have := b.isLt; have := c.isLt
      simp [ofBe]
      omega
    have hmask : mask.toNat = ofBe [a, b, c] := by
      rw [BitVec.toNat_ofNat, Nat.mod_eq_of_lt hlt]
    rw [hrow, hmask]
    split
    next hv =>
      rw [serveRequest_evaluates (by rw [hpay]; exact if_neg (by omega))]
      rfl
    next hv =>
      rw [serveRequest_turnedAway (by rw [hpay]; exact if_pos (by omega))]
      rfl
  case read =>
    intro s r h hk hpay
    have hrow : exec .noticeRead s = .next (serveRequest serveNoticeRead r s) :=
      congrArg _ (service_settled_serves h hk serveNoticeRead)
    refine ⟨_, by rw [hrow, serveRequest_served (by rw [hpay]; rfl)], ?_, ?_⟩
    · simp [causeSetBytes, allCauses]
    · rfl

end Sys2Proof.Machine
end

section
/-! PROOFS. The notice unit's and the link unit's invariants: what a raising and each operation of the link unit leave of the
own side, the queues and the stores, and the two invariants kept by every step (O6, O7). -/

namespace Sys2Proof.Machine

/-! ## The own side under a NOTICE (R169, R179) -/

theorem evaluate_own (s : State) :
    (evaluate s).link.own = s.link.own ∨ ∃ f, (evaluate s).link.own = queueNotice s.link.own f := by
  unfold evaluate
  split
  · exact .inl rfl
  · split
    · exact .inr ⟨_, rfl⟩
    · exact .inl rfl

theorem raise_own (c : Cause) (s : State) :
    (raise c s).link.own = s.link.own ∨ ∃ f, (raise c s).link.own = queueNotice s.link.own f := by
  unfold raise
  split
  · exact .inl rfl
  · exact evaluate_own _

/-- A NOTICE leaves the frames of every other kind. -/
theorem filter_queueNotice {k : OwnKind} (hk : k ≠ .notice) (own : List OwnFrame) (f : Frame) :
    (queueNotice own f).filter (fun o => o.kind == k) = own.filter (fun o => o.kind == k) := by
  unfold queueNotice
  split
  · clear * - hk
    induction own with
    | nil => rfl
    | cons o own ih =>
      rw [List.map_cons, List.filter_cons, List.filter_cons, ih]
      by_cases ho : o.kind = .notice
      · have hne : (OwnKind.notice == k) = false := by simpa using hk.symm
        simp [ho, hne]
      · simp [ho]
  · have hne : (OwnKind.notice == k) = false := by simpa using hk.symm
    simp [hne]

theorem filter_own_evaluate {k : OwnKind} (hk : k ≠ .notice) (s : State) :
    (evaluate s).link.own.filter (fun o => o.kind == k) = s.link.own.filter (fun o => o.kind == k) := by
  obtain h | ⟨f, h⟩ := evaluate_own s <;> rw [h]
  exact filter_queueNotice hk _ f

theorem filter_own_raise {k : OwnKind} (hk : k ≠ .notice) (c : Cause) (s : State) :
    (raise c s).link.own.filter (fun o => o.kind == k) = s.link.own.filter (fun o => o.kind == k) := by
  obtain h | ⟨f, h⟩ := raise_own c s <;> rw [h]
  exact filter_queueNotice hk _ f

/-- At most one NOTICE waits after one has joined. -/
theorem countP_queueNotice {own : List OwnFrame} (h : own.countP (fun o => o.kind == .notice) ≤ 1) (f : Frame) :
    (queueNotice own f).countP (fun o => o.kind == .notice) ≤ 1 := by
  unfold queueNotice
  split
  · have hcomp : ((fun o : OwnFrame => o.kind == .notice) ∘
        fun o : OwnFrame => if (o.kind == .notice) = true then { o with frame := f } else o)
          = fun o => o.kind == .notice := by
      funext o
      by_cases ho : o.kind = .notice <;> simp [ho]
    rw [List.countP_map, hcomp]
    exact h
  next hnone =>
    have : own.countP (fun o => o.kind == .notice) = 0 :=
      List.countP_eq_zero.mpr fun o ho hk => hnone (List.any_eq_true.mpr ⟨o, ho, hk⟩)
    simp [this]

/-! ## An invariant of the link unit, operation by operation -/

/-- Each operation of the link unit and each raising keeps `P`, which looks at the notice unit and the link unit alone. -/
structure LinkKept (P : State → Prop) : Prop where
  set : ∀ s t, t.notice = s.notice → t.link = s.link → P s → P t
  raised : ∀ c s, P s → P (raise c s)
  power : ∀ pins pending, P (State.powerOn pins pending)
  partReset : ∀ s, P s → P (partResetEffect s)
  flags : ∀ x s, P s → P (s.setLink { s.link with flags := x })
  receiver : ∀ side x s, P s → P (setReceiver side x s)
  due : ∀ s, P s → P (fallDue s)
  reply : ∀ f s, s.link.hold.length < 2 → P s → P (s.setLink { s.link with
    hold := s.link.hold ++ [.reply], own := s.link.own ++ [{ kind := .linkReply, frame := f }] })
  forward : ∀ f s, s.link.hold.length < 2 → P s → P (s.setLink { s.link with hold := s.link.hold ++ [.forward f] })
  request : ∀ r s, s.link.requests.length < 4 → r.payload.length = r.kind.length → r.served = false → P s →
    P (s.setLink { s.link with requests := s.link.requests ++ [r] })
  store : ∀ f s, s.link.forward.length < 4 → P s → P (s.setLink { s.link with forward := s.link.forward ++ [f] })
  serve : ∀ (k : RequestKind) r s, nextRequest s.link = some r → P s → P (serveRequest k.serve r s)
  silent : ∀ (k : RequestKind) p s, P s → P (k.serve p s).silent
  arbiter : ∀ s, P s → P (arbitrate s)
  upSent : ∀ s, P s → P (upSent s)
  startDown : ∀ s, P s → P (startDown s)
  downSent : ∀ s, P s → P (downSent s)
  fall : ∀ s, P s → P (presentFall s)

section LinkKept
variable {P : State → Prop} (h : LinkKept P) {s : State}
include h

theorem LinkKept.raises {t : State} (hst : Raises s t) (hs : P s) : P t := hst.keeps h.set h.raised hs

theorem LinkKept.setFlags (mask : BitVec 8) (hs : P s) : P (setFlags mask s) := by
  unfold Machine.setFlags
  split
  · exact hs
  · exact h.raised _ _ (h.flags _ _ hs)

theorem LinkKept.linkReply (st : Status) (flags : BitVec 8) (f : Frame) (hs : P s) : P (linkReply st flags f s) := by
  unfold Machine.linkReply
  split
  · exact h.setFlags _ hs
  next hroom => exact h.setFlags _ (h.reply _ _ (by simpa [Config.holdCap] using hroom) hs)

theorem LinkKept.noDeck (f : Frame) (hs : P s) : P (noDeck f s) := by
  unfold Machine.noDeck
  split
  · exact h.linkReply _ _ f hs
  · exact h.setFlags _ hs

theorem LinkKept.forwardAddressed (f : Frame) (hs : P s) : P (forwardAddressed f s) := by
  unfold Machine.forwardAddressed
  split
  · split
    · exact h.setFlags _ hs
    next hroom => exact h.forward _ _ (by simpa [Config.holdCap] using hroom) hs
  · exact h.noDeck f hs

theorem LinkKept.takeFrame (f : Frame) (hs : P s) : P (takeFrame f s) := by
  unfold Machine.takeFrame
  split
  · exact h.setFlags _ hs
  · split
    · exact h.linkReply _ _ f hs
    · split
      · exact h.linkReply _ _ f hs
      next hlength =>
        split
        · exact h.linkReply _ _ f hs
        next hroom =>
          exact h.request _ _ (by simpa [Config.requestCap] using hroom) (not_not.mp hlength) rfl hs

theorem LinkKept.broadcastFrame (k : RequestKind) (f : Frame) (hs : P s) : P (broadcastFrame k f s) := by
  unfold Machine.broadcastFrame
  dsimp only
  have hcopy : P (if hasCopy s = true then holdCopy f s else s) := by
    split
    next hroom =>
      have ⟨_, hlt⟩ := Bool.and_eq_true_iff.mp hroom
      exact h.forward _ _ (of_decide_eq_true hlt) hs
    · exact hs
  have ht := h.setFlags (broadcastFlags k f s) hcopy
  generalize Machine.setFlags (broadcastFlags k f s) (if hasCopy s = true then holdCopy f s else s) = t at ht ⊢
  split
  · exact ht
  · split
    · split
      · exact ht
      · exact h.due _ ht
    · obtain he | he := serveBroadcast_cases k f.payload t <;> rw [he]
      · exact h.silent k _ _ ht
      · exact ht

theorem LinkKept.fromUpstream (f : Frame) (hs : P s) : P (fromUpstream f s) := by
  unfold Machine.fromUpstream
  split
  · unfold broadcast
    split
    · split
      · exact h.broadcastFrame _ f hs
      · exact h.setFlags _ hs
    · exact h.setFlags _ hs
  · split
    · unfold routeAssigned
      split
      · exact h.forwardAddressed f hs
      · split
        · exact h.takeFrame f hs
        · split
          · exact h.forwardAddressed f hs
          · exact h.noDeck f hs
    · split
      · exact h.takeFrame f hs
      · exact h.noDeck f hs

theorem LinkKept.onReceived (side : Side) (x : Received) (hs : P s) : P (onReceived side x s) := by
  unfold Machine.onReceived
  split
  · exact hs
  · exact h.setFlags _ hs
  · exact h.setFlags _ hs
  · split
    · exact h.fromUpstream _ hs
    · unfold fromDownstream
      split
      · exact h.setFlags _ hs
      next hroom => exact h.store _ _ (by simpa [Config.forwardCap] using hroom) hs

theorem LinkKept.kept : Kept P where
  pending _ s hs := h.set s _ rfl rfl hs
  power := h.power
  partReset := h.partReset
  sampleClock p s hs := by
    refine h.set _ _ ?_ ?_ (h.raises ((Raises.refl s).enterPair .converter p) hs) <;> simp [sampleClock, playPair]
  boundary s hs := h.set s _ (by simp) (by simp) hs
  receiverPair p s hs := h.raises ((Raises.refl s).enterPair .digital p) hs
  lockIndication _ s hs := h.raises ((Raises.refl s).set).rederive hs
  statusArrival _ s hs := h.raises ((Raises.refl s).set).rederive hs
  blockArrival _ _ s hs := h.set s _ rfl rfl hs
  headFrameEnd hd s hs := h.raises (.closeFrame hd s) hs
  transport t s hs := h.raises ((Raises.refl s).transportChange t) hs
  tick g s hs := h.raises ((Raises.refl s).frameTick g) hs
  absence s hs := h.raises (Raises.refl s).absenceExpiry hs
  expiry s hs := h.raises (Raises.refl s).expireQueries hs
  discard s hs := h.raises (Raises.refl s).discardQueries hs
  written s hs := h.raises (Raises.refl s).frameWritten hs
  edge i s hs := h.raises ((Raises.refl s).fallingEdge i) hs
  receiver := h.receiver
  received side x s hs := h.onReceived side x hs
  arbiter := h.arbiter
  upSent := h.upSent
  startDown := h.startDown
  downSent := h.downSent
  hold side a s hs := by cases side <;> exact h.set s _ rfl rfl hs
  present high s hs := by
    have hpins : P (s.setPins { s.pins with present := high }) := h.set s _ rfl rfl hs
    unfold presentChange
    dsimp only
    split
    · exact h.fall _ hpins
    · exact hpins
  service k s hs := by
    unfold service
    split
    · exact hs
    next r hr =>
      split
      · exact h.serve k r s hr hs
      · exact hs

end LinkKept

/-! ## The notice unit's invariant (O6) -/

/-- The notice unit's invariant, less what an evaluation brings about. -/
structure NoticeBase (s : State) : Prop where
  low : -1 ≤ s.notice.lr
  high : s.notice.lr ≤ 15
  waiting : s.link.own.countP (fun o => o.kind == .notice) ≤ 1
  pendingBits : s.notice.pending.toNat < 262144
  enabledBits : s.notice.enabled.toNat < 262144

theorem NoticeInv.base {s : State} (h : NoticeInv s) : NoticeBase s :=
  ⟨h.low, h.high, h.waiting, h.pendingBits, h.enabledBits⟩

/-- The invariant is carried to a state with the same notice unit and no more NOTICEs waiting. -/
theorem NoticeInv.carry {s t : State} (h : NoticeInv s) (hn : t.notice = s.notice)
    (hown : t.link.own.countP (fun o => o.kind == .notice) ≤ s.link.own.countP (fun o => o.kind == .notice)) :
    NoticeInv t where
  level := by rw [hn]; exact h.level
  low := by rw [hn]; exact h.low
  high := by rw [hn]; exact h.high
  waiting := hown.trans h.waiting
  pendingBits := by rw [hn]; exact h.pendingBits
  enabledBits := by rw [hn]; exact h.enabledBits

/-- The same without the level. -/
theorem NoticeBase.carry {s t : State} (h : NoticeBase s) (hn : t.notice = s.notice)
    (hown : t.link.own.countP (fun o => o.kind == .notice) ≤ s.link.own.countP (fun o => o.kind == .notice)) :
    NoticeBase t where
  low := by rw [hn]; exact h.low
  high := by rw [hn]; exact h.high
  waiting := hown.trans h.waiting
  pendingBits := by rw [hn]; exact h.pendingBits
  enabledBits := by rw [hn]; exact h.enabledBits

/-- An evaluation leaves no enabled pending cause above Lr. -/
theorem NoticeBase.evaluate {s : State} (h : NoticeBase s) : NoticeInv (evaluate s) := by
  by_cases hex : ∃ d, hasCause s.notice.reported d = true ∧ s.notice.lr < (s.notice.priorityOf d : Int)
  · obtain ⟨d, hd, he⟩ := evaluate_of_exists hex
    have hprio : s.notice.priorityOf d < 16 := (s.notice.priority[causeIndex d]).isLt
    rw [he]
    exact ⟨fun c hc => Int.ofNat_le.mpr (priorityOf_le_of_leading hd hc), by dsimp; omega, by dsimp; omega,
      countP_queueNotice h.waiting _, h.pendingBits, h.enabledBits⟩
  · rw [evaluate_of_none hex]
    exact ⟨fun c hc => not_lt.mp fun hlt => hex ⟨c, hc, hlt⟩, h.low, h.high, h.waiting, h.pendingBits, h.enabledBits⟩

theorem causeBit_lt (c : Cause) : (causeBit c).toNat < 2 ^ 18 := by cases c <;> decide

theorem NoticeInv.raise {s : State} (c : Cause) (h : NoticeInv s) : NoticeInv (raise c s) := by
  unfold Machine.raise
  split
  · exact h
  · refine NoticeBase.evaluate ⟨h.low, h.high, h.waiting, ?_, h.enabledBits⟩
    show (s.notice.pending ||| causeBit c).toNat < 2 ^ 18
    rw [BitVec.toNat_or]
    exact Nat.or_lt_two_pow h.pendingBits (causeBit_lt c)

/-- The service of a request keeps the base, and the level where its rule asks for no evaluation. -/
theorem NoticeInv.serve {s : State} (h : NoticeInv s) (k : RequestKind) (p : List Byte) :
    NoticeBase (k.serve p s).state ∧ ((k.serve p s).evaluates = false → NoticeInv (k.serve p s).state) := by
  by_cases hk : k ∈ ([.assign, .linkStatus, .linkSetup, .partReset, .noticeSetup, .noticeClear] : List RequestKind)
  · simp only [List.mem_cons, List.not_mem_nil, or_false] at hk
    obtain rfl | rfl | rfl | rfl | rfl | rfl := hk
    · obtain hc | ⟨_, _, _, _, _, hc⟩ := serveAssign_cases p s <;> rw [RequestKind.serve, hc] <;>
        exact ⟨h.base.carry rfl (Nat.le_refl _), fun _ => h.carry rfl (Nat.le_refl _)⟩
    · obtain hc | ⟨_, hc⟩ := serveLinkStatus_cases p s <;> rw [RequestKind.serve, hc] <;>
        exact ⟨h.base.carry rfl (Nat.le_refl _), fun _ => h.carry rfl (Nat.le_refl _)⟩
    · obtain hc | ⟨_, _, _, hc⟩ := serveLinkSetup_cases p s <;> rw [RequestKind.serve, hc] <;>
        exact ⟨h.base.carry rfl (Nat.le_refl _), fun _ => h.carry rfl (Nat.le_refl _)⟩
    · obtain hc | hc := servePartReset_cases p s <;> rw [RequestKind.serve, hc] <;>
        exact ⟨h.base.carry rfl (Nat.le_refl _), fun _ => h.carry rfl (Nat.le_refl _)⟩
    · obtain ⟨hc, he⟩ | ⟨c, prio, enable, hc, he⟩ := serveNoticeSetup_cases p s <;> rw [RequestKind.serve, hc, he]
      · exact ⟨h.base, fun _ => h⟩
      · refine ⟨⟨h.low, h.high, h.waiting, h.pendingBits, ?_⟩, nofun⟩
        show (s.notice.setup c prio enable).enabled.toNat < 2 ^ 18
        unfold NoticeUnit.setup
        cases enable
        · exact lt_of_le_of_lt (by simp [BitVec.toNat_and]; exact Nat.and_le_left) h.enabledBits
        · simp only [if_true, BitVec.toNat_or]
          exact Nat.or_lt_two_pow h.enabledBits (causeBit_lt c)
    · obtain ⟨hc, he⟩ | ⟨_, _, hc, he⟩ := serveNoticeClear_cases p s <;> rw [RequestKind.serve, hc, he]
      · exact ⟨h.base, fun _ => h⟩
      · refine ⟨⟨Int.le_refl _, by dsimp; omega, h.waiting, ?_, h.enabledBits⟩, nofun⟩
        exact lt_of_le_of_lt (by dsimp; exact Nat.and_le_left) h.pendingBits
  · have hkept : NoticeInv (k.serve p s).state := (serve_raises hk p s).keeps
      (fun _ _ hn hl hs => hs.carry hn (by rw [hl])) (fun c _ hs => hs.raise c) h
    exact ⟨hkept.base, fun _ => hkept⟩

/-- A frame of another kind that joins or leaves the own side keeps the NOTICEs waiting. -/
theorem countP_notice_append {own rest : List OwnFrame} (h : ∀ o ∈ rest, o.kind ≠ .notice) :
    (own ++ rest).countP (fun o => o.kind == .notice) = own.countP (fun o => o.kind == .notice) := by
  have hrest : rest.countP (fun o => o.kind == .notice) = 0 := List.countP_eq_zero.mpr (by simpa using h)
  rw [List.countP_append, hrest, Nat.add_zero]

/-- Every reply that a fall of PRESENT forms is one of the link unit. -/
theorem fallHold_replies (l : LinkUnit) (sending : Bool) (hold : List HoldSlot) :
    ∀ o ∈ (fallHold l sending hold).replies, o.kind = .linkReply := by
  induction hold generalizing sending with
  | nil => simp [fallHold]
  | cons x rest ih =>
    cases x with
    | reply => exact ih sending
    | forward f =>
      cases sending with
      | true => exact ih false
      | false =>
        simp only [fallHold, Fall.meet]
        split
        · exact ih false
        · split
          · intro o ho
            obtain rfl | ho := List.mem_cons.mp ho
            · rfl
            · exact ih false o ho
          · exact ih false

theorem NoticeInv.setFlags {s : State} (mask : BitVec 8) (h : NoticeInv s) : NoticeInv (setFlags mask s) := by
  unfold Machine.setFlags
  split
  · exact h
  · exact (h.carry (t := s.setLink { s.link with flags := s.link.flags ||| mask }) rfl (Nat.le_refl _)).raise _

theorem noticeInv_powerOn (pins : Pins) (pending : List Instr) : NoticeInv (State.powerOn pins pending) :=
  ⟨fun c h => absurd h (by simp [hasCause, NoticeUnit.reported, State.powerOn, NoticeUnit.reset]),
    Int.le_refl _, show (-1 : Int) ≤ 15 by decide, Nat.zero_le _, show 0 < 262144 by decide, show 0 < 262144 by decide⟩

/-- A start takes frames off the own side alone. -/
theorem countP_startUp (q : OwnFrame → Bool) (l : LinkUnit) (side : ArbSide) :
    (l.startUp side).own.countP q ≤ l.own.countP q := by
  unfold LinkUnit.startUp
  split
  next ho => rw [ho, List.countP_cons]; exact Nat.le_add_right _ _
  · unfold LinkUnit.countRun; split <;> exact Nat.le_refl _
  · exact Nat.le_refl _
  · exact Nat.le_refl _

theorem noticeInv_linkKept : LinkKept NoticeInv where
  set _ _ hn hl hs := hs.carry hn (by rw [hl])
  raised c _ hs := hs.raise c
  power := noticeInv_powerOn
  partReset s _ := (noticeInv_powerOn s.pins s.pending).carry rfl (Nat.zero_le _)
  flags _ _ hs := hs.carry rfl (Nat.le_refl _)
  receiver side _ _ hs := by cases side <;> exact hs.carry rfl (Nat.le_refl _)
  due _ hs := hs.carry rfl (Nat.le_refl _)
  reply _ _ _ hs := hs.carry rfl (countP_notice_append (by simp)).le
  forward _ _ _ hs := hs.carry rfl (Nat.le_refl _)
  request _ _ _ _ _ hs := hs.carry rfl (Nat.le_refl _)
  store _ _ _ hs := hs.carry rfl (Nat.le_refl _)
  serve k r s _ hs := by
    obtain ⟨hbase, hlevel⟩ := hs.serve k r.payload
    unfold serveRequest
    dsimp only
    split
    · exact NoticeBase.evaluate (hbase.carry rfl (countP_notice_append (by simp)).le)
    next he => exact (hlevel (by simpa using he)).carry rfl (countP_notice_append (by simp)).le
  silent k p s hs := by
    obtain ⟨hbase, hlevel⟩ := hs.serve k p
    unfold Served.silent
    split
    · exact hbase.evaluate
    next he => exact hlevel (by simpa using he)
  arbiter s hs := by
    unfold arbitrate
    split
    · split
      · exact hs.carry rfl (countP_startUp _ _ _)
      · exact hs
    · exact hs
  upSent s hs := by
    have hfreed (x : Sending UpFrame) : NoticeInv (s.setLink { freeUp x s.link with upSending := none }) := by
      refine hs.carry rfl (le_of_eq ?_)
      show (freeUp x s.link).own.countP _ = _
      unfold freeUp
      (repeat' split) <;> rfl
    unfold upSent
    split
    · exact hs
    · dsimp only
      split
      · exact hfreed _
      · split
        · exact hfreed _
        · exact (hfreed _).setFlags _
        · split
          · exact (hfreed _).carry rfl (Nat.le_refl _)
          · exact hfreed _
  startDown s hs := by
    unfold startDown
    split
    · split
      · exact hs.carry rfl (Nat.le_refl _)
      · exact hs
    · exact hs
  downSent s hs := by
    unfold downSent
    split
    · exact hs
    · dsimp only
      split <;> exact hs.carry rfl (Nat.le_refl _)
  fall s hs := by
    unfold presentFall
    dsimp only
    have ht : NoticeInv (s.setLink { s.link with
        hold := (fallHold s.link (isSendingDown s.link) s.link.hold).hold
        own := s.link.own ++ (fallHold s.link (isSendingDown s.link) s.link.hold).replies }) :=
      hs.carry rfl (countP_notice_append fun o ho => by rw [fallHold_replies _ _ _ o ho]; decide).le
    split <;> split
    · exact (ht.setFlags _).carry rfl (Nat.le_refl _)
    · exact ht.carry rfl (Nat.le_refl _)
    · exact ht.setFlags _
    · exact ht

/-- Settles O6: each raising and each NOTICE request ends in an evaluation, which leaves no enabled pending cause above Lr;
nothing else touches the notice unit, and no more than one NOTICE joins the own side. -/
theorem everyStepKeepsNoticeInv : Obligations.EveryStepKeepsNoticeInv := noticeInv_linkKept.kept.keeps

end Sys2Proof.Machine
end

section
/-! PROOFS. The link unit's invariant (O7): the queues and stores under each operation, and one unsent reply for each served
request and for each place that a reply of the link unit takes. -/

namespace Sys2Proof.Machine

/-! ## The request queue (R169) -/

theorem length_markServed (l : List LinkRequest) : (markServed l).length = l.length := by
  induction l with
  | nil => rfl
  | cons r rest ih =>
    unfold markServed
    split <;> simp [ih]

/-- Marking a request served leaves each request's kind and payload. -/
theorem mem_markServed {l : List LinkRequest} {r : LinkRequest} (h : r ∈ markServed l) :
    ∃ r' ∈ l, r'.kind = r.kind ∧ r'.payload = r.payload := by
  induction l with
  | nil => simp [markServed] at h
  | cons x rest ih =>
    unfold markServed at h
    split at h
    · obtain rfl | h := List.mem_cons.mp h
      · exact ⟨_, List.mem_cons_self, rfl, rfl⟩
      · obtain ⟨r', hr', heq⟩ := ih h
        exact ⟨r', List.mem_cons_of_mem _ hr', heq⟩
    · obtain rfl | h := List.mem_cons.mp h
      · exact ⟨_, List.mem_cons_self, rfl, rfl⟩
      · exact ⟨r, List.mem_cons_of_mem _ h, rfl, rfl⟩

/-- With a request unserved behind the served ones, marking one served moves the boundary by one. -/
theorem map_served_markServed {l : List LinkRequest} {n m : Nat}
    (h : l.map (fun r => r.served) = List.replicate n true ++ List.replicate (m + 1) false) :
    (markServed l).map (fun r => r.served) = List.replicate (n + 1) true ++ List.replicate m false := by
  induction n generalizing l with
  | zero =>
    cases l with
    | nil => simp at h
    | cons r rest =>
      obtain ⟨hr, hrest⟩ : r.served = false ∧ rest.map (fun r => r.served) = List.replicate m false := by
        simpa [List.replicate_succ] using h
      simp [markServed, hr, hrest]
  | succ n ih =>
    cases l with
    | nil => simp at h
    | cons r rest =>
      obtain ⟨hr, hrest⟩ : r.served = true ∧
          rest.map (fun r => r.served) = List.replicate n true ++ List.replicate (m + 1) false := by
        simpa [List.replicate_succ] using h
      rw [List.replicate_succ, List.cons_append, ← ih hrest]
      simp [markServed, hr]

/-- With `n` requests served, the oldest first, an unserved request shows that there are more than `n`. -/
theorem lt_length_of_nextRequest {l : LinkUnit} {r : LinkRequest} {n : Nat} (hr : nextRequest l = some r)
    (h : l.requests.map (fun r => r.served) = List.replicate n true ++ List.replicate (l.requests.length - n) false) :
    n < l.requests.length := by
  by_contra hle
  rw [Nat.sub_eq_zero_of_le (by omega), List.replicate_zero, List.append_nil] at h
  have hmem : r ∈ l.requests := List.mem_of_find?_eq_some hr
  have hserved : r.served = true := by
    have : r.served ∈ l.requests.map (fun r => r.served) := List.mem_map_of_mem hmem
    rw [h] at this
    exact List.eq_of_mem_replicate this
  have := List.find?_some hr
  simp [hserved] at this

/-! ## The hold store (R167) -/

theorem firstForward_append (hold rest : List HoldSlot) :
    firstForward (hold ++ rest) = (firstForward hold).or (firstForward rest) := by
  induction hold with
  | nil => rfl
  | cons x hold ih =>
    cases x with
    | forward f => rfl
    | reply => exact ih

theorem firstForward_erase_reply (hold : List HoldSlot) : firstForward (hold.erase .reply) = firstForward hold := by
  induction hold with
  | nil => rfl
  | cons x hold ih =>
    cases x with
    | forward f => rfl
    | reply => rfl

theorem length_dropForward_le (hold : List HoldSlot) : (dropForward hold).length ≤ hold.length := by
  induction hold with
  | nil => exact Nat.le_refl _
  | cons x hold ih =>
    cases x with
    | forward f => exact Nat.le_succ _
    | reply => exact Nat.succ_le_succ ih

theorem countP_reply_dropForward (hold : List HoldSlot) :
    (dropForward hold).countP (fun x => x == .reply) = hold.countP (fun x => x == .reply) := by
  induction hold with
  | nil => rfl
  | cons x hold ih =>
    cases x with
    | forward f => simp [dropForward]
    | reply => simpa [dropForward] using ih

/-! ## A fall of PRESENT (R165 to R167) -/

theorem length_fallHold_le (l : LinkUnit) (sending : Bool) (hold : List HoldSlot) :
    (fallHold l sending hold).hold.length ≤ hold.length := by
  induction hold generalizing sending with
  | nil => exact Nat.le_refl _
  | cons x rest ih =>
    cases x with
    | reply => exact Nat.succ_le_succ (ih sending)
    | forward f =>
      cases sending with
      | true => exact Nat.succ_le_succ (ih false)
      | false =>
        have := ih false
        simp only [fallHold, Fall.meet]
        (repeat' split) <;> simp <;> omega

/-- Each reply formed takes one place. -/
theorem countP_reply_fallHold (l : LinkUnit) (sending : Bool) (hold : List HoldSlot) :
    (fallHold l sending hold).hold.countP (fun x => x == .reply)
      = hold.countP (fun x => x == .reply) + (fallHold l sending hold).replies.length := by
  induction hold generalizing sending with
  | nil => rfl
  | cons x rest ih =>
    cases x with
    | reply =>
      have := ih sending
      simp only [fallHold]
      simp
      omega
    | forward f =>
      cases sending with
      | true => simpa [fallHold] using ih false
      | false =>
        have := ih false
        simp only [fallHold, Fall.meet]
        (repeat' split) <;> simp <;> omega

/-- The frame being sent keeps its place. -/
theorem firstForward_fallHold (l : LinkUnit) (hold : List HoldSlot) :
    firstForward (fallHold l true hold).hold = firstForward hold := by
  induction hold with
  | nil => rfl
  | cons x rest ih =>
    cases x with
    | forward f => rfl
    | reply => exact ih

/-! ## Carrying the invariant -/

/-- The invariant is carried to a link unit that agrees in all it looks at. -/
theorem LinkInv.carry {s t : State} (h : LinkInv s) (requests : t.link.requests = s.link.requests := by rfl)
    (hold : t.link.hold = s.link.hold := by rfl) (forward : t.link.forward = s.link.forward := by rfl)
    (run : t.link.runCount = s.link.runCount := by rfl) (slice : t.link.slice = s.link.slice := by rfl)
    (assigned : t.link.assigned = s.link.assigned := by rfl)
    (up : t.link.upSending = s.link.upSending := by rfl) (down : t.link.downSending = s.link.downSending := by rfl)
    (services : unsent .service t.link = unsent .service s.link := by rfl)
    (replies : unsent .linkReply t.link = unsent .linkReply s.link := by rfl) : LinkInv t where
  requestsHeld := by rw [requests]; exact h.requestsHeld
  holdHeld := by rw [hold]; exact h.holdHeld
  forwardHeld := by rw [forward]; exact h.forwardHeld
  run := by rw [run]; exact h.run
  slice := by rw [slice]; exact h.slice
  range := by rw [assigned]; exact h.range
  lengths := by rw [requests]; exact h.lengths
  services := by rw [requests, services]; exact h.services
  replies := by rw [hold, replies]; exact h.replies
  upFront := by rw [up, forward]; exact h.upFront
  downFront := by rw [down, hold]; exact h.downFront

/-- The queue's own part of that: as many requests are served as services are unsent. -/
theorem LinkInv.services_of {s t : State} (h : LinkInv s) (requests : t.link.requests = s.link.requests)
    (services : unsent .service t.link = unsent .service s.link) : t.link.requests.map (fun r => r.served) =
      List.replicate (unsent .service t.link) true
        ++ List.replicate (t.link.requests.length - unsent .service t.link) false := by
  rw [requests, services]
  exact h.services

/-- What is unsent of a kind follows from the own side's frames of the kind and from what is being sent. -/
theorem unsent_eq_of_filter {k : OwnKind} {l m : LinkUnit}
    (hown : m.own.filter (fun o => o.kind == k) = l.own.filter (fun o => o.kind == k))
    (hup : m.upSending = l.upSending) : unsent k m = unsent k l := by
  unfold unsent isSendingOwn
  rw [List.countP_eq_length_filter, hown, ← List.countP_eq_length_filter, hup]

theorem LinkInv.raise {s : State} (c : Cause) (h : LinkInv s) : LinkInv (raise c s) := by
  refine h.carry (raise_link_requests ..) (raise_link_hold ..) (raise_link_forward ..) (raise_link_runCount ..)
    (raise_link_slice ..) (raise_link_assigned ..) (raise_link_upSending ..) (raise_link_downSending ..) ?_ ?_
  · exact unsent_eq_of_filter (filter_own_raise (by decide) c s) (raise_link_upSending ..)
  · exact unsent_eq_of_filter (filter_own_raise (by decide) c s) (raise_link_upSending ..)

theorem LinkInv.evaluate {s : State} (h : LinkInv s) : LinkInv (evaluate s) := by
  refine h.carry (evaluate_link_requests ..) (evaluate_link_hold ..) (evaluate_link_forward ..)
    (evaluate_link_runCount ..) (evaluate_link_slice ..) (evaluate_link_assigned ..) (evaluate_link_upSending ..)
    (evaluate_link_downSending ..) ?_ ?_
  · exact unsent_eq_of_filter (filter_own_evaluate (by decide) s) (evaluate_link_upSending ..)
  · exact unsent_eq_of_filter (filter_own_evaluate (by decide) s) (evaluate_link_upSending ..)

theorem LinkInv.setFlags {s : State} (mask : BitVec 8) (h : LinkInv s) : LinkInv (setFlags mask s) := by
  unfold Machine.setFlags
  split
  · exact h
  · exact (h.carry (t := s.setLink { s.link with flags := s.link.flags ||| mask })).raise _

theorem Raises.linkInv {s t : State} (h : Raises s t) (hs : LinkInv s) : LinkInv t :=
  h.keeps (fun _ _ _ hl hu => hu.carry (by rw [hl]) (by rw [hl]) (by rw [hl]) (by rw [hl]) (by rw [hl]) (by rw [hl])
    (by rw [hl]) (by rw [hl]) (by rw [hl]) (by rw [hl])) (fun c _ hu => hu.raise c) hs

theorem Raises.requests_eq {s t : State} (h : Raises s t) : t.link.requests = s.link.requests :=
  h.keeps (P := fun u => u.link.requests = s.link.requests) (fun _ _ _ hl hu => by rw [hl]; exact hu)
    (fun c u hu => by rw [raise_link_requests]; exact hu) rfl

/-! ## Service and taking (R168, R169) -/

/-- The effect of a service keeps the invariant and the request queue. -/
theorem LinkInv.serve {s : State} (h : LinkInv s) (k : RequestKind) (p : List Byte) :
    LinkInv (k.serve p s).state ∧ (k.serve p s).state.link.requests = s.link.requests := by
  by_cases hk : k ∈ ([.assign, .linkStatus, .linkSetup, .partReset, .noticeSetup, .noticeClear] : List RequestKind)
  · simp only [List.mem_cons, List.not_mem_nil, or_false] at hk
    obtain rfl | rfl | rfl | rfl | rfl | rfl := hk
    · obtain hc | ⟨a, last, ha, hlast, hmax, hc⟩ := serveAssign_cases p s <;> rw [RequestKind.serve, hc]
      · exact ⟨h, rfl⟩
      · exact ⟨{ h with range := fun x hx => by obtain rfl : _ = x := by injection hx
                                                exact ⟨ha, hlast, hmax⟩ }, rfl⟩
    · obtain hc | ⟨_, hc⟩ := serveLinkStatus_cases p s <;> rw [RequestKind.serve, hc]
      · exact ⟨h, rfl⟩
      · exact ⟨h.carry, rfl⟩
    · obtain hc | ⟨slice, hlow, hhigh, hc⟩ := serveLinkSetup_cases p s <;> rw [RequestKind.serve, hc]
      · exact ⟨h, rfl⟩
      · exact ⟨{ h with slice := ⟨hlow, hhigh⟩ }, rfl⟩
    · obtain hc | hc := servePartReset_cases p s <;> rw [RequestKind.serve, hc]
      · exact ⟨h, rfl⟩
      · exact ⟨h.carry, rfl⟩
    · obtain ⟨hc, _⟩ | ⟨_, _, _, hc, _⟩ := serveNoticeSetup_cases p s <;> rw [RequestKind.serve, hc]
      · exact ⟨h, rfl⟩
      · exact ⟨h.carry, rfl⟩
    · obtain ⟨hc, _⟩ | ⟨_, _, hc, _⟩ := serveNoticeClear_cases p s <;> rw [RequestKind.serve, hc]
      · exact ⟨h, rfl⟩
      · exact ⟨h.carry, rfl⟩
  · exact ⟨(serve_raises hk p s).linkInv h, (serve_raises hk p s).requests_eq⟩

/-- A frame of the kind that joins the own side is unsent. -/
theorem unsent_append (k : OwnKind) (l : LinkUnit) (o : OwnFrame) :
    unsent k { l with own := l.own ++ [o] } = unsent k l + (o.kind == k).toNat := by
  unfold unsent isSendingOwn
  rw [List.countP_append]
  cases h : o.kind == k
  · simp [h]
  · simp [h]; omega

/-- The reply of a served request joins the own side as the request is marked served. -/
theorem LinkInv.replied {s : State} (h : LinkInv s) {r : LinkRequest} (hr : nextRequest s.link = some r)
    (x : LinkRequest) (payload : List Byte) : LinkInv (replied x payload s) := by
  have hlt := lt_length_of_nextRequest hr h.services
  have hservices := h.services
  obtain ⟨m, hm⟩ : ∃ m, s.link.requests.length - unsent .service s.link = m + 1 := ⟨_, (Nat.succ_pred (by omega)).symm⟩
  rw [hm] at hservices
  exact { h with
    requestsHeld := (length_markServed _).trans_le h.requestsHeld
    lengths := fun y hy => by
      obtain ⟨y', hy', hkind, hpayload⟩ := mem_markServed hy
      rw [← hkind, ← hpayload]
      exact h.lengths y' hy'
    services := by
      have hunsent : unsent .service (Machine.replied x payload s).link = unsent .service s.link + 1 :=
        unsent_append .service s.link _
      have hlen : (Machine.replied x payload s).link.requests.length = s.link.requests.length := length_markServed _
      rw [hunsent, hlen, show s.link.requests.length - (unsent .service s.link + 1) = m by omega]
      exact map_served_markServed hservices
    replies := h.replies.trans (unsent_append .linkReply s.link ⟨.service, _⟩).symm }

/-! ## Sending upstream (R164, R169, R170) -/

theorem unsent_none_of_orphan {k : OwnKind} {l : LinkUnit} {x : Sending UpFrame} (h : l.upSending = some x)
    (ho : x.orphan = true) : isSendingOwn k l = false := by
  unfold isSendingOwn
  rw [h]
  simp [ho]

theorem LinkInv.startUp {s : State} (h : LinkInv s) (hidle : s.link.upSending = none) (side : ArbSide) :
    LinkInv (s.setLink (s.link.startUp side)) := by
  have hidleOwn (k : OwnKind) : isSendingOwn k s.link = false := by unfold isSendingOwn; rw [hidle]
  have hcount (side : ArbSide) : ∃ last n, n ≤ 8 ∧ s.link.countRun side = { s.link with lastSide := last, runCount := n } := by
    unfold LinkUnit.countRun
    split
    · exact ⟨_, _, Nat.min_le_right _ _, rfl⟩
    · exact ⟨_, _, by omega, rfl⟩
  unfold LinkUnit.startUp
  split
  next o rest hown =>
    obtain ⟨last, n, hn, hrun⟩ := hcount .own
    have hunsent (k : OwnKind) : unsent k { s.link with
        lastSide := last, runCount := n, own := rest, upSending := some { frame := .own o, orphan := false } }
          = unsent k s.link := by
      unfold unsent
      rw [hidleOwn, hown, List.countP_cons]
      unfold isSendingOwn
      cases hk : o.kind == k <;> simp [hk]
    rw [hrun]
    exact { h with
      run := hn
      services := h.services_of rfl (hunsent _)
      replies := h.replies.trans (hunsent _).symm
      upFront := nofun }
  next f rest hforward =>
    obtain ⟨last, n, hn, hrun⟩ := hcount .forward
    have hunsent (k : OwnKind) : unsent k { s.link with
        lastSide := last, runCount := n, upSending := some { frame := .forward f, orphan := false } }
          = unsent k s.link := by
      unfold unsent
      rw [hidleOwn]
      rfl
    rw [hrun]
    exact { h with
      run := hn
      services := h.services_of rfl (hunsent _)
      replies := h.replies.trans (hunsent _).symm
      upFront := fun g hg => by
        obtain rfl : f = g := by simpa using hg
        show s.link.forward.head? = _
        rw [hforward]
        rfl }
  · exact h.carry
  · exact h.carry

/-- The place of a frame sent upstream is freed as its sending ends. -/
theorem LinkInv.freed {s : State} (h : LinkInv s) {x : Sending UpFrame} (hx : s.link.upSending = some x) :
    LinkInv (s.setLink { freeUp x s.link with upSending := none }) := by
  have hsending (k : OwnKind) (ho : isSendingOwn k s.link = false) :
      unsent k { s.link with upSending := none } = unsent k s.link := by
    unfold unsent
    rw [ho]
    rfl
  unfold freeUp
  split
  next horphan =>
    exact { h with
      services := h.services_of rfl (hsending _ (unsent_none_of_orphan hx horphan))
      replies := h.replies.trans (hsending _ (unsent_none_of_orphan hx horphan)).symm
      upFront := nofun }
  next horphan =>
    have horphan : x.orphan = false := by simpa using horphan
    split
    next f hf =>
      have hno (k : OwnKind) : isSendingOwn k s.link = false := by
        unfold isSendingOwn
        rw [hx]
        simp [hf]
      exact { h with
        forwardHeld := le_trans (by simp) h.forwardHeld
        services := h.services_of rfl (hsending _ (hno _))
        replies := h.replies.trans (hsending _ (hno _)).symm
        upFront := nofun }
    next o hf =>
      have hown (k : OwnKind) : isSendingOwn k s.link = (o.kind == k) := by
        unfold isSendingOwn
        rw [hx]
        simp [hf, horphan]
      split
      next hk =>
        have hunsent : unsent .service s.link = s.link.own.countP (fun o => o.kind == .service) + 1 := by
          unfold unsent; rw [hown, hk]; rfl
        have hservices := h.services
        rw [hunsent, List.replicate_succ, List.cons_append] at hservices
        obtain ⟨r, rest, hrest⟩ : ∃ r rest, s.link.requests = r :: rest :=
          List.exists_cons_of_ne_nil fun hnil => by simp [hnil] at hservices
        rw [hrest] at hservices
        obtain ⟨_, htail⟩ := List.cons.inj hservices
        exact { h with
          requestsHeld := le_trans (by simp) h.requestsHeld
          lengths := fun y hy => h.lengths y (List.mem_of_mem_tail hy)
          services := by
            show s.link.requests.tail.map _ = List.replicate (_ + 0) true ++ List.replicate (_ - (_ + 0)) false
            rw [hrest, List.tail_cons]
            refine htail.trans ?_
            rw [List.length_cons, Nat.add_sub_add_right]
            rfl
          replies := h.replies.trans (hsending _ (by rw [hown, hk]; rfl)).symm
          upFront := nofun }
      next hk =>
        have hunsent : unsent .linkReply s.link = s.link.own.countP (fun o => o.kind == .linkReply) + 1 := by
          unfold unsent; rw [hown, hk]; rfl
        exact { h with
          holdHeld := le_trans (List.length_erase_le ..) h.holdHeld
          services := h.services_of rfl (hsending _ (by rw [hown, hk]; rfl))
          replies := by
            have hreplies := h.replies
            rw [hunsent] at hreplies
            show (s.link.hold.erase .reply).count .reply = _ + 0
            rw [List.count_erase_self]
            exact Nat.sub_eq_of_eq_add hreplies
          upFront := nofun
          downFront := fun f hf => (firstForward_erase_reply _).trans (h.downFront f hf) }
      next hk =>
        exact { h with
          services := h.services_of rfl (hsending _ (by rw [hown, hk]; rfl))
          replies := h.replies.trans (hsending _ (by rw [hown, hk]; rfl)).symm
          upFront := nofun }

/-! ## The invariant kept -/

theorem linkInv_powerOn (pins : Pins) (pending : List Instr) : LinkInv (State.powerOn pins pending) where
  requestsHeld := Nat.zero_le _
  holdHeld := Nat.zero_le _
  forwardHeld := Nat.zero_le _
  run := Nat.zero_le _
  slice := ⟨show 1 ≤ 2 by decide, show 2 ≤ 8 by decide⟩
  range := nofun
  lengths := nofun
  services := rfl
  replies := rfl
  upFront := nofun
  downFront := nofun

theorem LinkInv.partReset {s : State} (h : LinkInv s) : LinkInv (partResetEffect s) := by
  have hunsent (k : OwnKind) : unsent k s.link.partReset = 0 := by
    unfold unsent isSendingOwn LinkUnit.partReset
    cases s.link.upSending <;> simp [Sending.outlive, LinkUnit.powerOn]
  exact { linkInv_powerOn s.pins s.pending with
    slice := h.slice
    range := h.range
    services := by
      show [] = List.replicate (unsent .service s.link.partReset) true
        ++ List.replicate (0 - unsent .service s.link.partReset) false
      rw [hunsent]
      rfl
    replies := (hunsent .linkReply).symm
    upFront := fun f hf => by
      obtain ⟨x, _, hx⟩ := Option.map_eq_some_iff.mp hf
      simp [Sending.outlive] at hx
    downFront := fun f hf => by
      obtain ⟨x, _, hx⟩ := Option.map_eq_some_iff.mp hf
      simp [Sending.outlive] at hx }

theorem LinkInv.fall {s : State} (h : LinkInv s) : LinkInv (s.setLink { s.link with
    hold := (fallHold s.link (isSendingDown s.link) s.link.hold).hold
    own := s.link.own ++ (fallHold s.link (isSendingDown s.link) s.link.hold).replies }) := by
  set x := fallHold s.link (isSendingDown s.link) s.link.hold with hx
  have hcount (k : OwnKind) : x.replies.countP (fun o => o.kind == k) = if k = .linkReply then x.replies.length else 0 := by
    have hall := fallHold_replies s.link (isSendingDown s.link) s.link.hold
    split
    next hk => exact List.countP_eq_length.mpr fun o ho => by rw [hall o ho, hk]; rfl
    next hk => exact List.countP_eq_zero.mpr fun o ho => by rw [hall o ho]; simpa using Ne.symm hk
  have hunsent (k : OwnKind) : unsent k { s.link with hold := x.hold, own := s.link.own ++ x.replies }
      = unsent k s.link + if k = .linkReply then x.replies.length else 0 := by
    unfold unsent isSendingOwn
    rw [List.countP_append, hcount, Nat.add_right_comm]
  exact { h with
    holdHeld := (length_fallHold_le ..).trans h.holdHeld
    services := h.services_of rfl (hunsent _)
    replies := by
      rw [State.setLink_link, hunsent, if_pos rfl, ← h.replies]
      exact countP_reply_fallHold ..
    downFront := fun f hf => by
      have hsending : isSendingDown s.link = true := by
        have hdown : s.link.downSending = some { frame := f, orphan := false } := hf
        unfold isSendingDown
        rw [hdown]
        rfl
      show firstForward x.hold = _
      rw [hx, hsending, firstForward_fallHold]
      exact h.downFront f hf }

theorem linkInv_linkKept : LinkKept LinkInv where
  set s t _ hl hs := (Raises.linkInv (.set (.refl s) (by assumption) hl) hs)
  raised c _ hs := hs.raise c
  power := linkInv_powerOn
  partReset _ hs := hs.partReset
  flags _ _ hs := hs.carry
  receiver side _ _ hs := by cases side <;> exact hs.carry
  due _ hs := hs.carry
  reply f s hroom hs := { hs with
    holdHeld := by simpa using hroom
    services := hs.services_of rfl (unsent_append .service s.link ⟨.linkReply, _⟩)
    replies := by
      have hunsent := unsent_append .linkReply s.link { kind := .linkReply, frame := f }
      have hreplies := hs.replies
      show (s.link.hold ++ [HoldSlot.reply]).countP _ = _
      rw [List.countP_append, hreplies]
      exact hunsent.symm
    downFront := fun g hg => by
      show firstForward (s.link.hold ++ [.reply]) = _
      rw [firstForward_append, hs.downFront g hg]
      rfl }
  forward f s hroom hs := { hs with
    holdHeld := by simpa using hroom
    replies := by
      show (s.link.hold ++ [HoldSlot.forward f]).countP _ = _
      rw [List.countP_append, hs.replies]
      rfl
    downFront := fun g hg => by
      show firstForward (s.link.hold ++ [.forward f]) = _
      rw [firstForward_append, hs.downFront g hg]
      rfl }
  request r s hroom hlength hserved hs := { hs with
    requestsHeld := by simpa using hroom
    lengths := fun y hy => by
      obtain hy | rfl : y ∈ s.link.requests ∨ y = r := by simpa using hy
      · exact hs.lengths y hy
      · exact hlength
    services := by
      have hle : unsent .service s.link ≤ s.link.requests.length := by
        have := congrArg List.length hs.services
        simp at this
        omega
      show (s.link.requests ++ [r]).map _ = List.replicate (unsent .service s.link) true
        ++ List.replicate ((s.link.requests ++ [r]).length - unsent .service s.link) false
      rw [List.map_append, hs.services, List.append_assoc, List.length_append, List.length_singleton,
        Nat.sub_add_comm hle, List.replicate_succ', List.map_singleton, hserved] }
  store f s hroom hs := { hs with
    forwardHeld := by simpa using hroom
    upFront := fun g hg => by
      show (s.link.forward ++ [f]).head? = _
      rw [List.head?_append, hs.upFront g hg]
      rfl }
  serve k r s hr hs := by
    obtain ⟨hinv, hrequests⟩ := hs.serve k r.payload
    have hreplied := hinv.replied (r := r) (by unfold nextRequest at hr ⊢; rw [hrequests]; exact hr) r
      (k.serve r.payload s).reply
    unfold serveRequest
    dsimp only
    split
    · exact LinkInv.evaluate hreplied
    · exact hreplied
  silent k p s hs := by
    obtain ⟨hinv, _⟩ := hs.serve k p
    unfold Served.silent
    split
    · exact hinv.evaluate
    · exact hinv
  arbiter s hs := by
    unfold arbitrate
    split
    next hidle =>
      split
      · exact hs.startUp hidle.1 _
      · exact hs
    · exact hs
  upSent s hs := by
    unfold upSent
    split
    · exact hs
    next x hx =>
      have hfreed := hs.freed hx
      dsimp only
      split
      · exact hfreed
      · split
        · exact hfreed
        · exact hfreed.setFlags _
        · split
          · exact hfreed.carry
          · exact hfreed
  startDown s hs := by
    unfold startDown
    split
    · split
      next f hf =>
        exact { hs with
          downFront := fun g hg => by
            obtain rfl : f = g := by simpa using hg
            exact hf }
      · exact hs
    · exact hs
  downSent s hs := by
    unfold downSent
    split
    · exact hs
    next x _ =>
      have hdone : LinkInv (s.setLink { s.link with
          downSending := none, hold := if x.orphan then s.link.hold else dropForward s.link.hold }) := by
        cases x.orphan
        · exact { hs with
            holdHeld := (length_dropForward_le _).trans hs.holdHeld
            replies := (countP_reply_dropForward _).trans hs.replies
            downFront := nofun }
        · exact { hs with downFront := nofun }
      dsimp only
      split
      · exact hdone.carry
      · exact hdone
  fall s hs := by
    unfold presentFall
    dsimp only
    split <;> split
    · exact (hs.fall.setFlags _).carry
    · exact hs.fall.carry
    · exact hs.fall.setFlags _
    · exact hs.fall

/-- Settles O7: a service marks the oldest unserved request as it forms one reply, a reply's last byte frees that place, and
raising a cause touches only the NOTICE of the own side. -/
theorem everyStepKeepsLinkInv : Obligations.EveryStepKeepsLinkInv := linkInv_linkKept.kept.keeps

end Sys2Proof.Machine
end

section
/-! PROOFS. The lineage guard's invariant (O8): re-deriving the class, closing and opening capture frames, and the refused
spans under their reports. -/

namespace Sys2Proof.Machine

/-! ## Marks (R135) -/

theorem markCode_stricter (a b : Mark) : markCode (stricter a b) = max (markCode a) (markCode b) := by
  unfold stricter
  split <;> omega

/-! ## Parts of the invariant -/

/-- The guard's invariant, less what a re-deriving of the class brings about. -/
structure GuardBase (s : State) : Prop where
  absence : s.lineage.absence ≤ 6
  held : s.lineage.interval.isSome = s.input.gathering.isSome
  absent : ∀ g m, s.input.gathering = some g → g.absentSeen = true → s.lineage.interval = some m → 1 ≤ markCode m
  listHeld : s.lineage.refusals.length ≤ 8
  openEntry : s.lineage.refusals.countP (fun e => e.stop.isNone) = (spanListed s.lineage).toNat
  unlisted : s.lineage.span.isSome → spanListed s.lineage = false → s.lineage.incomplete = true

theorem GuardInv.base {s : State} (h : GuardInv s) : GuardBase s :=
  ⟨h.absence, h.held, h.absent, h.listHeld, h.openEntry, h.unlisted⟩

/-- The invariant is carried to a state that agrees in all it looks at. -/
theorem GuardInv.carry {s t : State} (h : GuardInv s) (lineage : t.lineage = s.lineage := by rfl)
    (input : t.input = s.input := by rfl) (locked : t.pins.locked = s.pins.locked := by rfl) : GuardInv t := by
  have hnow : classNow t = classNow s := by unfold classNow; rw [lineage, input, locked]
  constructor
  · rw [lineage, hnow]; exact h.derived
  · rw [lineage]; exact h.absence
  · rw [lineage, input]; exact h.held
  · rw [lineage]; exact h.strict
  · rw [lineage, input]; exact h.seen
  · rw [lineage, input]; exact h.absent
  · rw [lineage]; exact h.listHeld
  · rw [lineage]; exact h.openEntry
  · rw [lineage]; exact h.unlisted

theorem GuardBase.carry {s t : State} (h : GuardBase s) (lineage : t.lineage = s.lineage := by rfl)
    (gathering : t.input.gathering = s.input.gathering := by rfl) : GuardBase t := by
  constructor
  · rw [lineage]; exact h.absence
  · rw [lineage, gathering]; exact h.held
  · rw [lineage, gathering]; exact h.absent
  · rw [lineage]; exact h.listHeld
  · rw [lineage]; exact h.openEntry
  · rw [lineage]; exact h.unlisted

/-! ## Re-deriving the class (R133, R136) -/

theorem rederive_lineage (s : State) : (rederive s).lineage = { s.lineage with
    cls := classNow s, interval := s.lineage.interval.map (fun m => stricter m (effective (classNow s))) } := by
  simp [rederive]

theorem rederive_input (s : State) : (rederive s).input =
    { s.input with gathering := s.input.gathering.map (fun g => g.see (classNow s)) } := by
  simp [rederive]

/-- A re-deriving makes the class what R133 derives, and the interval status no less restrictive than it. -/
theorem GuardBase.rederive {s : State} (h : GuardBase s) : GuardInv (rederive s) := by
  have hnow : classNow (Machine.rederive s) = classNow s := by
    unfold classNow
    rw [rederive_lineage, rederive_input, rederive_pins]
  constructor
  · rw [hnow, rederive_lineage]
  · rw [rederive_lineage]
    exact h.absence
  · rw [rederive_lineage, rederive_input]
    simpa using h.held
  · intro m hm
    rw [rederive_lineage] at hm ⊢
    obtain ⟨m', _, rfl⟩ := Option.map_eq_some_iff.mp hm
    rw [markCode_stricter]
    exact Nat.le_max_right _ _
  · intro g hg hcls
    rw [rederive_input] at hg
    rw [rederive_lineage] at hcls
    obtain ⟨g', _, rfl⟩ := Option.map_eq_some_iff.mp hg
    have hcls : classNow s = .absent := hcls
    simp [Gathering.see, hcls]
  · intro g m hg hseen hm
    rw [rederive_input] at hg
    rw [rederive_lineage] at hm
    obtain ⟨g', hg', rfl⟩ := Option.map_eq_some_iff.mp hg
    obtain ⟨m', hm', rfl⟩ := Option.map_eq_some_iff.mp hm
    rw [markCode_stricter]
    obtain hold | hnew : g'.absentSeen = true ∨ classNow s = .absent := by simpa [Gathering.see] using hseen
    · exact (h.absent g' m' hg' hold hm').trans (Nat.le_max_left _ _)
    · rw [hnew]
      exact Nat.le_max_right _ _
  · rw [rederive_lineage]
    exact h.listHeld
  · rw [rederive_lineage]
    exact h.openEntry
  · rw [rederive_lineage]
    exact h.unlisted

/-! ## Refused spans (R141 to R143) -/

theorem GuardInv.raise {s : State} (c : Cause) (h : GuardInv s) : GuardInv (raise c s) :=
  h.carry (raise_lineage c s) (raise_input c s) (by rw [raise_pins])

theorem GuardInv.raiseIf {s : State} (b : Bool) (c : Cause) (h : GuardInv s) : GuardInv (raiseIf b c s) := by
  cases b
  · exact h
  · exact h.raise c

/-- The lineage guard with another span and list keeps the rest of the invariant. -/
theorem GuardInv.setSpan {s : State} (h : GuardInv s) {l : Lineage}
    (hl : l = { s.lineage with span := l.span, refusals := l.refusals, incomplete := l.incomplete } := by rfl)
    (listHeld : l.refusals.length ≤ 8)
    (openEntry : l.refusals.countP (fun e => e.stop.isNone) = (spanListed l).toNat)
    (unlisted : l.span.isSome → spanListed l = false → l.incomplete = true) : GuardInv (s.setLineage l) := by
  constructor
  · rw [hl]; exact h.derived
  · rw [hl]; exact h.absence
  · rw [hl]; exact h.held
  · rw [hl]; exact h.strict
  · rw [hl]; exact h.seen
  · rw [hl]; exact h.absent
  · exact listHeld
  · exact openEntry
  · exact unlisted

theorem GuardInv.refusedReport {s : State} (w : FrameNo) (x : SpanContext) (h : GuardInv s) :
    GuardInv (refusedReport w x s) := by
  unfold Machine.refusedReport
  split
  next sp hsp =>
    have hlisted : spanListed s.lineage = sp.listed := by unfold spanListed; rw [hsp]
    exact h.setSpan (listHeld := h.listHeld) (openEntry := h.openEntry.trans (by rw [hlisted]; rfl))
      (unlisted := fun _ hl => h.unlisted (by rw [hsp]; rfl) (hlisted.trans hl))
  next hsp =>
    have hnone : s.lineage.refusals.countP (fun e => e.stop.isNone) = 0 := by
      rw [h.openEntry]; unfold spanListed; rw [hsp]; rfl
    split
    next hroom =>
      refine GuardInv.raise _ (h.setSpan (listHeld := ?_) (openEntry := ?_) (unlisted := nofun))
      · simpa [Config.refusalCap] using hroom
      · show (s.lineage.refusals ++ [_]).countP _ = 1
        rw [List.countP_append, hnone]
        rfl
    · exact GuardInv.raise _ (GuardInv.raise _ (h.setSpan (listHeld := h.listHeld) (openEntry := hnone)
        (unlisted := fun _ _ => rfl)))

theorem GuardInv.closeSpan {s : State} (h : GuardInv s) : GuardInv (closeSpan s) := by
  unfold Machine.closeSpan
  split
  · exact h
  next sp hsp =>
    refine GuardInv.raise _ (h.setSpan (listHeld := ?_) (openEntry := ?_) (unlisted := nofun))
    · dsimp only
      split
      · simpa using h.listHeld
      · exact h.listHeld
    · show List.countP _ (if sp.listed = true then _ else _) = 0
      split
      · rw [List.countP_map]
        refine List.countP_eq_zero.mpr fun e _ => ?_
        show ¬(RefusedEntry.close sp.last e).stop.isNone = true
        unfold RefusedEntry.close
        split
        · simp
        next he => simpa using he
      next hl =>
        rw [h.openEntry]
        unfold spanListed
        rw [hsp]
        simpa using hl

theorem Work.guardInv {s t : State} (h : Work s t) (hs : GuardInv s) : GuardInv t := by
  induction h with
  | refl => exact hs
  | raise c _ ih => exact ih.raise c
  | refused w x _ ih => exact ih.refusedReport w x
  | close _ ih => exact ih.closeSpan
  | engine _ _ _ ih => exact ih.carry
  | removeCue _ _ ih => exact ih.carry
  | changeCue _ _ _ _ ih => exact ih.carry
  | splice _ _ ih => exact ih.carry
  | conceal _ _ _ _ ih => exact ih.carry
  | emit _ _ _ _ ih => exact ih.carry
  | endRecording _ _ ih => exact ih.carry

/-! ## Capture frames (R136) -/

/-- With no frame in gathering and no interval status, what the invariant says of them holds. -/
theorem GuardInv.emptied {s t : State} (h : GuardInv s)
    (lineage : t.lineage = { s.lineage with interval := none, lastRuling := t.lineage.lastRuling })
    (gathering : t.input.gathering = none) (rate : t.input.rate = s.input.rate)
    (locked : t.pins.locked = s.pins.locked) : GuardInv t := by
  have hcls : t.lineage.cls = s.lineage.cls := by rw [lineage]
  have hnow : classNow t = classNow s := by unfold classNow; rw [lineage, rate, locked]
  constructor
  · rw [hcls, hnow]; exact h.derived
  · rw [lineage]; exact h.absence
  · rw [lineage, gathering]; rfl
  · rw [lineage]; nofun
  · rw [gathering]; nofun
  · rw [gathering]; nofun
  · rw [lineage]; exact h.listHeld
  · rw [lineage]; exact h.openEntry
  · rw [lineage]; exact h.unlisted

theorem GuardInv.closeCapture {s : State} (h : GuardInv s) : GuardInv (closeCapture s) := by
  unfold Machine.closeCapture
  split
  · exact h
  · exact GuardInv.raiseIf _ _ (h.emptied rfl rfl rfl rfl)

theorem GuardInv.absenceTick {s : State} (h : GuardInv s) : GuardInv (absenceTick s) :=
  GuardBase.rederive { h.base with absence := Nat.min_le_right _ _ }

theorem GuardInv.openCapture {s : State} (h : GuardInv s) : GuardInv (openCapture s) where
  derived := h.derived
  absence := h.absence
  held := rfl
  strict m hm := by
    obtain rfl : effective s.lineage.cls = m := by injection hm
    exact Nat.le_refl _
  seen g hg hcls := by
    obtain rfl : _ = g := by injection hg
    exact beq_iff_eq.mpr hcls
  absent g m hg hseen hm := by
    obtain rfl : _ = g := by injection hg
    obtain rfl : effective s.lineage.cls = m := by injection hm
    rw [show s.lineage.cls = .absent from beq_iff_eq.mp hseen]
    exact Nat.le_refl _
  listHeld := h.listHeld
  openEntry := h.openEntry
  unlisted := h.unlisted

theorem GuardInv.emptyBuffer {s : State} (h : GuardInv s) : GuardInv (emptyBuffer s) := h.emptied rfl rfl rfl rfl

/-- A frame in gathering that keeps what it saw keeps the invariant. -/
theorem GuardInv.mapGathering {s t : State} (h : GuardInv s) (lineage : t.lineage = s.lineage)
    {f : Gathering → Gathering} (hf : ∀ g, (f g).absentSeen = g.absentSeen)
    (gathering : t.input.gathering = s.input.gathering.map f) (rate : t.input.rate = s.input.rate)
    (locked : t.pins.locked = s.pins.locked) : GuardInv t := by
  have hnow : classNow t = classNow s := by unfold classNow; rw [lineage, rate, locked]
  constructor
  · rw [lineage, hnow]; exact h.derived
  · rw [lineage]; exact h.absence
  · rw [lineage, gathering, Option.isSome_map]; exact h.held
  · rw [lineage]; exact h.strict
  · intro g hg hcls
    rw [gathering] at hg
    rw [lineage] at hcls
    obtain ⟨g', hg', rfl⟩ := Option.map_eq_some_iff.mp hg
    rw [hf]
    exact h.seen g' hg' hcls
  · intro g m hg hseen hm
    rw [gathering] at hg
    rw [lineage] at hm
    obtain ⟨g', hg', rfl⟩ := Option.map_eq_some_iff.mp hg
    rw [hf] at hseen
    exact h.absent g' m hg' hseen hm
  · rw [lineage]; exact h.listHeld
  · rw [lineage]; exact h.openEntry
  · rw [lineage]; exact h.unlisted

theorem GuardInv.renumber {s : State} (diff : FrameNo) (h : GuardInv s) : GuardInv (renumber diff s) :=
  h.mapGathering rfl (f := fun g => { g with number := g.number + diff }) (fun _ => rfl) rfl rfl rfl

theorem GuardInv.enterPair {s : State} (source : Source) (p : Pair) (h : GuardInv s) :
    GuardInv (enterPair source p s) := by
  unfold Machine.enterPair
  split
  · exact h
  next g hg =>
    split
    · exact h.mapGathering rfl (f := fun g => g.enter (spf s.input.rate) p) (fun _ => rfl) (by rw [hg]; rfl) rfl rfl
    · exact h

/-! ## Composite events -/

theorem GuardInv.frameWritten {s : State} (h : GuardInv s) : GuardInv (frameWritten s) := by
  cases he : s.formatter.emission with
  | none => rwa [frameWritten_none he]
  | some e => exact (frameWritten_work he).guardInv h.carry

theorem GuardInv.tickInPlay {s : State} (g : BitVec 4) (h : GuardInv s) : GuardInv (tickInPlay g s) := by
  have hlevels (lines : List (Fin 4)) {u : State} (hu : GuardInv u) : GuardInv (lines.foldl (levelRequest g) u) := by
    induction lines generalizing u with
    | nil => exact hu
    | cons i lines ih => exact ih (hu.carry (by simp) (by simp) (by simp))
  have hposition : GuardInv (positionTick (clearHanded (Machine.frameWritten s))) := h.frameWritten.carry
  have hcapture : GuardInv (captureTick (levelRequests g (positionTick (clearHanded (Machine.frameWritten s))))) :=
    (hlevels gpiLines hposition).closeCapture.absenceTick.openCapture
  have hquery := hcapture.carry (t := queryTick _) (queryTick_lineage _) (queryTick_input _) (by rw [queryTick_pins])
  exact (((Work.refl _).formatterTick.engineTick (handedRequests (Machine.frameWritten s))).guardInv hquery).carry

theorem GuardInv.recordingTransport {s : State} (h : GuardInv s) : GuardInv (recordingTransport s) := by
  unfold Machine.recordingTransport
  split
  · exact GuardInv.closeSpan h.carry
  · split
    · exact h.carry
    · exact h.carry

theorem GuardInv.leavePlay {s : State} (h : GuardInv s) : GuardInv (leavePlay s) :=
  (Work.refl _).transportAbort.guardInv
    (h.emptyBuffer.recordingTransport.carry (lockLoss_lineage _) (lockLoss_input _) (by rw [lockLoss_pins]))

theorem GuardInv.transportChange {s : State} (x : Transport) (h : GuardInv s) : GuardInv (transportChange x s) := by
  unfold Machine.transportChange
  dsimp only
  have hpins : GuardInv (s.setPins { s.pins with transport := x }) := h.carry
  split
  · exact h
  · split <;> split
    · exact hpins.leavePlay.carry
    · exact hpins.carry
    · exact hpins.leavePlay
    · exact hpins

theorem GuardInv.judgeSubcode {s : State} (x y : FrameNo) (h : GuardInv s) : GuardInv (judgeSubcode x y s) := by
  unfold Machine.judgeSubcode
  dsimp only
  split
  · have hp (p : Position) : GuardInv (Machine.renumber (p.w - s.position.w) (s.setPosition p)) :=
      GuardInv.renumber _ h.carry
    refine GuardInv.raiseIf _ _ ?_
    split
    · exact (Work.refl _).rewind.guardInv (hp _)
    · exact hp _
  · exact h

theorem GuardInv.changeRate {s : State} (rate : Rate) (h : GuardInv s) : GuardInv (changeRate rate s) :=
  GuardBase.rederive (((Work.refl _).emptyCues.guardInv h.emptyBuffer).base.carry)

theorem guardInv_blockKept : BlockKept GuardInv where
  pending _ _ hs := hs.carry
  link _ _ hs := hs.carry
  notice _ _ hs := hs.carry
  output _ _ hs := hs.carry
  pins _ _ _ hl hs := hs.carry rfl rfl hl
  power _ _ := ⟨rfl, Nat.zero_le _, rfl, nofun, nofun, nofun, Nat.zero_le _, rfl, nofun⟩
  count _ hs := hs.carry
  pair source p _ hs := hs.enterPair source p
  lockIndication _ s hs := GuardBase.rederive hs.base.carry
  statusArrival _ s hs := GuardBase.rederive { hs.base with absence := Nat.zero_le _ }
  blockArrival _ _ _ hs := hs.carry
  headFrameEnd _ _ hs := closeFrame_stages (fun c _ h => h.raise c) hs.carry (fun _ _ _ h => h.carry)
    (fun _ _ h => h.carry) (fun x y _ h => h.judgeSubcode x y) (fun _ _ h => h.carry) (fun _ _ _ h => h.carry)
    (fun _ _ h => h.carry) (fun _ _ h => GuardInv.raiseIf _ _ h.carry)
  transport x _ hs := hs.transportChange x
  tick g s hs := iteInduction (fun _ => hs.tickInPlay g) (fun _ => hs)
  absence s hs := iteInduction (fun _ => hs.base.rederive) (fun _ => hs)
  expiry s hs := iteInduction (fun _ => hs.carry (updateQueries_lineage _ _) (updateQueries_input _ _)
    (by rw [updateQueries_pins])) (fun _ => hs)
  discard s hs := hs.carry (discardQueries_lineage s) (discardQueries_input s) (by rw [discardQueries_pins])
  written _ hs := hs.frameWritten
  edge i s hs := hs.carry (fallingEdge_lineage i s) (fallingEdge_input i s) (by rw [fallingEdge_pins])
  serve k hk p s hs := by
    simp only [List.mem_cons, List.not_mem_nil, or_false] at hk
    obtain rfl | rfl | rfl | rfl | rfl | rfl | rfl | rfl | rfl | rfl | rfl | rfl | rfl | rfl | rfl | rfl | rfl | rfl |
      rfl := hk <;> rw [RequestKind.serve]
    · obtain h | ⟨_, h⟩ | ⟨_, _, _, _, _, h⟩ := serveSourceSelect_cases p s <;> rw [h]
      · exact hs
      · exact hs.mapGathering rfl (f := id) (fun _ => rfl) (Option.map_id_fun ▸ rfl) rfl rfl
      · exact GuardInv.changeRate _
          (hs.mapGathering rfl (f := id) (fun _ => rfl) (Option.map_id_fun ▸ rfl) rfl rfl)
    · obtain h | ⟨mode, w, _, _, _, _, h⟩ := serveRecordStart_cases p s <;> rw [h]
      · exact hs
      · cases mode
        · exact hs.carry
        · exact GuardInv.raiseIf _ _ (GuardInv.renumber _ hs.carry)
    · obtain h | h := serveRecordStop_cases p s <;> rw [h]
      · exact hs
      · exact hs.carry
    · obtain h | ⟨_, _, h⟩ := serveLineageSetup_cases p s <;> rw [h]
      · exact hs
      · exact ⟨hs.derived, hs.absence, hs.held, hs.strict, hs.seen, hs.absent, hs.listHeld, hs.openEntry, hs.unlisted⟩
    · obtain h | ⟨_, _, h⟩ := serveConcealSetup_cases p s <;> rw [h]
      · exact hs
      · exact hs.carry
    · obtain h | h := serveQualityTotals_cases p s <;> rw [h]
      · exact hs
      · exact hs.carry
    · obtain h | ⟨_, _, _, _, _, h⟩ := servePrereadSetup_cases p s <;> rw [h]
      · exact hs
      · exact hs.carry
    · obtain h | ⟨_, _, _, _, h⟩ := serveGpiSetup_cases p s <;> rw [h]
      · exact hs
      · exact hs.carry
    · obtain h | ⟨_, h⟩ := serveMarkRead_cases p s <;> rw [h]
      · exact hs
      · exact hs.carry
    · obtain h | ⟨_, _, _, _, _, _, _, _, _, h⟩ := serveCueAdd_cases p s <;> rw [h]
      · exact hs
      · exact hs.carry
    · obtain h | ⟨_, _, _, _, h⟩ := serveCueRemove_cases p s <;> rw [h]
      · exact hs
      · exact ((Work.refl s).dropCue _).guardInv hs
    · obtain h | ⟨_, _, h⟩ := serveEditArm_cases p s <;> rw [h]
      · exact hs
      · exact ((Work.refl s).armEngine _).guardInv hs
    · obtain h | ⟨_, h⟩ := serveEditDisarm_cases p s <;> rw [h]
      · exact hs
      · exact hs.carry
    · obtain h | ⟨_, h⟩ := serveEditAbort_cases p s <;> rw [h]
      · exact hs
      · exact hs.carry
    · obtain h | ⟨_, _, _, _, h⟩ := serveEditSetup_cases p s <;> rw [h]
      · exact hs
      · exact hs.carry
    · obtain h | h := serveRefusalListRead_cases p s <;> rw [h]
      · exact hs
      · refine hs.setSpan (listHeld := (List.length_filter_le ..).trans hs.listHeld) (openEntry := ?_)
          (unlisted := fun hsome hl => ?_)
        · show (s.lineage.refusals.filter fun e => e.stop.isNone).countP _ = (spanListed s.lineage).toNat
          rw [List.countP_filter]
          simpa using hs.openEntry
        · have hl : spanListed s.lineage = false := hl
          have hinc := hs.unlisted hsome hl
          show (s.lineage.incomplete && _) = true
          unfold spanListed at hl
          obtain ⟨sp, hsp⟩ := Option.isSome_iff_exists.mp hsome
          have hsp : s.lineage.span = some sp := hsp
          rw [hsp] at hl ⊢
          simpa [hinc] using hl
    · obtain h | ⟨_, _, h⟩ | ⟨_, _, _, _, h⟩ := serveTapeQuery_cases p s <;> rw [h]
      · exact hs
      · exact hs.carry
      · exact hs.carry
    · obtain h | ⟨_, _, h⟩ := serveQueryCancel_cases p s <;> rw [h]
      · exact hs
      · exact hs.carry
    · obtain h | ⟨_, h⟩ := serveQuerySetup_cases p s <;> rw [h]
      · exact hs
      · exact hs.carry

/-- Settles O8: every event that can change the class ends in a re-deriving, which makes the interval status follow; the list
and the span change together, at a report. -/
theorem everyStepKeepsGuardInv : Obligations.EveryStepKeepsGuardInv := guardInv_blockKept.kept.keeps

end Sys2Proof.Machine
end

section
/-! PROOFS. The input unit's and the position unit's invariants (O12, O11): the numbers of the frames held across every change
of W, and the runs and the GPI queues. -/

namespace Sys2Proof.Machine

theorem spf_pos (x : Rate) : 0 < spf x := by cases x <;> decide

/-! ## The input unit against a number for W -/

/-- The input unit's invariant with `w` for the number of the frame in gathering. -/
structure InputAt (w : FrameNo) (s : State) : Prop where
  closedHeld : s.input.closed.length ≤ 3
  gatheringNumber : ∀ g, s.input.gathering = some g → g.number = w
  closedNumbers : ∀ i c, s.input.closed[i]? = some c → c.number = w - 1 - BitVec.ofNat 24 i
  noneGathering : s.input.gathering = none → s.input.closed = []
  outsidePlay : s.pins.transport ≠ .play → s.input.gathering = none
  closedPairs : ∀ c ∈ s.input.closed, c.pairs.length = spf s.input.rate
  gatheredPairs : ∀ g, s.input.gathering = some g →
    g.pairs.length = min g.received (spf s.input.rate) ∧ g.received ≤ 65535

theorem inputInv_iff {s : State} : InputInv s ↔ InputAt s.position.w s :=
  ⟨fun h => ⟨h.1, h.2, h.3, h.4, h.5, h.6, h.7⟩, fun h => ⟨h.1, h.2, h.3, h.4, h.5, h.6, h.7⟩⟩

theorem InputAt.carry {w : FrameNo} {s t : State} (h : InputAt w s) (input : t.input = s.input := by rfl)
    (transport : t.pins.transport = s.pins.transport := by rfl) : InputAt w t := by
  constructor
  · rw [input]; exact h.closedHeld
  · rw [input]; exact h.gatheringNumber
  · rw [input]; exact h.closedNumbers
  · rw [input]; exact h.noneGathering
  · rw [input, transport]; exact h.outsidePlay
  · rw [input]; exact h.closedPairs
  · rw [input]; exact h.gatheredPairs

theorem InputInv.carry {s t : State} (h : InputInv s) (input : t.input = s.input := by rfl)
    (w : t.position.w = s.position.w := by rfl) (transport : t.pins.transport = s.pins.transport := by rfl) :
    InputInv t := by
  rw [inputInv_iff, w]
  exact (inputInv_iff.mp h).carry input transport

theorem Work.inputInv {s t : State} (h : Work s t) (hs : InputInv s) : InputInv t :=
  hs.carry h.leaves.input (by rw [h.leaves.position]) (by rw [h.leaves.pins])

/-- A change of the frame in gathering that keeps its number, its pairs and its count keeps the invariant. -/
theorem InputAt.mapGathering {w : FrameNo} {s t : State} (h : InputAt w s) {f : Gathering → Gathering}
    (hf : ∀ g, (f g).number = g.number ∧ (f g).pairs = g.pairs ∧ (f g).received = g.received)
    (gathering : t.input.gathering = s.input.gathering.map f) (closed : t.input.closed = s.input.closed)
    (rate : t.input.rate = s.input.rate) (transport : t.pins.transport = s.pins.transport) : InputAt w t := by
  constructor
  · rw [closed]; exact h.closedHeld
  · intro g hg
    rw [gathering] at hg
    obtain ⟨g', hg', rfl⟩ := Option.map_eq_some_iff.mp hg
    rw [(hf g').1]
    exact h.gatheringNumber g' hg'
  · rw [closed]; exact h.closedNumbers
  · rw [gathering, closed, Option.map_eq_none_iff]; exact h.noneGathering
  · rw [gathering, transport, Option.map_eq_none_iff]; exact h.outsidePlay
  · rw [closed, rate]; exact h.closedPairs
  · intro g hg
    rw [gathering] at hg
    obtain ⟨g', hg', rfl⟩ := Option.map_eq_some_iff.mp hg
    rw [(hf g').2.1, (hf g').2.2, rate]
    exact h.gatheredPairs g' hg'

theorem InputAt.rederive {w : FrameNo} {s : State} (h : InputAt w s) : InputAt w (rederive s) :=
  h.mapGathering (f := fun g => g.see (classNow s)) (fun _ => ⟨rfl, rfl, rfl⟩) (by rw [rederive_input])
    (by rw [rederive_input]) (by rw [rederive_input]) (by rw [rederive_pins])

theorem InputInv.rederive {s : State} (h : InputInv s) : InputInv (rederive s) := by
  rw [inputInv_iff, rederive_position]
  exact (inputInv_iff.mp h).rederive

theorem InputInv.enterPair {s : State} (source : Source) (p : Pair) (h : InputInv s) :
    InputInv (enterPair source p s) := by
  unfold Machine.enterPair
  split
  · exact h
  next g hg =>
    split
    · have hlen := h.gatheredPairs g hg
      have := spf_le s.input.rate
      exact { h with
        gatheringNumber := fun g' hg' => by
          obtain rfl : _ = g' := by injection hg'
          exact h.gatheringNumber g hg
        noneGathering := nofun
        outsidePlay := fun hplay => absurd (h.outsidePlay hplay) (by simp [hg])
        gatheredPairs := fun g' hg' => by
          obtain rfl : _ = g' := by injection hg'
          show (if g.pairs.length < spf s.input.rate then g.pairs ++ [p] else g.pairs).length
              = min (satInc Config.max16 g.received) (spf s.input.rate) ∧ satInc Config.max16 g.received ≤ 65535
          unfold satInc Config.max16
          split
          · rw [List.length_append, List.length_singleton]; omega
          · omega }
    · exact h

/-- With the buffer empty the invariant holds of every number. -/
theorem InputAt.of_empty (w : FrameNo) {s : State} (gathering : s.input.gathering = none)
    (closed : s.input.closed = []) : InputAt w s := by
  constructor
  · rw [closed]; exact Nat.zero_le _
  · rw [gathering]; nofun
  · rw [closed]; intro i c hc; simp at hc
  · exact fun _ => closed
  · exact fun _ => gathering
  · rw [closed]; nofun
  · rw [gathering]; nofun

theorem renumber_input (diff : FrameNo) (s : State) : (renumber diff s).input = { s.input with
    gathering := s.input.gathering.map (fun g => { g with number := g.number + diff })
    closed := s.input.closed.map (fun c => { c with number := c.number + diff }) } := rfl

/-- Renumbering by the difference of W follows the change of W (R24). -/
theorem InputAt.renumber {w : FrameNo} {s : State} (diff : FrameNo) (h : InputAt w s) :
    InputAt (w + diff) (renumber diff s) where
  closedHeld := by rw [renumber_input, List.length_map]; exact h.closedHeld
  gatheringNumber g hg := by
    obtain ⟨g', hg', rfl⟩ := Option.map_eq_some_iff.mp hg
    show g'.number + diff = _
    rw [h.gatheringNumber g' hg']
  closedNumbers i c hc := by
    rw [renumber_input, List.getElem?_map] at hc
    obtain ⟨c', hc', rfl⟩ := Option.map_eq_some_iff.mp hc
    show c'.number + diff = _
    rw [h.closedNumbers i c' hc']
    ring
  noneGathering hg := by
    rw [renumber_input, h.noneGathering (Option.map_eq_none_iff.mp hg)]
    rfl
  outsidePlay hplay := by
    rw [renumber_input, h.outsidePlay hplay]
    rfl
  closedPairs c hc := by
    obtain ⟨c', hc', rfl⟩ := List.mem_map.mp hc
    exact h.closedPairs c' hc'
  gatheredPairs g hg := by
    obtain ⟨g', hg', rfl⟩ := Option.map_eq_some_iff.mp hg
    exact h.gatheredPairs g' hg'

/-- A position with another W, and the frames held renumbered by the difference. -/
theorem InputInv.retake {s : State} (p : Position) (h : InputInv s) :
    InputInv (renumber (p.w - s.position.w) (s.setPosition p)) := by
  have hat := (inputInv_iff.mp h).carry (t := s.setPosition p) |>.renumber (p.w - s.position.w)
  rw [add_sub_cancel] at hat
  exact inputInv_iff.mpr hat

/-! ## The tick at the input unit (R21, R23) -/

theorem length_pushNewest_le {α : Type} (cap : Nat) (x : α) (l : List α) : (pushNewest cap x l).length ≤ cap :=
  List.length_take_le ..

/-- The frame in gathering, numbered `w`, closes and the next one opens, numbered W, which is now `w + 1`. -/
theorem InputAt.captureTick {w : FrameNo} {s : State} (h : InputAt w s) (hw : s.position.w = w + 1)
    (hplay : s.pins.transport = .play) : InputInv (captureTick s) := by
  have hpush {g : Gathering} (hg : s.input.gathering = some g) (r : Ruling) (i : Nat) (c : CaptureFrame)
      (hc : (pushNewest Config.closedFrames (g.close (spf s.input.rate) s.input.closed r) s.input.closed)[i]? = some c) :
      c.number = w + 1 - 1 - BitVec.ofNat 24 i := by
    unfold pushNewest at hc
    rw [List.getElem?_take] at hc
    split at hc
    · cases i with
      | zero =>
        obtain rfl : g.close (spf s.input.rate) s.input.closed r = c := by simpa using hc
        show g.number = _
        rw [h.gatheringNumber g hg]
        simp
      | succ i =>
        have hc : s.input.closed[i]? = some c := by simpa using hc
        rw [h.closedNumbers i c hc, show (BitVec.ofNat 24 (i + 1)) = BitVec.ofNat 24 i + 1 from BitVec.ofNat_add ..]
        ring
    · contradiction
  have hclosed : (closeCapture s).input.closed.length ≤ 3 ∧
      (∀ i c, (closeCapture s).input.closed[i]? = some c → c.number = w + 1 - 1 - BitVec.ofNat 24 i) ∧
      (∀ c ∈ (closeCapture s).input.closed, c.pairs.length = spf s.input.rate) ∧
      (closeCapture s).input.rate = s.input.rate := by
    unfold closeCapture
    split
    next hg =>
      rw [h.noneGathering hg]
      exact ⟨Nat.zero_le _, fun i c hc => by simp at hc, nofun, rfl⟩
    next g hg =>
      rw [raiseIf_input]
      refine ⟨length_pushNewest_le .., hpush hg _, fun c hc => ?_, rfl⟩
      obtain rfl | hc := List.mem_cons.mp (List.mem_of_mem_take hc)
      · exact closePairs_length ..
      · exact h.closedPairs c hc
  obtain ⟨hheld, hnumbers, hpairs, hrate⟩ := hclosed
  have habsence : (absenceTick (closeCapture s)).input.closed = (closeCapture s).input.closed ∧
      (absenceTick (closeCapture s)).input.rate = s.input.rate := by
    unfold absenceTick
    rw [rederive_input]
    exact ⟨rfl, hrate⟩
  have hposition : (Machine.captureTick s).position.w = w + 1 := by rw [captureTick_position, hw]
  have hnew : (Machine.captureTick s).input.gathering = some ⟨w + 1, (absenceTick (closeCapture s)).input.source, [], 0,
      (absenceTick (closeCapture s)).lineage.cls == .absent⟩ := by
    rw [← hw]
    simp [Machine.captureTick, openCapture]
  constructor
  · show (absenceTick (closeCapture s)).input.closed.length ≤ 3
    rw [habsence.1]
    exact hheld
  · intro g hg
    rw [hnew] at hg
    obtain rfl : _ = g := by injection hg
    exact hposition.symm
  · show ∀ i c, (absenceTick (closeCapture s)).input.closed[i]? = some c → _
    rw [habsence.1, hposition]
    exact hnumbers
  · intro hg
    rw [hnew] at hg
    contradiction
  · rw [captureTick_pins]
    exact fun hno => absurd hplay hno
  · show ∀ c ∈ (absenceTick (closeCapture s)).input.closed, c.pairs.length = spf (absenceTick (closeCapture s)).input.rate
    rw [habsence.1, habsence.2]
    exact hpairs
  · intro g hg
    rw [hnew] at hg
    obtain rfl : _ = g := by injection hg
    exact ⟨by simp, by simp⟩

theorem frameWritten_leaves (s : State) : Work.Leaves s (frameWritten s) ∨ ∃ e, s.formatter.emission = some e ∧
    Work.Leaves (s.setFormatter (s.formatter.finish e)) (frameWritten s) := by
  cases he : s.formatter.emission with
  | none => exact .inl (by rw [frameWritten_none he]; exact (Work.refl s).leaves)
  | some e => exact .inr ⟨e, rfl, (frameWritten_work he).leaves⟩

@[simp] theorem frameWritten_pending (s : State) : (frameWritten s).pending = s.pending := by
  obtain h | ⟨_, _, h⟩ := frameWritten_leaves s <;> exact h.pending

@[simp] theorem frameWritten_pins (s : State) : (frameWritten s).pins = s.pins := by
  obtain h | ⟨_, _, h⟩ := frameWritten_leaves s <;> exact h.pins

@[simp] theorem frameWritten_sampleCount (s : State) : (frameWritten s).sampleCount = s.sampleCount := by
  obtain h | ⟨_, _, h⟩ := frameWritten_leaves s <;> exact h.sampleCount

@[simp] theorem frameWritten_input (s : State) : (frameWritten s).input = s.input := by
  obtain h | ⟨_, _, h⟩ := frameWritten_leaves s <;> exact h.input

@[simp] theorem frameWritten_gathered (s : State) : (frameWritten s).gathered = s.gathered := by
  obtain h | ⟨_, _, h⟩ := frameWritten_leaves s <;> exact h.gathered

@[simp] theorem frameWritten_decoder (s : State) : (frameWritten s).decoder = s.decoder := by
  obtain h | ⟨_, _, h⟩ := frameWritten_leaves s <;> exact h.decoder

@[simp] theorem frameWritten_ring (s : State) : (frameWritten s).ring = s.ring := by
  obtain h | ⟨_, _, h⟩ := frameWritten_leaves s <;> exact h.ring

@[simp] theorem frameWritten_position (s : State) : (frameWritten s).position = s.position := by
  obtain h | ⟨_, _, h⟩ := frameWritten_leaves s <;> exact h.position

/-! ## What the LEVEL requests of a tick leave -/

/-- The LEVEL requests touch the GPI lines, and raise causes. -/
theorem levelRequests_keeps {P : State → Prop} {g : BitVec 4} (hp : ∀ i u, P u → P (gpiRequest i u)) {s : State}
    (hs : P s) : P (levelRequests g s) := by
  unfold levelRequests
  generalize gpiLines = lines
  induction lines generalizing s with
  | nil => exact hs
  | cons i lines ih => exact ih (iteInduction (fun _ => hp i _ hs) (fun _ => hs))

theorem gpiRequest_w (i : Fin 4) (s : State) : (gpiRequest i s).position.w = s.position.w := by
  rw [gpiRequest_position]

theorem lockLoss_position (s : State) : (lockLoss s).position = s.position.forget := by
  simp [lockLoss]

theorem InputInv.frameTick {s : State} (g : BitVec 4) (h : InputInv s) : InputInv (frameTick g s) := by
  unfold Machine.frameTick
  split
  next hplay =>
    have hposition : InputAt s.position.w (positionTick (clearHanded (frameWritten s))) :=
      (inputInv_iff.mp h).carry (frameWritten_input s) (by show (frameWritten s).pins.transport = _; rw [frameWritten_pins])
    have hlevels := levelRequests_keeps (g := g)
      (P := fun u => InputAt s.position.w u ∧ u.position.w = s.position.w + 1 ∧ u.pins.transport = .play)
      (fun i u ⟨hu, hw, hpins⟩ => ⟨hu.carry (gpiRequest_input i u) (by rw [gpiRequest_pins]),
        (gpiRequest_w i u).trans hw, by rw [gpiRequest_pins]; exact hpins⟩)
      ⟨hposition, by show (frameWritten s).position.w + 1 = _; rw [frameWritten_position],
        by show (frameWritten s).pins.transport = _; rw [frameWritten_pins]; exact hplay⟩
    obtain ⟨hat, hw, hpins⟩ := hlevels
    have hquery := (hat.captureTick hw hpins).carry (t := queryTick _) (queryTick_input _)
      (by rw [queryTick_position]) (by rw [queryTick_pins])
    exact (((Work.refl _).formatterTick.engineTick (handedRequests (frameWritten s))).inputInv hquery).carry
  · exact h

theorem InputInv.transportChange {s : State} (x : Transport) (h : InputInv s) : InputInv (transportChange x s) := by
  unfold Machine.transportChange
  dsimp only
  have hleft : InputInv (leavePlay (s.setPins { s.pins with transport := x })) := by
    have hinput : (lockLoss (recordingTransport (emptyBuffer (s.setPins { s.pins with transport := x })))).input
        = { s.input with gathering := none, closed := [] } := by simp [emptyBuffer]
    refine (Work.refl _).transportAbort.inputInv (inputInv_iff.mpr (.of_empty _ ?_ ?_))
    · rw [hinput]
    · rw [hinput]
  have hmoved : InputInv (if s.pins.transport = .play then leavePlay (s.setPins { s.pins with transport := x })
      else s.setPins { s.pins with transport := x }) := by
    split
    · exact hleft
    next hplay =>
      exact inputInv_iff.mpr (.of_empty _ (h.outsidePlay hplay) (h.noneGathering (h.outsidePlay hplay)))
  split
  · exact h
  · split
    · exact hmoved.carry
    · exact hmoved

theorem InputInv.judgeSubcode {s : State} (x y : FrameNo) (h : InputInv s) : InputInv (judgeSubcode x y s) := by
  unfold Machine.judgeSubcode
  dsimp only
  split
  · refine InputInv.carry (s := if _ then rewind _ else _) ?_ (raiseIf_input ..) (by rw [raiseIf_position])
      (by rw [raiseIf_pins])
    split
    · exact (Work.refl _).rewind.inputInv (h.retake _)
    · exact h.retake _
  · exact h

theorem InputInv.newStart {s : State} (w : FrameNo) (h : InputInv s) : InputInv (newStart w s) :=
  (h.retake { s.position.forget with w := w }).carry (raiseIf_input ..) (by unfold Machine.newStart; rw [raiseIf_position])
    (by unfold Machine.newStart; rw [raiseIf_pins])

theorem inputInv_blockKept : BlockKept InputInv where
  pending _ _ hs := hs.carry
  link _ _ hs := hs.carry
  notice _ _ hs := hs.carry
  output _ _ hs := hs.carry
  pins _ _ ht _ hs := hs.carry rfl rfl ht
  power _ _ := inputInv_iff.mpr (.of_empty _ rfl rfl)
  count _ hs := hs.carry
  pair source p _ hs := hs.enterPair source p
  lockIndication _ _ hs := InputInv.rederive hs.carry
  statusArrival _ _ hs := InputInv.rederive hs.carry
  blockArrival _ _ _ hs := hs.carry
  headFrameEnd _ _ hs := closeFrame_stages
    (fun c u h => h.carry (raise_input c u) (by rw [raise_position]) (by rw [raise_pins])) hs.carry
    (fun _ _ _ h => h.carry) (fun _ _ h => h.carry) (fun x y _ h => h.judgeSubcode x y) (fun _ _ h => h.carry)
    (fun _ _ _ h => h.carry) (fun _ _ h => h.carry)
    (fun _ u h => h.carry (updateQueries_input _ u) (by unfold reportQueries; rw [updateQueries_position])
      (by unfold reportQueries; rw [updateQueries_pins]))
  transport x _ hs := hs.transportChange x
  tick g _ hs := hs.frameTick g
  absence _ hs := iteInduction (fun _ => hs.rederive) (fun _ => hs)
  expiry s hs := iteInduction (fun _ => hs.carry (updateQueries_input _ s) (by rw [updateQueries_position])
    (by rw [updateQueries_pins])) (fun _ => hs)
  discard s hs := hs.carry (discardQueries_input s) (by rw [discardQueries_position]) (by rw [discardQueries_pins])
  written s hs := hs.carry (frameWritten_input s) (by rw [frameWritten_position]) (by rw [frameWritten_pins])
  edge i s hs := hs.carry (fallingEdge_input i s)
    (iteInduction (motive := fun u : State => u.position.w = s.position.w) (fun _ => gpiRequest_w i s) (fun _ => rfl))
    (by rw [fallingEdge_pins])
  serve k hk p s hs := by
    simp only [List.mem_cons, List.not_mem_nil, or_false] at hk
    obtain rfl | rfl | rfl | rfl | rfl | rfl | rfl | rfl | rfl | rfl | rfl | rfl | rfl | rfl | rfl | rfl | rfl | rfl |
      rfl := hk <;> rw [RequestKind.serve]
    · have hsource (source : Source) : InputInv (s.setInput { s.input with source := source }) :=
        ⟨hs.closedHeld, hs.gatheringNumber, hs.closedNumbers, hs.noneGathering, hs.outsidePlay, hs.closedPairs,
          hs.gatheredPairs⟩
      obtain h | ⟨source, h⟩ | ⟨source, rate, _, _, _, h⟩ := serveSourceSelect_cases p s <;> rw [h]
      · exact hs
      · exact hsource source
      · have hleaves := ((Work.refl (emptyBuffer (s.setInput { s.input with source := source }))).emptyCues).leaves.input
        refine InputInv.rederive (inputInv_iff.mpr (.of_empty _ ?_ ?_))
        · exact congrArg InputUnit.gathering hleaves
        · exact congrArg InputUnit.closed hleaves
    · obtain h | ⟨mode, w, _, _, _, _, h⟩ := serveRecordStart_cases p s <;> rw [h]
      · exact hs
      · cases mode with
        | continuing => exact hs.carry
        | new =>
          exact InputInv.newStart w hs.carry
    · obtain h | h := serveRecordStop_cases p s <;> rw [h] <;> exact hs.carry
    · obtain h | ⟨_, _, h⟩ := serveLineageSetup_cases p s <;> rw [h] <;> exact hs.carry
    · obtain h | ⟨_, _, h⟩ := serveConcealSetup_cases p s <;> rw [h] <;> exact hs.carry
    · obtain h | h := serveQualityTotals_cases p s <;> rw [h] <;> exact hs.carry
    · obtain h | ⟨_, _, _, _, _, h⟩ := servePrereadSetup_cases p s <;> rw [h] <;> exact hs.carry
    · obtain h | ⟨_, _, _, _, h⟩ := serveGpiSetup_cases p s <;> rw [h] <;> exact hs.carry
    · obtain h | ⟨_, h⟩ := serveMarkRead_cases p s <;> rw [h] <;> exact hs.carry
    · obtain h | ⟨_, _, _, _, _, _, _, _, _, h⟩ := serveCueAdd_cases p s <;> rw [h] <;> exact hs.carry
    · obtain h | ⟨_, _, _, _, h⟩ := serveCueRemove_cases p s <;> rw [h]
      · exact hs
      · exact ((Work.refl s).dropCue _).inputInv hs
    · obtain h | ⟨_, _, h⟩ := serveEditArm_cases p s <;> rw [h]
      · exact hs
      · exact ((Work.refl s).armEngine _).inputInv hs
    · obtain h | ⟨_, h⟩ := serveEditDisarm_cases p s <;> rw [h] <;> exact hs.carry
    · obtain h | ⟨_, h⟩ := serveEditAbort_cases p s <;> rw [h] <;> exact hs.carry
    · obtain h | ⟨_, _, _, _, h⟩ := serveEditSetup_cases p s <;> rw [h] <;> exact hs.carry
    · obtain h | h := serveRefusalListRead_cases p s <;> rw [h] <;> exact hs.carry
    · obtain h | ⟨_, _, h⟩ | ⟨_, _, _, _, h⟩ := serveTapeQuery_cases p s <;> rw [h] <;> exact hs.carry
    · obtain h | ⟨_, _, h⟩ := serveQueryCancel_cases p s <;> rw [h] <;> exact hs.carry
    · obtain h | ⟨_, h⟩ := serveQuerySetup_cases p s <;> rw [h] <;> exact hs.carry

/-- Settles O12: each change of W comes with the tick that closes the frame in gathering, with a renumbering by the
difference, or with an empty buffer. -/
theorem everyStepKeepsInputInv : Obligations.EveryStepKeepsInputInv := inputInv_blockKept.kept.keeps

end Sys2Proof.Machine
end

section
/-! PROOFS. The position unit's invariant (O11): the runs of the lock under a judged subcode, and the queues of the GPI
lines. -/

namespace Sys2Proof.Machine

/-! ## The lock (R90 to R95) -/

/-- What the invariant says of the lock state, its runs and its age. -/
structure Position.RunsInv (p : Position) : Prop where
  agree : p.agree ≤ 3
  seq : p.seq ≤ 3
  disagree : p.disagree ≤ 2
  age : p.age ≤ 65535
  ageZero : p.lock ≠ .locked → p.age = 0
  unlockedRun : p.lock = .unlocked → p.disagree = 0
  lockedRun : p.lock = .locked → p.agree = 0

/-- What the invariant says of the GPI lines. -/
structure Position.LinesInv (p : Position) : Prop where
  depths : ∀ i : Fin 4, p.gpi[i].depth = 1 ∨ p.gpi[i].depth = 2
  queues : ∀ i : Fin 4, p.gpi[i].queue.length ≤ p.gpi[i].depth

theorem PositionInv.runs {s : State} (h : PositionInv s) : s.position.RunsInv :=
  ⟨h.agree, h.seq, h.disagree, h.age, h.ageZero, h.unlockedRun, h.lockedRun⟩

theorem PositionInv.lines {s : State} (h : PositionInv s) : s.position.LinesInv := ⟨h.depths, h.queues⟩

theorem PositionInv.of_parts {s : State} (runs : s.position.RunsInv) (lines : s.position.LinesInv)
    (count : s.sampleCount ≤ 65535) (preread : 1 ≤ s.decoder.preread ∧ s.decoder.preread ≤ 4)
    (outsidePlay : s.pins.transport ≠ .play → s.position.lock = .unlocked) : PositionInv s :=
  ⟨runs.agree, runs.seq, runs.disagree, runs.age, count, preread, runs.ageZero, outsidePlay, runs.unlockedRun,
    runs.lockedRun, lines.depths, lines.queues⟩

/-- LOCKED is entered with every run and the age at 0, the sequence run apart. -/
theorem Position.runsInv_enterLocked {p : Position} (h : p.seq ≤ 3) : p.enterLocked.RunsInv :=
  ⟨Nat.zero_le _, h, Nat.zero_le _, Nat.zero_le _, fun hl => absurd rfl hl, nofun, fun _ => rfl⟩

/-- The invariant does not look at W. -/
theorem Position.RunsInv.retake {p : Position} (h : p.RunsInv) (w : FrameNo) : Position.RunsInv { p with w := w } :=
  ⟨h.agree, h.seq, h.disagree, h.age, h.ageZero, h.unlockedRun, h.lockedRun⟩

theorem Position.RunsInv.judgeUnlocked {p : Position} (h : p.RunsInv) (hl : p.lock = .unlocked) (x y : FrameNo)
    (d : Nat) : (judgeUnlocked p x y d).RunsInv := by
  unfold Machine.judgeUnlocked
  refine iteInduction (fun _ => runsInv_enterLocked h.seq) fun _ => iteInduction
    (fun _ => (runsInv_enterLocked h.seq).retake _) fun _ => ?_
  refine ⟨?_, h.seq, h.disagree, h.age, h.ageZero, h.unlockedRun, fun hlocked => absurd (hl.symm.trans hlocked) nofun⟩
  show (if x = y then satInc 3 p.agree else 0) ≤ 3
  split
  · unfold satInc; omega
  · exact Nat.zero_le _

theorem Position.RunsInv.judgeLocked {p : Position} (h : p.RunsInv) (hl : p.lock = .locked) (x y : FrameNo) :
    (judgeLocked p x y).RunsInv := by
  unfold Machine.judgeLocked
  split
  · exact ⟨h.agree, h.seq, Nat.zero_le _, h.age, h.ageZero, fun _ => rfl, h.lockedRun⟩
  · split
    · exact ⟨h.agree, show 1 ≤ 3 by decide, Nat.zero_le _, Nat.zero_le _, fun _ => rfl, nofun, nofun⟩
    next hfirst => exact ⟨h.agree, h.seq, show p.disagree + 1 ≤ 2 by omega, h.age, h.ageZero,
        fun hunlocked => absurd (hl.symm.trans hunlocked) nofun, h.lockedRun⟩

theorem Position.RunsInv.judgeSlipped {p : Position} (h : p.RunsInv) (x : FrameNo) (d : Nat) :
    (judgeSlipped p x d).RunsInv := by
  unfold Machine.judgeSlipped
  exact iteInduction (fun _ => (runsInv_enterLocked h.seq).retake _) (fun _ => h)

theorem Position.RunsInv.judge {p : Position} (h : p.RunsInv) (x y : FrameNo) (d : Nat) : (p.judge x y d).RunsInv := by
  have hseq : seqAfter p x ≤ 3 := by unfold seqAfter satInc; split <;> omega
  have hnext : Position.RunsInv { p with seq := seqAfter p x, last := some x } :=
    ⟨h.agree, hseq, h.disagree, h.age, h.ageZero, h.unlockedRun, h.lockedRun⟩
  unfold Position.judge
  dsimp only
  split
  next hl => exact hnext.judgeUnlocked hl x y d
  next hl => exact hnext.judgeLocked hl x y
  next => exact hnext.judgeSlipped x d

@[simp] theorem Position.judge_gpi (p : Position) (x y : FrameNo) (d : Nat) : (p.judge x y d).gpi = p.gpi := by
  unfold Position.judge judgeUnlocked judgeLocked judgeSlipped
  dsimp only
  (repeat' split) <;> rfl

/-! ## The GPI lines (R98 to R103) -/

/-- A line within its depth, which is 1 or 2. -/
def GpiLine.Fits (l : GpiLine) : Prop := (l.depth = 1 ∨ l.depth = 2) ∧ l.queue.length ≤ l.depth

theorem Position.LinesInv.fits {p : Position} (h : p.LinesInv) (i : Fin 4) : p.gpi[i].Fits := ⟨h.depths i, h.queues i⟩

theorem Position.LinesInv.of_fits {p : Position} (h : ∀ i : Fin 4, p.gpi[i].Fits) : p.LinesInv :=
  ⟨fun i => (h i).1, fun i => (h i).2⟩

theorem GpiLine.Fits.join {l : GpiLine} (h : l.Fits) (r : GpiRequest) : (l.join r).Fits := by
  obtain ⟨hdepth, hqueue⟩ := h
  unfold GpiLine.join GpiLine.isFull
  split
  next hfull =>
    refine ⟨hdepth, ?_⟩
    have hfull : l.depth ≤ l.queue.length := by simpa using hfull
    simp only [List.length_append, List.length_dropLast, List.length_singleton]
    omega
  next hroom =>
    refine ⟨hdepth, ?_⟩
    have hroom : l.queue.length < l.depth := by simpa using hroom
    simpa using hroom

theorem Position.LinesInv.set {p : Position} (h : p.LinesInv) (i : Fin 4) {l : GpiLine} (hl : l.Fits) :
    Position.LinesInv { p with gpi := p.gpi.set i l } := by
  refine .of_fits fun j => ?_
  show ((p.gpi.set i l)[j.val]).Fits
  rw [Vector.getElem_set]
  split
  · exact hl
  · exact h.fits j

theorem Position.LinesInv.map {p : Position} (h : p.LinesInv) {f : GpiLine → GpiLine} (hf : ∀ l, l.Fits → (f l).Fits) :
    Position.LinesInv { p with gpi := p.gpi.map f } := by
  refine .of_fits fun j => ?_
  show ((p.gpi.map f)[j.val]).Fits
  rw [Vector.getElem_map]
  exact hf _ (h.fits j)

theorem GpiLine.Fits.emptied {l : GpiLine} (h : l.Fits) : GpiLine.Fits { l with queue := [] } := ⟨h.1, Nat.zero_le _⟩

/-! ## The invariant kept -/

/-- The invariant is carried to a state that agrees in all it looks at. -/
theorem PositionInv.carry {s t : State} (h : PositionInv s) (position : t.position = s.position := by rfl)
    (count : t.sampleCount = s.sampleCount := by rfl) (preread : t.decoder.preread = s.decoder.preread := by rfl)
    (transport : t.pins.transport = s.pins.transport := by rfl) : PositionInv t :=
  .of_parts (position ▸ h.runs) (position ▸ h.lines) (count ▸ h.count) (preread ▸ h.preread)
    (fun hplay => by rw [position]; exact h.outsidePlay (transport ▸ hplay))

theorem Work.positionInv {s t : State} (h : Work s t) (hs : PositionInv s) : PositionInv t :=
  hs.carry h.leaves.position h.leaves.sampleCount (by rw [h.leaves.decoder]) (by rw [h.leaves.pins])

theorem PositionInv.raise {s : State} (c : Cause) (h : PositionInv s) : PositionInv (raise c s) :=
  h.carry (raise_position c s) (raise_sampleCount c s) (by rw [raise_decoder]) (by rw [raise_pins])

theorem PositionInv.raiseIf {s : State} (b : Bool) (c : Cause) (h : PositionInv s) : PositionInv (raiseIf b c s) := by
  cases b
  · exact h
  · exact h.raise c

theorem PositionInv.setLine {s : State} (h : PositionInv s) (i : Fin 4) {l : GpiLine} (hl : l.Fits) :
    PositionInv (setLine i l s) :=
  .of_parts ⟨h.agree, h.seq, h.disagree, h.age, h.ageZero, h.unlockedRun, h.lockedRun⟩ (h.lines.set i hl) h.count
    h.preread h.outsidePlay

theorem PositionInv.mapLines {s : State} (h : PositionInv s) {f : GpiLine → GpiLine} (hf : ∀ l, l.Fits → (f l).Fits) :
    PositionInv (s.setPosition { s.position with gpi := s.position.gpi.map f }) :=
  .of_parts ⟨h.agree, h.seq, h.disagree, h.age, h.ageZero, h.unlockedRun, h.lockedRun⟩ (h.lines.map hf) h.count
    h.preread h.outsidePlay

theorem PositionInv.gpiRequest {s : State} (i : Fin 4) (h : PositionInv s) : PositionInv (gpiRequest i s) :=
  PositionInv.raiseIf _ _ (PositionInv.raiseIf _ _ (h.setLine i ((h.lines.fits i).join _)))

theorem PositionInv.clearHanded {s : State} (h : PositionInv s) : PositionInv (clearHanded s) :=
  h.mapLines fun _ hl => iteInduction (fun _ => hl.emptied) (fun _ => hl)

theorem PositionInv.clearOnStop {s : State} (h : PositionInv s) : PositionInv (clearOnStop s) :=
  h.mapLines fun _ hl => iteInduction (fun _ => hl.emptied) (fun _ => hl)

theorem PositionInv.positionTick {s : State} (h : PositionInv s) : PositionInv (positionTick s) := by
  have hage : ageAfter s.position ≤ 65535 ∧ (s.position.lock ≠ .locked → ageAfter s.position = 0) := by
    unfold ageAfter
    split
    next hl => exact ⟨Nat.min_le_right _ _, fun hno => absurd hl hno⟩
    · exact ⟨h.age, h.ageZero⟩
  exact .of_parts ⟨h.agree, h.seq, h.disagree, hage.1, hage.2, h.unlockedRun, h.lockedRun⟩ ⟨h.depths, h.queues⟩
    (Nat.zero_le _) h.preread h.outsidePlay

/-- With the lock forgotten, the invariant holds in every transport state. -/
theorem PositionInv.forgotten {s : State} (lines : s.position.LinesInv) (count : s.sampleCount ≤ 65535)
    (preread : 1 ≤ s.decoder.preread ∧ s.decoder.preread ≤ 4) (w : FrameNo) :
    PositionInv (s.setPosition { s.position.forget with w := w }) :=
  .of_parts ⟨Nat.zero_le _, Nat.zero_le _, Nat.zero_le _, Nat.zero_le _, fun _ => rfl, fun _ => rfl, nofun⟩
    ⟨lines.depths, lines.queues⟩ count preread (fun _ => rfl)

theorem PositionInv.frameWritten {s : State} (h : PositionInv s) : PositionInv (frameWritten s) :=
  h.carry (frameWritten_position s) (frameWritten_sampleCount s) (by rw [frameWritten_decoder])
    (by rw [frameWritten_pins])

theorem PositionInv.frameTick {s : State} (g : BitVec 4) (h : PositionInv s) : PositionInv (frameTick g s) := by
  unfold Machine.frameTick
  split
  · have hlevels : PositionInv (levelRequests g (Machine.positionTick (Machine.clearHanded (Machine.frameWritten s)))) :=
      levelRequests_keeps (fun i _ hu => hu.gpiRequest i) h.frameWritten.clearHanded.positionTick
    have hcapture := hlevels.carry (t := captureTick _) (captureTick_position _) (captureTick_sampleCount _)
      (by rw [captureTick_decoder]) (by rw [captureTick_pins])
    have hquery := hcapture.carry (t := queryTick _) (queryTick_position _) (queryTick_sampleCount _)
      (by rw [queryTick_decoder]) (by rw [queryTick_pins])
    exact (((Work.refl _).formatterTick.engineTick (handedRequests (Machine.frameWritten s))).positionInv hquery).carry
  · exact h

theorem PositionInv.transportChange {s : State} (x : Transport) (h : PositionInv s) :
    PositionInv (transportChange x s) := by
  unfold Machine.transportChange
  dsimp only
  have hmoved : PositionInv (if s.pins.transport = .play then leavePlay (s.setPins { s.pins with transport := x })
      else s.setPins { s.pins with transport := x }) := by
    split
    · have hstopped : (recordingTransport (emptyBuffer (s.setPins { s.pins with transport := x }))).position = s.position ∧
          (recordingTransport (emptyBuffer (s.setPins { s.pins with transport := x }))).sampleCount = s.sampleCount ∧
          (recordingTransport (emptyBuffer (s.setPins { s.pins with transport := x }))).decoder = s.decoder := by
        simp
      obtain ⟨hp, hc, hd⟩ := hstopped
      exact (Work.refl _).transportAbort.positionInv
        (PositionInv.raiseIf _ _ (.forgotten (hp ▸ h.lines) (hc ▸ h.count) (hd ▸ h.preread) _))
    next hplay =>
      exact .of_parts h.runs h.lines h.count h.preread (fun _ => h.outsidePlay hplay)
  split
  · exact h
  · split
    · exact hmoved.clearOnStop
    · exact hmoved

theorem PositionInv.judgeSubcode {s : State} (x y : FrameNo) (h : PositionInv s) : PositionInv (judgeSubcode x y s) := by
  unfold Machine.judgeSubcode
  dsimp only
  split
  next hplay =>
    have hjudged : PositionInv (renumber ((s.position.judge x y s.decoder.preread).w - s.position.w)
        (s.setPosition (s.position.judge x y s.decoder.preread))) :=
      .of_parts (h.runs.judge x y _) ⟨by simpa using h.depths, by simpa using h.queues⟩ h.count h.preread
        (fun hno => absurd hplay hno)
    refine PositionInv.raiseIf _ _ ?_
    split
    · exact (Work.refl _).rewind.positionInv hjudged
    · exact hjudged
  · exact h

theorem positionInv_blockKept : BlockKept PositionInv where
  pending _ _ hs := hs.carry
  link _ _ hs := hs.carry
  notice _ _ hs := hs.carry
  output _ _ hs := hs.carry
  pins _ _ ht _ hs := hs.carry rfl rfl rfl ht
  power _ _ := by
    refine .of_parts ⟨Nat.zero_le _, Nat.zero_le _, Nat.zero_le _, Nat.zero_le _, fun _ => rfl, fun _ => rfl, nofun⟩
      (.of_fits fun i => ?_) (Nat.zero_le _) ⟨show 1 ≤ 2 by decide, show 2 ≤ 4 by decide⟩ (fun _ => rfl)
    have hline : Position.reset.gpi[i] = GpiLine.reset := by revert i; decide
    show Position.reset.gpi[i].Fits
    rw [hline]
    exact ⟨.inl rfl, Nat.zero_le _⟩
  count _ hs := .of_parts hs.runs hs.lines (Nat.min_le_right _ _) hs.preread hs.outsidePlay
  pair source p s hs := by
    unfold enterPair
    split
    · exact hs
    · exact iteInduction (fun _ => hs.carry) (fun _ => hs)
  lockIndication _ _ hs := hs.carry (rederive_position _) (rederive_sampleCount _) (by unfold lockIndication; rw [rederive_decoder]; rfl)
    (by unfold lockIndication; rw [rederive_pins]; rfl)
  statusArrival _ _ hs := hs.carry (rederive_position _) (rederive_sampleCount _)
    (by unfold statusArrival; rw [rederive_decoder]; rfl) (by unfold statusArrival; rw [rederive_pins]; rfl)
  blockArrival _ _ _ hs := hs.carry
  headFrameEnd _ _ hs := closeFrame_stages (fun c _ h => h.raise c) hs.carry (fun _ _ _ h => h.carry)
    (fun _ _ h => h.carry) (fun x y _ h => h.judgeSubcode x y) (fun _ _ h => h.carry) (fun _ _ _ h => h.carry)
    (fun _ _ h => h.carry) (fun _ _ h => PositionInv.raiseIf _ _ h.carry)
  transport x _ hs := hs.transportChange x
  tick g _ hs := hs.frameTick g
  absence s hs := hs.carry (absenceExpiry_position s) (absenceExpiry_sampleCount s) (by rw [absenceExpiry_decoder])
    (by rw [absenceExpiry_pins])
  expiry _ hs := iteInduction (fun _ => PositionInv.raiseIf _ _ hs.carry) (fun _ => hs)
  discard _ hs := PositionInv.raiseIf _ _ hs.carry
  written _ hs := hs.frameWritten
  edge i _ hs := iteInduction (fun _ => hs.gpiRequest i) (fun _ => hs)
  serve k hk p s hs := by
    simp only [List.mem_cons, List.not_mem_nil, or_false] at hk
    obtain rfl | rfl | rfl | rfl | rfl | rfl | rfl | rfl | rfl | rfl | rfl | rfl | rfl | rfl | rfl | rfl | rfl | rfl |
      rfl := hk <;> rw [RequestKind.serve]
    · obtain h | ⟨source, h⟩ | ⟨source, rate, _, _, _, h⟩ := serveSourceSelect_cases p s <;> rw [h]
      · exact hs
      · exact hs.carry
      · have hcues : PositionInv (emptyCues (emptyBuffer (s.setInput { s.input with source := source }))) :=
          (Work.refl _).emptyCues.positionInv hs.carry
        exact hcues.carry (rederive_position _) (rederive_sampleCount _)
          (by unfold changeRate; rw [rederive_decoder]; rfl) (by unfold changeRate; rw [rederive_pins]; rfl)
    · obtain h | ⟨mode, w, _, _, _, _, h⟩ := serveRecordStart_cases p s <;> rw [h]
      · exact hs
      · cases mode with
        | continuing => exact hs.carry
        | new => exact PositionInv.raiseIf _ _ (.carry (.forgotten hs.lines hs.count hs.preread w))
    · obtain h | h := serveRecordStop_cases p s <;> rw [h] <;> exact hs.carry
    · obtain h | ⟨_, _, h⟩ := serveLineageSetup_cases p s <;> rw [h] <;> exact hs.carry
    · obtain h | ⟨_, _, h⟩ := serveConcealSetup_cases p s <;> rw [h] <;> exact hs.carry
    · obtain h | h := serveQualityTotals_cases p s <;> rw [h] <;> exact hs.carry
    · obtain h | ⟨d, hlow, hhigh, _, _, h⟩ := servePrereadSetup_cases p s <;> rw [h]
      · exact hs
      · exact .of_parts hs.runs hs.lines hs.count ⟨hlow, hhigh⟩ hs.outsidePlay
    · obtain h | ⟨i, l, hdepth, hqueue, h⟩ := serveGpiSetup_cases p s <;> rw [h]
      · exact hs
      · exact hs.setLine i ⟨hdepth, by rw [hqueue]; exact Nat.zero_le _⟩
    · obtain h | ⟨i, h⟩ := serveMarkRead_cases p s <;> rw [h]
      · exact hs
      · have hfits := hs.lines.fits i
        exact hs.setLine i ⟨hfits.1, le_trans (by simp) hfits.2⟩
    · obtain h | ⟨_, _, _, _, _, _, _, _, _, h⟩ := serveCueAdd_cases p s <;> rw [h] <;> exact hs.carry
    · obtain h | ⟨_, _, _, _, h⟩ := serveCueRemove_cases p s <;> rw [h]
      · exact hs
      · exact ((Work.refl s).dropCue _).positionInv hs
    · obtain h | ⟨_, _, h⟩ := serveEditArm_cases p s <;> rw [h]
      · exact hs
      · exact ((Work.refl s).armEngine _).positionInv hs
    · obtain h | ⟨_, h⟩ := serveEditDisarm_cases p s <;> rw [h] <;> exact hs.carry
    · obtain h | ⟨_, h⟩ := serveEditAbort_cases p s <;> rw [h] <;> exact hs.carry
    · obtain h | ⟨_, _, _, _, h⟩ := serveEditSetup_cases p s <;> rw [h] <;> exact hs.carry
    · obtain h | h := serveRefusalListRead_cases p s <;> rw [h] <;> exact hs.carry
    · obtain h | ⟨_, _, h⟩ | ⟨_, _, _, _, h⟩ := serveTapeQuery_cases p s <;> rw [h] <;> exact hs.carry
    · obtain h | ⟨_, _, h⟩ := serveQueryCancel_cases p s <;> rw [h] <;> exact hs.carry
    · obtain h | ⟨_, h⟩ := serveQuerySetup_cases p s <;> rw [h] <;> exact hs.carry

/-- Settles O11: the lock's runs change by a judged subcode, a tick or a forgetting, and each line's queue by a request that
replaces the newest entry when it is full. -/
theorem everyStepKeepsPositionInv : Obligations.EveryStepKeepsPositionInv := positionInv_blockKept.kept.keeps

end Sys2Proof.Machine
end

section
/-! PROOFS. The record formatter's invariant (O13): the written-frame list, the recording record and the emission. -/

namespace Sys2Proof.Machine

/-! ## What the engine leaves of the formatter when it produces no frame -/

theorem foldl_passOver_formatter (es : List CueEntry) (s : State) :
    (es.foldl passOver s).formatter = s.formatter := by
  induction es generalizing s with
  | nil => rfl
  | cons e es ih => rw [List.foldl_cons, ih]; simp [passOver]

@[simp] theorem armEngine_formatter (m : ArmMode) (s : State) : (armEngine m s).formatter = s.formatter := by
  unfold armEngine
  dsimp only
  split
  · simp [foldl_passOver_formatter]
  · rfl

@[simp] theorem rewind_formatter (s : State) : (rewind s).formatter = s.formatter := by
  unfold rewind
  split <;> rfl

@[simp] theorem dropCue_formatter (id : Nat) (s : State) : (dropCue id s).formatter = s.formatter := by
  unfold dropCue
  dsimp only
  split <;> simp

@[simp] theorem emptyCues_formatter (s : State) : (emptyCues s).formatter = s.formatter := by
  unfold emptyCues
  generalize s.engine.cues.map (fun e => e.id) = ids
  induction ids generalizing s with
  | nil => rfl
  | cons id ids ih => rw [List.foldl_cons, ih]; simp

@[simp] theorem transportAbort_formatter (s : State) : (transportAbort s).formatter = s.formatter := by
  unfold transportAbort
  split <;> simp

@[simp] theorem reachEnd_formatter (s : State) : (reachEnd s).formatter = s.formatter := by
  unfold reachEnd
  split <;> simp

@[simp] theorem spliceWritten_formatter (w : FrameNo) (s : State) : (spliceWritten w s).formatter = s.formatter := by
  unfold spliceWritten
  split <;> simp

/-- A written frame leaves the emission empty and the formatter finished with it. -/
theorem frameWritten_formatter {s : State} {e : Emission} (h : s.formatter.emission = some e) :
    (frameWritten s).formatter = s.formatter.finish e := by
  unfold frameWritten
  rw [h]
  dsimp only
  split <;> simp

/-! ## The formatter's own record -/

/-- What the invariant says of the formatter by itself, the transport apart. -/
structure Formatter.Sound (f : Formatter) : Prop where
  writtenHeld : f.written.length ≤ 8
  writtenOnce : f.written.Nodup
  noEnd : f.state ≠ .idle → f.record.endReason = none
  silenced : f.record.framesSilenced ≤ f.record.framesWritten
  saturated : f.record.framesWritten ≤ 4294967295 ∧ f.unconfirmed ≤ 4294967295
  first : f.record.first.isSome = decide (0 < f.record.framesWritten)
  last : f.record.last.isSome = decide (0 < f.record.framesWritten)
  program : f.record.program.toNat ≤ 999
  blocks : ∀ e, f.emission = some e → e.blocks.length = 102 ∧ ∀ b ∈ e.blocks, b.length = 126

theorem formatterInv_iff {s : State} : FormatterInv s ↔
    s.formatter.Sound ∧ (s.pins.transport ≠ .play → s.formatter.emission = none) :=
  ⟨fun h => ⟨⟨h.writtenHeld, h.writtenOnce, h.noEnd, h.silenced, h.saturated, h.first, h.last, h.program, h.blocks⟩,
    h.outsidePlay⟩,
   fun ⟨h, hplay⟩ => ⟨h.writtenHeld, h.writtenOnce, h.noEnd, h.silenced, h.saturated, h.first, h.last, h.program,
    h.blocks, hplay⟩⟩

theorem FormatterInv.sound {s : State} (h : FormatterInv s) : s.formatter.Sound := (formatterInv_iff.mp h).1

namespace Formatter.Sound
variable {f : Formatter}

/-- With the emission replaced by none or by one of 102 blocks of 126 bytes. -/
theorem emission (h : f.Sound) {e : Option Emission}
    (he : ∀ x, e = some x → x.blocks.length = 102 ∧ ∀ b ∈ x.blocks, b.length = 126) :
    Formatter.Sound { f with emission := e } :=
  ⟨h.writtenHeld, h.writtenOnce, h.noEnd, h.silenced, h.saturated, h.first, h.last, h.program, he⟩

theorem cut (h : f.Sound) : Formatter.Sound { f with emission := none } := h.emission nofun

/-- With the numbers of the list, and the unconfirmed count, replaced. -/
theorem list (h : f.Sound) {l : List FrameNo} {n : Nat} (hl : l.length ≤ 8) (hnodup : l.Nodup) (hn : n ≤ 4294967295) :
    Formatter.Sound { f with written := l, unconfirmed := n } :=
  ⟨hl, hnodup, h.noEnd, h.silenced, ⟨h.saturated.1, hn⟩, h.first, h.last, h.program, h.blocks⟩

theorem ended (h : f.Sound) (reason : EndReason) :
    Formatter.Sound { f with state := .idle, record := { f.record with endReason := some reason } } :=
  ⟨h.writtenHeld, h.writtenOnce, fun hno => absurd rfl hno, h.silenced, h.saturated, h.first, h.last, h.program,
    h.blocks⟩

/-- A written frame of the recording: first and last are present, and the counts rise together. -/
theorem enter (h : f.Sound) (w : FrameNo) (silenced : Bool) :
    Formatter.Sound { f with record := f.record.enter w silenced } := by
  have hcounts : (f.record.enter w silenced).framesSilenced ≤ (f.record.enter w silenced).framesWritten ∧
      (f.record.enter w silenced).framesWritten ≤ 4294967295 ∧ 0 < (f.record.enter w silenced).framesWritten := by
    have hle := h.silenced
    have hmax := h.saturated.1
    cases silenced <;> simp only [RecordingRecord.enter, satInc, Config.max32] <;> simp only [Bool.false_eq_true, if_false, if_true] <;> omega
  obtain ⟨hle, hmax, hpos⟩ := hcounts
  exact ⟨h.writtenHeld, h.writtenOnce, h.noEnd, hle, ⟨hmax, h.saturated.2⟩, (decide_eq_true hpos).symm,
    (decide_eq_true hpos).symm, h.program, h.blocks⟩

/-- The list takes a number once, and drops its oldest when it is full. -/
theorem join (h : f.Sound) (w : FrameNo) : (joinWritten w f).Sound := by
  have hheld : (f.written.filter (fun x => x != w)).length ≤ 8 := le_trans (List.length_filter_le _ _) h.writtenHeld
  have honce : (f.written.filter (fun x => x != w)).Nodup := h.writtenOnce.filter _
  have hnew : ∀ x ∈ f.written.filter (fun x => x != w), x ≠ w := fun x hx => by simpa using (List.mem_filter.mp hx).2
  generalize hl : f.written.filter (fun x => x != w) = l at hheld honce hnew
  have hjoin (m : List FrameNo) (hm : m.Nodup) (hw : ∀ x ∈ m, x ≠ w) : (m ++ [w]).Nodup :=
    List.nodup_append.mpr ⟨hm, List.nodup_singleton w, fun x hx y hy => by
      rw [List.mem_singleton.mp hy]; exact hw x hx⟩
  unfold joinWritten
  rw [hl]
  dsimp only
  split
  · exact h.list (by simp only [List.length_append, List.length_tail, List.length_singleton]; omega)
      (hjoin _ honce.tail fun x hx => hnew x (List.mem_of_mem_tail hx)) (Nat.min_le_right _ _)
  next hroom =>
    have hroom : l.length < 8 := by simpa [Config.writtenCap] using hroom
    exact h.list (by simpa using hroom) (hjoin _ honce hnew) h.saturated.2

theorem finish (h : f.Sound) (e : Emission) : (f.finish e).Sound := by
  refine join ?_ _
  split
  · exact h.cut.enter _ _
  · exact h.cut
  · exact h.cut

theorem start (h : f.Sound) (mode : RecordMode) {program take : Word16} (hp : program.toNat ≤ 999) :
    (f.start mode program take).Sound := by
  refine ⟨h.writtenHeld, h.writtenOnce, fun _ => rfl, le_rfl, ⟨Nat.zero_le _, Nat.zero_le _⟩, rfl, rfl, hp, fun e he => ?_⟩
  obtain ⟨x, hx, rfl⟩ := Option.map_eq_some_iff.mp he
  have hblocks : x.outlive.blocks = x.blocks := by unfold Emission.outlive; split <;> rfl
  rw [hblocks]
  exact h.blocks x hx

theorem stop (h : f.Sound) : f.stop.Sound := by
  unfold Formatter.stop
  split
  next hs => exact ⟨h.writtenHeld, h.writtenOnce, fun _ => h.noEnd (by rw [hs]; nofun), h.silenced, h.saturated, h.first,
      h.last, h.program, h.blocks⟩
  · exact h
  · exact h

end Formatter.Sound

/-- A coded frame has 102 blocks of 126 bytes. -/
theorem codeFrame_lengths (pairs : List Pair) (r : Subcode) :
    (codeFrame pairs r).length = 102 ∧ ∀ b ∈ codeFrame pairs r, b.length = 126 := by
  rw [codeFrame_eq]
  refine ⟨by simp, fun b hb => ?_⟩
  obtain ⟨n, _, rfl⟩ := List.mem_map.mp hb
  simp [blockAt, blockBytes]

/-- Whatever the formatter's tick and the engine do, the formatter stays sound. -/
theorem Work.sound {s t : State} (h : Work s t) (hs : s.formatter.Sound) : t.formatter.Sound := by
  induction h with
  | refl => exact hs
  | raise c _ ih => simpa using ih
  | refused w x _ ih => simpa using ih
  | close _ ih => simpa using ih
  | engine _ _ _ ih => exact ih
  | removeCue id _ ih => simpa using ih
  | changeCue _ _ _ _ ih => exact ih
  | splice _ _ ih => exact ih
  | conceal _ _ _ _ ih => exact ih
  | emit origin pairs r _ ih => exact ih.emission fun x hx => Option.some.inj hx ▸ codeFrame_lengths pairs r
  | endRecording reason _ ih => exact ih.ended reason

/-! ## The invariant kept -/

/-- The invariant is carried to a state of the same formatter and transport. -/
theorem FormatterInv.carry {s t : State} (h : FormatterInv s) (formatter : t.formatter = s.formatter := by rfl)
    (transport : t.pins.transport = s.pins.transport := by rfl) : FormatterInv t :=
  formatterInv_iff.mpr ⟨formatter ▸ h.sound, fun hno => by rw [formatter]; exact h.outsidePlay (transport ▸ hno)⟩

theorem FormatterInv.raise {s : State} (c : Cause) (h : FormatterInv s) : FormatterInv (raise c s) :=
  h.carry (raise_formatter c s) (by rw [raise_pins])

theorem FormatterInv.raiseIf {s : State} (b : Bool) (c : Cause) (h : FormatterInv s) : FormatterInv (raiseIf b c s) := by
  cases b
  · exact h
  · exact h.raise c

theorem FormatterInv.frameWritten {s : State} (h : FormatterInv s) : FormatterInv (frameWritten s) := by
  cases he : s.formatter.emission with
  | none => rw [frameWritten_none he]; exact h
  | some e =>
    refine formatterInv_iff.mpr ⟨?_, fun hno => ?_⟩
    · rw [frameWritten_formatter he]
      exact h.sound.finish e
    · rw [frameWritten_pins] at hno
      exact absurd he (by rw [h.outsidePlay hno]; nofun)

theorem FormatterInv.frameTick {s : State} (g : BitVec 4) (h : FormatterInv s) : FormatterInv (frameTick g s) := by
  unfold Machine.frameTick
  split
  next hplay =>
    have hlevels : FormatterInv (levelRequests g (positionTick (clearHanded (Machine.frameWritten s)))) ∧
        (levelRequests g (positionTick (clearHanded (Machine.frameWritten s)))).pins.transport = .play :=
      levelRequests_keeps (P := fun u => FormatterInv u ∧ u.pins.transport = .play)
        (fun i u ⟨hu, hp⟩ => ⟨FormatterInv.raiseIf _ _ (FormatterInv.raiseIf _ _ hu.carry), by simpa using hp⟩)
        ⟨h.frameWritten.carry, by rw [← hplay, ← frameWritten_pins s]; rfl⟩
    obtain ⟨hlevels, hpins⟩ := hlevels
    have hcapture := hlevels.carry (t := captureTick _) (captureTick_formatter _) (by rw [captureTick_pins])
    have hquery := hcapture.carry (t := queryTick _) (queryTick_formatter _) (by rw [queryTick_pins])
    have hwork := (Work.refl (queryTick (captureTick (levelRequests g (positionTick (clearHanded
      (Machine.frameWritten s))))))).formatterTick.engineTick (handedRequests (Machine.frameWritten s))
    refine FormatterInv.carry (formatterInv_iff.mpr ⟨hwork.sound hquery.sound, fun hno => absurd ?_ hno⟩)
    rw [hwork.leaves.pins, queryTick_pins, captureTick_pins, hpins]
  · exact h

/-- Outside PLAY and with the emission cut short, the invariant is that of the formatter alone. -/
theorem FormatterInv.of_cut {s : State} (h : s.formatter.Sound) (he : s.formatter.emission = none) : FormatterInv s :=
  formatterInv_iff.mpr ⟨h, fun _ => he⟩

/-- Leaving PLAY cuts the emission short, whether or not a recording ends. -/
theorem recordingTransport_sound {s : State} (h : s.formatter.Sound) :
    (recordingTransport s).formatter.Sound ∧ (recordingTransport s).formatter.emission = none := by
  unfold recordingTransport
  split
  · rw [closeSpan_formatter]
    exact ⟨h.cut.ended _, rfl⟩
  · split
    · exact ⟨h.cut.ended _, rfl⟩
    · exact ⟨h.cut, rfl⟩

theorem FormatterInv.transportChange {s : State} (x : Transport) (h : FormatterInv s) :
    FormatterInv (transportChange x s) := by
  unfold Machine.transportChange
  dsimp only
  have hmoved : FormatterInv (if s.pins.transport = .play then leavePlay (s.setPins { s.pins with transport := x })
      else s.setPins { s.pins with transport := x }) := by
    split
    · obtain ⟨hsound, hnone⟩ := recordingTransport_sound (s := emptyBuffer (s.setPins { s.pins with transport := x }))
        (by rw [emptyBuffer_formatter]; exact h.sound)
      have hkept : (leavePlay (s.setPins { s.pins with transport := x })).formatter =
          (recordingTransport (emptyBuffer (s.setPins { s.pins with transport := x }))).formatter := by
        simp [leavePlay]
      exact .of_cut (hkept ▸ hsound) (hkept ▸ hnone)
    next hplay => exact .of_cut h.sound (h.outsidePlay hplay)
  split
  · exact h
  · split
    · exact hmoved.carry
    · exact hmoved

theorem FormatterInv.judgeSubcode {s : State} (x y : FrameNo) (h : FormatterInv s) :
    FormatterInv (judgeSubcode x y s) := by
  unfold Machine.judgeSubcode
  dsimp only
  split
  · refine FormatterInv.raiseIf _ _ ?_
    split
    · have hrenumbered : FormatterInv (renumber ((s.position.judge x y s.decoder.preread).w - s.position.w)
          (s.setPosition (s.position.judge x y s.decoder.preread))) := h.carry
      exact hrenumbered.carry (rewind_formatter _) (by rw [(Work.refl _).rewind.leaves.pins])
    · exact h.carry
  · exact h

theorem formatterInv_blockKept : BlockKept FormatterInv where
  pending _ _ hs := hs.carry
  link _ _ hs := hs.carry
  notice _ _ hs := hs.carry
  output _ _ hs := hs.carry
  pins _ _ ht _ hs := hs.carry rfl ht
  power _ _ := .of_cut ⟨Nat.zero_le _, List.nodup_nil, fun hno => absurd rfl hno, le_rfl,
    ⟨Nat.zero_le _, Nat.zero_le _⟩, rfl, rfl, Nat.zero_le _, nofun⟩ rfl
  count _ hs := hs.carry
  pair source p s hs := by
    unfold enterPair
    split
    · exact hs
    · exact iteInduction (fun _ => hs.carry) (fun _ => hs)
  lockIndication _ _ hs := hs.carry (by unfold lockIndication; rw [rederive_formatter]; rfl)
    (by unfold lockIndication; rw [rederive_pins]; rfl)
  statusArrival _ _ hs := hs.carry (by unfold statusArrival; rw [rederive_formatter]; rfl)
    (by unfold statusArrival; rw [rederive_pins]; rfl)
  blockArrival _ _ _ hs := hs.carry
  headFrameEnd _ _ hs := closeFrame_stages (fun c _ h => h.raise c) hs.carry (fun _ _ _ h => h.carry)
    (fun _ _ h => h.carry) (fun x y _ h => h.judgeSubcode x y) (fun _ _ h => h.carry) (fun _ _ _ h => h.carry)
    (fun n _ h => formatterInv_iff.mpr ⟨h.sound.list (le_trans (List.length_filter_le _ _) h.writtenHeld)
      (h.writtenOnce.filter _) h.saturated.2, h.outsidePlay⟩)
    (fun _ _ h => FormatterInv.raiseIf _ _ h.carry)
  transport x _ hs := hs.transportChange x
  tick g _ hs := hs.frameTick g
  absence s hs := hs.carry (absenceExpiry_formatter s) (by rw [absenceExpiry_pins])
  expiry _ hs := iteInduction (fun _ => FormatterInv.raiseIf _ _ hs.carry) (fun _ => hs)
  discard _ hs := FormatterInv.raiseIf _ _ hs.carry
  written _ hs := hs.frameWritten
  edge i s hs := hs.carry (fallingEdge_formatter i s) (by rw [fallingEdge_pins])
  serve k hk p s hs := by
    simp only [List.mem_cons, List.not_mem_nil, or_false] at hk
    obtain rfl | rfl | rfl | rfl | rfl | rfl | rfl | rfl | rfl | rfl | rfl | rfl | rfl | rfl | rfl | rfl | rfl | rfl |
      rfl := hk <;> rw [RequestKind.serve]
    · obtain h | ⟨source, h⟩ | ⟨source, rate, _, _, _, h⟩ := serveSourceSelect_cases p s <;> rw [h]
      · exact hs
      · exact hs.carry
      · exact hs.carry (by simp [changeRate]) (by simp [changeRate, (Work.refl _).emptyCues.leaves.pins])
    · obtain h | ⟨mode, w, program, take, hprogram, hblocked, h⟩ := serveRecordStart_cases p s <;> rw [h]
      · exact hs
      · have hplay : s.pins.transport = .play := by
          unfold recordBlocked at hblocked
          simp_all
        have hstarted : FormatterInv (s.setFormatter (s.formatter.start mode program take)) :=
          formatterInv_iff.mpr ⟨hs.sound.start mode hprogram, fun hno => absurd hplay hno⟩
        cases mode with
        | continuing => exact hstarted
        | new => exact hstarted.carry (newStart_formatter _ _) (by unfold startRecording; rw [newStart_pins])
    · obtain h | h := serveRecordStop_cases p s <;> rw [h]
      · exact hs
      · have hemission : s.formatter.stop.emission = s.formatter.emission := by unfold Formatter.stop; split <;> rfl
        exact formatterInv_iff.mpr ⟨hs.sound.stop, fun hno => hemission.trans (hs.outsidePlay hno)⟩
    · obtain h | ⟨_, _, h⟩ := serveLineageSetup_cases p s <;> rw [h] <;> exact hs.carry
    · obtain h | ⟨_, _, h⟩ := serveConcealSetup_cases p s <;> rw [h] <;> exact hs.carry
    · obtain h | h := serveQualityTotals_cases p s <;> rw [h] <;> exact hs.carry
    · obtain h | ⟨_, _, _, _, _, h⟩ := servePrereadSetup_cases p s <;> rw [h] <;> exact hs.carry
    · obtain h | ⟨_, _, _, _, h⟩ := serveGpiSetup_cases p s <;> rw [h] <;> exact hs.carry
    · obtain h | ⟨_, h⟩ := serveMarkRead_cases p s <;> rw [h] <;> exact hs.carry
    · obtain h | ⟨_, _, _, _, _, _, _, _, _, h⟩ := serveCueAdd_cases p s <;> rw [h] <;> exact hs.carry
    · obtain h | ⟨_, _, _, _, h⟩ := serveCueRemove_cases p s <;> rw [h]
      · exact hs
      · exact hs.carry (dropCue_formatter _ _) (by rw [((Work.refl s).dropCue _).leaves.pins])
    · obtain h | ⟨_, _, h⟩ := serveEditArm_cases p s <;> rw [h]
      · exact hs
      · exact hs.carry (armEngine_formatter _ _) (by rw [((Work.refl s).armEngine _).leaves.pins])
    · obtain h | ⟨_, h⟩ := serveEditDisarm_cases p s <;> rw [h] <;> exact hs.carry
    · obtain h | ⟨_, h⟩ := serveEditAbort_cases p s <;> rw [h] <;> exact hs.carry
    · obtain h | ⟨_, _, _, _, h⟩ := serveEditSetup_cases p s <;> rw [h] <;> exact hs.carry
    · obtain h | h := serveRefusalListRead_cases p s <;> rw [h] <;> exact hs.carry
    · obtain h | ⟨_, _, h⟩ | ⟨_, _, _, _, h⟩ := serveTapeQuery_cases p s <;> rw [h] <;> exact hs.carry
    · obtain h | ⟨_, _, h⟩ := serveQueryCancel_cases p s <;> rw [h] <;> exact hs.carry
    · obtain h | ⟨_, h⟩ := serveQuerySetup_cases p s <;> rw [h] <;> exact hs.carry

/-- Settles O13: what the formatter holds is kept by each of its own operations, and no frame is emitted outside PLAY,
since only the tick in PLAY emits one and leaving PLAY cuts it short. -/
theorem everyStepKeepsFormatterInv : Obligations.EveryStepKeepsFormatterInv := formatterInv_blockKept.kept.keeps

end Sys2Proof.Machine
end

section
/-! PROOFS. The invariant of the decoder, the ring and the concealment unit (O14). -/

namespace Sys2Proof.Machine

/-! ## The session rate outside a change of it -/

@[simp] theorem rederive_rate (s : State) : (rederive s).input.rate = s.input.rate := by rw [rederive_input]

@[simp] theorem captureTick_rate (s : State) : (captureTick s).input.rate = s.input.rate := by
  have hclose : (closeCapture s).input.rate = s.input.rate := by
    unfold closeCapture
    split
    · rfl
    · rw [raiseIf_input]; rfl
  show (absenceTick (closeCapture s)).input.rate = s.input.rate
  unfold absenceTick
  rw [rederive_rate]
  exact hclose

/-! ## The ring -/

/-- What the invariant says of the ring, at spf `n`. -/
structure RingHeld (n : Nat) (ring : List RingEntry) : Prop where
  held : ring.length ≤ 8
  once : ring.Pairwise (fun a b => a.number ≠ b.number)
  pairs : ∀ e ∈ ring, e.pairs.length = n

namespace RingHeld
variable {n : Nat} {ring : List RingEntry}

theorem nil (n : Nat) : RingHeld n [] := ⟨Nat.zero_le _, .nil, nofun⟩

theorem sublist {kept : List RingEntry} (h : RingHeld n ring) (hk : kept.Sublist ring) : RingHeld n kept :=
  ⟨hk.length_le.trans h.held, h.once.sublist hk, fun e he => h.pairs e (hk.subset he)⟩

/-- A new newest entry, of a number that no other carries, where there is room. -/
theorem append (h : RingHeld n ring) {e : RingEntry} (hroom : ring.length < 8) (hnew : ∀ x ∈ ring, x.number ≠ e.number)
    (he : e.pairs.length = n) : RingHeld n (ring ++ [e]) := by
  refine ⟨by simpa using hroom, List.pairwise_append.mpr ⟨h.once, List.pairwise_singleton _ _, ?_⟩, ?_⟩
  · intro x hx y hy
    rw [List.mem_singleton.mp hy]
    exact hnew x hx
  · intro x hx
    obtain hx | hx := List.mem_append.mp hx
    · exact h.pairs x hx
    · rw [List.mem_singleton.mp hx]; exact he

/-- An entry that joins takes the place of one of its number, or of the oldest of a full ring. -/
theorem join (h : RingHeld n ring) (w : FrameNo) {e : RingEntry} (he : e.pairs.length = n) :
    RingHeld n (joinRing w e ring) := by
  unfold joinRing
  split
  · exact h
  · split
    next hany =>
      obtain ⟨x, hx, hxe⟩ := List.any_eq_true.mp hany
      refine (h.sublist List.filter_sublist).append ?_ (fun y hy => by simpa using (List.mem_filter.mp hy).2) he
      refine lt_of_lt_of_le (List.length_filter_lt_length_iff_exists.mpr ⟨x, hx, ?_⟩) h.held
      simpa using hxe
    next hnone =>
      have hnew : ∀ x ∈ ring, x.number ≠ e.number := fun x hx hxe =>
        hnone (List.any_eq_true.mpr ⟨x, hx, by simpa using hxe⟩)
      split
      next hroom => exact h.append hroom hnew he
      next hfull =>
        have hheld := h.held
        have hfull : 8 ≤ ring.length := by simpa [Config.ringCap] using hfull
        exact (h.sublist (List.tail_sublist ring)).append (by rw [List.length_tail]; omega)
          (fun x hx => hnew x (List.mem_of_mem_tail hx)) he

end RingHeld

/-! ## Concealment -/

/-- Gains and hold counts stay in their ranges through a run. -/
theorem ChannelState.InRange.concealRun {st : ChannelState} (h : st.InRange) (hlim : Nat) (before : Option Sample)
    (xs : List (Option Sample)) : (concealRun hlim st before xs).state.InRange := by
  induction xs generalizing st before with
  | nil => exact h
  | cons x xs ih =>
    refine ih ?_ x
    obtain ⟨hhold, hgain⟩ := h
    generalize chooseBase st.b before x xs.head?.join = bk
    constructor
    · show holdAfter st.h bk.2 ≤ 65535
      cases bk.2 <;> simp [holdAfter, satInc, Config.max16]
    · show gainAfter hlim (holdAfter st.h bk.2) st.g bk.2 ≤ 32
      cases bk.2
      · exact Nat.min_le_right _ _
      · exact Nat.min_le_right _ _
      · exact iteInduction (motive := (· ≤ 32)) (fun _ => (Nat.sub_le _ _).trans hgain) (fun _ => hgain)

/-- What the invariant says of the concealment unit. -/
structure Conceal.Sound (c : Conceal) : Prop where
  limit : c.hlim ≤ 255
  channels : ∀ h, (c.chans.get h).l.InRange ∧ (c.chans.get h).r.InRange

theorem Conceal.Sound.concealFrame {c : Conceal} (h : c.Sound) (head : Head) (number : Option FrameNo)
    (xs : Stereo (List (Option Sample))) : (concealFrame c head number xs).1.Sound := by
  refine ⟨h.limit, fun g => ?_⟩
  obtain ⟨hl, hr⟩ := h.channels head
  by_cases hg : g = head
  · subst hg
    simp only [Machine.concealFrame, PerHead.get_set_self, concealChannel]
    exact ⟨hl.concealRun _ _ _, hr.concealRun _ _ _⟩
  · simp only [Machine.concealFrame, PerHead.get_set_other _ _ hg]
    exact h.channels g

theorem Conceal.Sound.forget {c : Conceal} (h : c.Sound) : c.forget.Sound := by
  refine ⟨h.limit, fun head => ?_⟩
  cases head
  · exact h.channels .advance
  · exact h.channels .confidence

theorem Conceal.sound_reset : Conceal.reset.Sound := by
  refine ⟨show 48 ≤ 255 by decide, fun h => ?_⟩
  cases h <;> exact ⟨⟨Nat.zero_le _, le_rfl⟩, ⟨Nat.zero_le _, le_rfl⟩⟩

/-! ## The invariant kept -/

theorem DecoderInv.sound {s : State} (h : DecoderInv s) : s.conceal.Sound := ⟨h.limit, h.channels⟩

theorem DecoderInv.ringParts {s : State} (h : DecoderInv s) : RingHeld (spf s.input.rate) s.ring :=
  ⟨h.ringHeld, h.ringOnce, h.ringPairs⟩

theorem DecoderInv.of_parts {s : State}
    (judged : ∀ h, s.decoder.assembly.get h = (s.gathered.get h).foldl judgeBlock Assembly.empty)
    (history : ∀ h, (s.decoder.history.get h).length ≤ 16) (ring : RingHeld (spf s.input.rate) s.ring)
    (conceal : s.conceal.Sound) : DecoderInv s :=
  ⟨judged, history, ring.held, ring.once, ring.pairs, conceal.limit, conceal.channels⟩

/-- The invariant is carried to a state that agrees in all it looks at. -/
theorem DecoderInv.carry {s t : State} (h : DecoderInv s) (assembly : t.decoder.assembly = s.decoder.assembly := by rfl)
    (history : t.decoder.history = s.decoder.history := by rfl) (gathered : t.gathered = s.gathered := by rfl)
    (ring : t.ring = s.ring := by rfl) (conceal : t.conceal = s.conceal := by rfl)
    (rate : t.input.rate = s.input.rate := by rfl) : DecoderInv t :=
  .of_parts (by rw [assembly, gathered]; exact h.judged) (by rw [history]; exact h.history)
    (by rw [rate, ring]; exact h.ringParts) (conceal ▸ h.sound)

theorem DecoderInv.raise {s : State} (c : Cause) (h : DecoderInv s) : DecoderInv (raise c s) :=
  h.carry (by rw [raise_decoder]) (by rw [raise_decoder]) (raise_gathered c s) (raise_ring c s) (raise_conceal c s)
    (by rw [raise_input])

theorem DecoderInv.raiseIf {s : State} (b : Bool) (c : Cause) (h : DecoderInv s) : DecoderInv (raiseIf b c s) := by
  cases b
  · exact h
  · exact h.raise c

theorem DecoderInv.setConceal {s : State} (h : DecoderInv s) {c : Conceal} (hc : c.Sound) : DecoderInv (s.setConceal c) :=
  .of_parts h.judged h.history h.ringParts hc

theorem DecoderInv.setRing {s : State} (h : DecoderInv s) {ring : List RingEntry}
    (hr : RingHeld (spf s.input.rate) ring) : DecoderInv (s.setRing ring) :=
  .of_parts h.judged h.history hr h.sound

theorem DecoderInv.rederive {s : State} (h : DecoderInv s) : DecoderInv (rederive s) :=
  h.carry (by rw [rederive_decoder]) (by rw [rederive_decoder]) (rederive_gathered s) (rederive_ring s)
    (rederive_conceal s) (rederive_rate s)

/-- Of all that the formatter's tick and the engine do, the invariant sees concealed frames only. -/
theorem Work.conceal_sound {s t : State} (h : Work s t) (hs : s.conceal.Sound) : t.conceal.Sound := by
  induction h with
  | refl => exact hs
  | raise c _ ih => simpa using ih
  | refused w x _ ih => simpa using ih
  | close _ ih => simpa using ih
  | engine _ _ _ ih => exact ih
  | removeCue id _ ih => simpa using ih
  | changeCue _ _ _ _ ih => exact ih
  | splice _ _ ih => exact ih
  | conceal head number xs _ ih => exact ih.concealFrame head number xs
  | emit origin pairs r _ ih => exact ih
  | endRecording reason _ ih => exact ih

theorem Work.decoderInv {s t : State} (h : Work s t) (hs : DecoderInv s) : DecoderInv t :=
  .of_parts (by rw [h.leaves.decoder, h.leaves.gathered]; exact hs.judged) (by rw [h.leaves.decoder]; exact hs.history)
    (by rw [h.leaves.input, h.leaves.ring]; exact hs.ringParts) (h.conceal_sound hs.sound)

theorem DecoderInv.frameWritten {s : State} (h : DecoderInv s) : DecoderInv (frameWritten s) := by
  cases he : s.formatter.emission with
  | none => rw [frameWritten_none he]; exact h
  | some e => exact (frameWritten_work he).decoderInv h.carry

/-- A block read joins what is gathered, and is judged. -/
theorem DecoderInv.blockArrival {s : State} (hd : Head) (bytes : List Byte) (h : DecoderInv s) :
    DecoderInv (blockArrival hd bytes s) := by
  refine .of_parts (fun g => ?_) h.history h.ringParts h.sound
  show (s.decoder.assembly.set hd _).get g = ((s.gathered.set hd _).get g).foldl judgeBlock Assembly.empty
  by_cases hg : g = hd
  · subst hg
    rw [PerHead.get_set_self, PerHead.get_set_self, List.foldl_append, ← h.judged g]
    rfl
  · rw [PerHead.get_set_other _ _ hg, PerHead.get_set_other _ _ hg]
    exact h.judged g

theorem DecoderInv.openAssembly {s : State} (hd : Head) (h : DecoderInv s) : DecoderInv (openAssembly hd s) := by
  refine .of_parts (fun g => ?_) h.history h.ringParts h.sound
  show (s.decoder.assembly.set hd _).get g = ((s.gathered.set hd _).get g).foldl judgeBlock Assembly.empty
  by_cases hg : g = hd
  · subst hg
    rw [PerHead.get_set_self, PerHead.get_set_self]
    rfl
  · rw [PerHead.get_set_other _ _ hg, PerHead.get_set_other _ _ hg]
    exact h.judged g

theorem DecoderInv.recordQuality {s : State} (hd : Head) (q : QualityRecord) (h : DecoderInv s) :
    DecoderInv (recordQuality hd q s) := by
  refine .of_parts h.judged (fun g => ?_) h.ringParts h.sound
  show ((s.decoder.history.set hd _).get g).length ≤ 16
  by_cases hg : g = hd
  · subst hg
    rw [PerHead.get_set_self]
    exact length_pushNewest_le ..
  · rw [PerHead.get_set_other _ _ hg]
    exact h.history g

theorem judgeSubcode_rate (x y : FrameNo) (s : State) : (judgeSubcode x y s).input.rate = s.input.rate := by
  unfold judgeSubcode
  dsimp only
  split
  · rw [raiseIf_input]
    split
    · rw [(Work.refl _).rewind.leaves.input]; rfl
    · rfl
  · rfl

theorem DecoderInv.judgeSubcode {s : State} (x y : FrameNo) (h : DecoderInv s) : DecoderInv (judgeSubcode x y s) := by
  unfold Machine.judgeSubcode
  dsimp only
  have hrenumbered : DecoderInv (renumber ((s.position.judge x y s.decoder.preread).w - s.position.w)
      (s.setPosition (s.position.judge x y s.decoder.preread))) := h.carry
  split
  · refine DecoderInv.raiseIf _ _ ?_
    split
    · exact (Work.refl _).rewind.decoderInv hrenumbered
    · exact hrenumbered
  · exact h

theorem DecoderInv.frameTick {s : State} (g : BitVec 4) (h : DecoderInv s) : DecoderInv (frameTick g s) := by
  unfold Machine.frameTick
  split
  · have hposition : DecoderInv (positionTick (clearHanded (Machine.frameWritten s))) :=
      DecoderInv.setRing (s := ((clearHanded (Machine.frameWritten s)).setSampleCount 0).setPosition _)
        h.frameWritten.carry (h.frameWritten.ringParts.sublist List.filter_sublist)
    have hlevels : DecoderInv (levelRequests g (positionTick (clearHanded (Machine.frameWritten s)))) :=
      levelRequests_keeps (fun i _ hu => DecoderInv.raiseIf _ _ (DecoderInv.raiseIf _ _ hu.carry)) hposition
    have hcapture := hlevels.carry (t := captureTick _) (by rw [captureTick_decoder]) (by rw [captureTick_decoder])
      (captureTick_gathered _) (captureTick_ring _) (captureTick_conceal _) (captureTick_rate _)
    have hquery := hcapture.carry (t := queryTick _) (by rw [queryTick_decoder]) (by rw [queryTick_decoder])
      (queryTick_gathered _) (queryTick_ring _) (queryTick_conceal _) (by rw [queryTick_input])
    exact (((Work.refl _).formatterTick.engineTick (handedRequests (Machine.frameWritten s))).decoderInv hquery).carry
  · exact h

theorem DecoderInv.transportChange {s : State} (x : Transport) (h : DecoderInv s) : DecoderInv (transportChange x s) := by
  unfold Machine.transportChange
  dsimp only
  have hmoved : DecoderInv (if s.pins.transport = .play then leavePlay (s.setPins { s.pins with transport := x })
      else s.setPins { s.pins with transport := x }) := by
    split
    · have hstopped : DecoderInv (recordingTransport (emptyBuffer (s.setPins { s.pins with transport := x }))) :=
        h.carry (by simp) (by simp) (by simp) (by simp) (by simp) (by simp [emptyBuffer])
      exact (Work.refl _).transportAbort.decoderInv (DecoderInv.raiseIf _ _ hstopped.carry)
    · exact h.carry
  split
  · exact h
  · split
    · exact hmoved.carry
    · exact hmoved

/-- A change of rate leaves the ring empty and the concealment records without number. -/
theorem DecoderInv.changeRate {s : State} (rate : Rate) (h : DecoderInv s) : DecoderInv (changeRate rate s) := by
  have hcues : DecoderInv (emptyCues (emptyBuffer s)) := (Work.refl _).emptyCues.decoderInv h.carry
  exact DecoderInv.rederive (.of_parts hcues.judged hcues.history (.nil _) hcues.sound.forget)

theorem DecoderInv.newStart {s : State} (w : FrameNo) (h : DecoderInv s) : DecoderInv (newStart w s) :=
  DecoderInv.raiseIf _ _ h.carry

theorem decoderInv_blockKept : BlockKept DecoderInv where
  pending _ _ hs := hs.carry
  link _ _ hs := hs.carry
  notice _ _ hs := hs.carry
  output _ _ hs := hs.carry
  pins _ _ _ _ hs := hs.carry
  power _ _ := .of_parts (fun h => by cases h <;> rfl) (fun h => by cases h <;> exact Nat.zero_le _) (.nil _)
    Conceal.sound_reset
  count _ hs := hs.carry
  pair source p s hs := by
    unfold enterPair
    split
    · exact hs
    · exact iteInduction (fun _ => hs.carry) (fun _ => hs)
  lockIndication a s hs := DecoderInv.rederive (s := s.setPins _) hs.carry
  statusArrival a s hs := DecoderInv.rederive (s := s.setLineage _) hs.carry
  blockArrival h bytes _ hs := hs.blockArrival h bytes
  headFrameEnd h s hs :=
    (closeFrame_stages (P := fun u => DecoderInv u ∧ u.input.rate = s.input.rate)
      (fun c _ ⟨hu, hr⟩ => ⟨hu.raise c, by simpa using hr⟩) ⟨hs.openAssembly h, rfl⟩
      (fun _ _ _ ⟨hu, hr⟩ => ⟨hu.setConceal (hu.sound.concealFrame _ _ _), hr⟩)
      (fun q _ ⟨hu, hr⟩ => ⟨hu.recordQuality h q, hr⟩)
      (fun x y _ ⟨hu, hr⟩ => ⟨hu.judgeSubcode x y, (judgeSubcode_rate x y _).trans hr⟩)
      (fun _ _ ⟨hu, hr⟩ => ⟨hu.carry, hr⟩)
      (fun _ _ he ⟨hu, hr⟩ => ⟨hu.setRing (hu.ringParts.join _ (by rw [hr]; exact he)), hr⟩)
      (fun _ _ ⟨hu, hr⟩ => ⟨hu.carry, hr⟩)
      (fun _ _ ⟨hu, hr⟩ => ⟨DecoderInv.raiseIf _ _ hu.carry, by simpa [reportQueries] using hr⟩)).1
  transport x _ hs := hs.transportChange x
  tick g _ hs := hs.frameTick g
  absence _ hs := iteInduction (fun _ => hs.rederive) (fun _ => hs)
  expiry _ hs := iteInduction (fun _ => DecoderInv.raiseIf _ _ hs.carry) (fun _ => hs)
  discard _ hs := DecoderInv.raiseIf _ _ hs.carry
  written _ hs := hs.frameWritten
  edge i s hs := iteInduction (fun _ => DecoderInv.raiseIf _ _ (DecoderInv.raiseIf _ _ hs.carry)) (fun _ => hs)
  serve k hk p s hs := by
    simp only [List.mem_cons, List.not_mem_nil, or_false] at hk
    obtain rfl | rfl | rfl | rfl | rfl | rfl | rfl | rfl | rfl | rfl | rfl | rfl | rfl | rfl | rfl | rfl | rfl | rfl |
      rfl := hk <;> rw [RequestKind.serve]
    · obtain h | ⟨source, h⟩ | ⟨source, rate, _, _, _, h⟩ := serveSourceSelect_cases p s <;> rw [h]
      · exact hs
      · exact hs.carry
      · exact DecoderInv.changeRate rate hs.carry
    · obtain h | ⟨mode, w, program, take, _, _, h⟩ := serveRecordStart_cases p s <;> rw [h]
      · exact hs
      · cases mode with
        | continuing => exact hs.carry
        | new => exact DecoderInv.newStart w hs.carry
    · obtain h | h := serveRecordStop_cases p s <;> rw [h] <;> exact hs.carry
    · obtain h | ⟨_, _, h⟩ := serveLineageSetup_cases p s <;> rw [h] <;> exact hs.carry
    · obtain h | ⟨hlim, hle, h⟩ := serveConcealSetup_cases p s <;> rw [h]
      · exact hs
      · exact hs.setConceal ⟨hle, hs.channels⟩
    · obtain h | h := serveQualityTotals_cases p s <;> rw [h] <;> exact hs.carry
    · obtain h | ⟨_, _, _, _, _, h⟩ := servePrereadSetup_cases p s <;> rw [h] <;> exact hs.carry
    · obtain h | ⟨_, _, _, _, h⟩ := serveGpiSetup_cases p s <;> rw [h] <;> exact hs.carry
    · obtain h | ⟨_, h⟩ := serveMarkRead_cases p s <;> rw [h] <;> exact hs.carry
    · obtain h | ⟨_, _, _, _, _, _, _, _, _, h⟩ := serveCueAdd_cases p s <;> rw [h] <;> exact hs.carry
    · obtain h | ⟨_, _, _, _, h⟩ := serveCueRemove_cases p s <;> rw [h]
      · exact hs
      · exact ((Work.refl s).dropCue _).decoderInv hs
    · obtain h | ⟨_, _, h⟩ := serveEditArm_cases p s <;> rw [h]
      · exact hs
      · exact ((Work.refl s).armEngine _).decoderInv hs
    · obtain h | ⟨_, h⟩ := serveEditDisarm_cases p s <;> rw [h] <;> exact hs.carry
    · obtain h | ⟨_, h⟩ := serveEditAbort_cases p s <;> rw [h] <;> exact hs.carry
    · obtain h | ⟨_, _, _, _, h⟩ := serveEditSetup_cases p s <;> rw [h] <;> exact hs.carry
    · obtain h | h := serveRefusalListRead_cases p s <;> rw [h] <;> exact hs.carry
    · obtain h | ⟨_, _, h⟩ | ⟨_, _, _, _, h⟩ := serveTapeQuery_cases p s <;> rw [h] <;> exact hs.carry
    · obtain h | ⟨_, _, h⟩ := serveQueryCancel_cases p s <;> rw [h] <;> exact hs.carry
    · obtain h | ⟨_, h⟩ := serveQuerySetup_cases p s <;> rw [h] <;> exact hs.carry

/-- Settles O14: the frame in assembly is judged block by block as it is gathered, concealment keeps its ranges, and an entry
joins the ring in place of its number or of the oldest. -/
theorem everyStepKeepsDecoderInv : Obligations.EveryStepKeepsDecoderInv := decoderInv_blockKept.kept.keeps

end Sys2Proof.Machine
end

section
/-! PROOFS. The query table's invariant (O10): each entry by itself, and what is HELD against the cue list. -/

namespace Sys2Proof.Machine

/-! ## One entry -/

/-- What the invariant says of one entry, the cue list apart, under the limit that the last tick found. -/
structure QueryEntry.Sound (limit : Nat) (e : QueryEntry) : Prop where
  passes : e.passes ≤ 3
  waitingPasses : e.state = .waiting → e.passes ≤ 2
  waits : e.wait ≤ 65535
  waitingCounts : e.state = .waiting → limit ≠ 0 → e.wait < limit
  ages : ∀ age o, e.state = .complete age o → age ≤ 300
  records : e.recordFits
  heldCounts : ∀ id, e.state = .held id → e.passes = 0 ∧ e.wait = 0

/-- The frame of an entry HELD behind a cue entry lies in that entry's span, and the entry is in the list. -/
def QueryEntry.Blocked (cues : List CueEntry) (n : Nat) (e : QueryEntry) : Prop :=
  ∀ id, e.state = .held id → ∃ c ∈ cues, c.id = id ∧ c.spans n e.frame.toNat = true

theorem QueryEntry.isWaiting_iff {e : QueryEntry} : e.isWaiting = true ↔ e.state = .waiting := by
  simp [QueryEntry.isWaiting]

/-- A completed entry is sound when its record, if it has one, is of its kind and frame. -/
theorem QueryEntry.sound_complete {e : QueryEntry} (passes : e.passes ≤ 3) (waits : e.wait ≤ 65535) {o : QueryOutcome}
    (ho : ∀ x, o = .found x → match x with
      | .subcode r => e.kind = .subcode ∧ r.number = e.frame
      | .quality _ => e.kind = .quality) (limit : Nat) : (e.complete o).Sound limit where
  passes := passes
  waitingPasses := nofun
  waits := waits
  waitingCounts := nofun
  ages age x hx := by
    obtain ⟨rfl, rfl⟩ : 0 = age ∧ o = x := by simpa [QueryEntry.complete] using hx
    exact Nat.zero_le _
  records age x hx := by
    obtain ⟨_, ho'⟩ : 0 = age ∧ o = .found x := by simpa [QueryEntry.complete] using hx
    exact ho x ho'
  heldCounts := nofun

namespace QueryEntry.Sound
variable {limit : Nat} {e : QueryEntry}

theorem release (h : e.Sound limit) (id : Nat) : (e.release id).Sound limit := by
  unfold QueryEntry.release
  split
  next hheld =>
    obtain ⟨hpasses, hwait⟩ := h.heldCounts id hheld
    exact ⟨h.passes, fun _ => show e.passes ≤ 2 by omega, h.waits, fun _ hlimit => show e.wait < limit by omega,
      nofun, nofun, nofun⟩
  · exact h

/-- A pass of a WAITING entry is its third at most, and the third completes it. -/
theorem report (h : e.Sound limit) (r : Report) : (e.report r).Sound limit := by
  unfold QueryEntry.report
  split
  next hw =>
    have hwaiting := isWaiting_iff.mp hw
    have hpasses := h.waitingPasses hwaiting
    split
    next sub _ =>
      split
      next hnumber =>
        refine sound_complete h.passes h.waits (fun x hx => ?_) limit
        obtain rfl := QueryOutcome.found.inj hx
        unfold recordFor
        cases hk : e.kind
        · exact ⟨rfl, hnumber⟩
        · rfl
      · exact h
    · split
      · dsimp only
        split
        · exact sound_complete (e := { e with passes := e.passes + 1 }) (show e.passes + 1 ≤ 3 by omega) h.waits
            (fun _ hx => by contradiction) limit
        next hfew =>
          have hfew : ¬ 3 ≤ e.passes + 1 := hfew
          exact ⟨show e.passes + 1 ≤ 3 by omega, fun _ => show e.passes + 1 ≤ 2 by omega, h.waits, h.waitingCounts, h.ages,
            h.records, fun id hid => absurd (hwaiting.symm.trans hid) nofun⟩
      · exact h
  · exact h

theorem expire (h : e.Sound limit) (limit' : Nat) : (e.expire limit').Sound limit :=
  iteInduction (fun _ => sound_complete h.passes h.waits (fun _ hx => by contradiction) limit) (fun _ => h)

/-- After a tick a WAITING entry counts below the limit that the tick found. -/
theorem tick (h : e.Sound limit) (limit' : Nat) : (e.tick limit').Sound limit' := by
  unfold QueryEntry.tick
  split
  next hw =>
    have hwait : satInc Config.max16 e.wait ≤ 65535 := Nat.min_le_right _ _
    unfold QueryEntry.expire
    split
    · exact sound_complete (e := { e with wait := satInc Config.max16 e.wait }) h.passes hwait (fun _ hx => by contradiction) limit'
    next hstays =>
      have hwaiting : QueryEntry.isWaiting { e with wait := satInc Config.max16 e.wait } = true := isWaiting_iff.mpr hw
      exact ⟨h.passes, h.waitingPasses, hwait, fun _ hlimit => by simpa [hwaiting, hlimit] using hstays, h.ages, h.records,
        fun id hid => absurd (hw.symm.trans hid) nofun⟩
  next age o hc =>
    refine ⟨h.passes, nofun, h.waits, nofun, fun age' o' hx => ?_, fun age' x hx => ?_, nofun⟩
    · obtain ⟨rfl, _⟩ : satInc Config.discardAge age = age' ∧ o = o' := by simpa using hx
      exact Nat.min_le_right _ _
    · obtain ⟨_, rfl⟩ : satInc Config.discardAge age = age' ∧ o = .found x := by simpa using hx
      exact h.records age x hc
  next id hheld =>
    exact ⟨h.passes, h.waitingPasses, h.waits, fun hw => absurd (hw.symm.trans hheld) nofun, h.ages, h.records, h.heldCounts⟩

end QueryEntry.Sound

/-! ## The table -/

/-- What the invariant says of the entries, under the limit that the last tick found and against the list, at spf `n`. -/
structure QueriesSound (cues : List CueEntry) (n limit : Nat) (es : List QueryEntry) : Prop where
  held : es.length ≤ 4
  distinct : es.Pairwise (fun a b => ¬(a.kind = b.kind ∧ a.frame = b.frame))
  entries : ∀ e ∈ es, e.Sound limit
  blocked : ∀ e ∈ es, e.Blocked cues n

theorem queryInv_iff {s : State} : QueryInv s ↔
    QueriesSound s.engine.cues (spf s.input.rate) s.query.tickLimit s.query.entries :=
  ⟨fun h => ⟨h.held, h.distinct, fun e he => ⟨h.passes e he, h.waitingPasses e he, h.waits e he, h.waitingCounts e he,
      h.ages e he, h.records e he, h.heldCounts e he⟩, h.blocked⟩,
   fun h => ⟨h.held, h.distinct, fun e he => (h.entries e he).passes, fun e he => (h.entries e he).waitingPasses,
    fun e he => (h.entries e he).waits, fun e he => (h.entries e he).waitingCounts, fun e he => (h.entries e he).ages,
    fun e he => (h.entries e he).records, h.blocked, fun e he => (h.entries e he).heldCounts⟩⟩

namespace QueriesSound
variable {cues cues' : List CueEntry} {n limit limit' : Nat} {es : List QueryEntry}

/-- What an event makes of each entry, its kind and frame staying. -/
theorem map (h : QueriesSound cues n limit es) {f : QueryEntry → QueryEntry}
    (same : ∀ e, (f e).kind = e.kind ∧ (f e).frame = e.frame) (sound : ∀ e, e.Sound limit → (f e).Sound limit')
    (blocked : ∀ e, e.Blocked cues n → (f e).Blocked cues' n) : QueriesSound cues' n limit' (es.map f) := by
  refine ⟨by simpa using h.held, List.pairwise_map.mpr (h.distinct.imp fun {a b} hab => ?_), fun e he => ?_, fun e he => ?_⟩
  · rw [(same a).1, (same a).2, (same b).1, (same b).2]
    exact hab
  · obtain ⟨e', he', rfl⟩ := List.mem_map.mp he
    exact sound e' (h.entries e' he')
  · obtain ⟨e', he', rfl⟩ := List.mem_map.mp he
    exact blocked e' (h.blocked e' he')

theorem sublist {kept : List QueryEntry} (h : QueriesSound cues n limit es) (hk : kept.Sublist es) :
    QueriesSound cues n limit kept :=
  ⟨hk.length_le.trans h.held, h.distinct.sublist hk, fun e he => h.entries e (hk.subset he),
    fun e he => h.blocked e (hk.subset he)⟩

/-- A list of cue entries that still spans what the old one spanned blocks what it blocked. -/
theorem recue (h : QueriesSound cues n limit es)
    (hc : ∀ c ∈ cues, ∃ c' ∈ cues', c'.id = c.id ∧ ∀ f, c'.spans n f = c.spans n f) :
    QueriesSound cues' n limit es :=
  ⟨h.held, h.distinct, h.entries, fun e he id hid => by
    obtain ⟨c, hmem, hcid, hspan⟩ := h.blocked e he id hid
    obtain ⟨c', hmem', hid', hspans⟩ := hc c hmem
    exact ⟨c', hmem', hid'.trans hcid, (hspans _).trans hspan⟩⟩

/-- An event that makes no entry HELD leaves each blocked as it was. -/
theorem mapUnheld (h : QueriesSound cues n limit es) {f : QueryEntry → QueryEntry}
    (same : ∀ e, (f e).kind = e.kind ∧ (f e).frame = e.frame) (sound : ∀ e, e.Sound limit → (f e).Sound limit')
    (unheld : ∀ e id, (f e).state = .held id → e.state = .held id) : QueriesSound cues n limit' (es.map f) :=
  h.map same sound fun e he id hid => by
    rw [(same e).2]
    exact he id (unheld e id hid)

/-- An entry that leaves the cue list leaves no query HELD behind it. -/
theorem removeCue (h : QueriesSound cues n limit es) (id : Nat) :
    QueriesSound (cues.filter (fun c => c.id != id)) n limit (es.map (QueryEntry.release id)) := by
  refine h.map (fun e => ?_) (fun e he => he.release id) fun e he id' hid' => ?_
  · unfold QueryEntry.release
    split <;> exact ⟨rfl, rfl⟩
  · unfold QueryEntry.release at hid' ⊢
    split at hid'
    · contradiction
    next hother =>
      rw [if_neg hother]
      obtain ⟨c, hc, hcid, hspan⟩ := he id' hid'
      refine ⟨c, List.mem_filter.mpr ⟨hc, ?_⟩, hcid, hspan⟩
      simp only [bne_iff_ne, ne_eq]
      rintro rfl
      exact hother (hcid ▸ hid')

theorem expire (h : QueriesSound cues n limit es) (limit' : Nat) :
    QueriesSound cues n limit (es.map (QueryEntry.expire limit')) := by
  refine h.mapUnheld (fun e => ?_) (fun e he => he.expire limit') fun e id hid => ?_
  · unfold QueryEntry.expire
    split <;> exact ⟨rfl, rfl⟩
  · unfold QueryEntry.expire at hid
    split at hid
    · contradiction
    · exact hid

theorem tick (h : QueriesSound cues n limit es) (limit' : Nat) :
    QueriesSound cues n limit' (es.map (QueryEntry.tick limit')) := by
  refine h.mapUnheld (fun e => ?_) (fun e he => he.tick limit') fun e id hid => ?_
  · unfold QueryEntry.tick QueryEntry.expire
    split
    · split <;> exact ⟨rfl, rfl⟩
    · exact ⟨rfl, rfl⟩
    · exact ⟨rfl, rfl⟩
  · unfold QueryEntry.tick QueryEntry.expire at hid
    split at hid
    next hw =>
      split at hid
      · contradiction
      · exact absurd (hw.symm.trans hid) nofun
    · contradiction
    · exact hid

theorem report (h : QueriesSound cues n limit es) (r : Report) :
    QueriesSound cues n limit (es.map (QueryEntry.report r)) := by
  have hcases (e : QueryEntry) : (e.report r).kind = e.kind ∧ (e.report r).frame = e.frame ∧
      ∀ id, (e.report r).state = .held id → e.state = .held id := by
    unfold QueryEntry.report
    split
    · split
      · split
        · exact ⟨rfl, rfl, nofun⟩
        · exact ⟨rfl, rfl, fun _ => id⟩
      · split
        · dsimp only
          split
          · exact ⟨rfl, rfl, nofun⟩
          · exact ⟨rfl, rfl, fun _ => id⟩
        · exact ⟨rfl, rfl, fun _ => id⟩
    · exact ⟨rfl, rfl, fun _ => id⟩
  exact h.mapUnheld (fun e => ⟨(hcases e).1, (hcases e).2.1⟩) (fun e he => he.report r) fun e => (hcases e).2.2

end QueriesSound

/-! ## The invariant kept -/

/-- The invariant is carried to a state of the same table, cue list and rate. -/
theorem QueryInv.carry {s t : State} (h : QueryInv s) (entries : t.query.entries = s.query.entries := by rfl)
    (tickLimit : t.query.tickLimit = s.query.tickLimit := by rfl) (cues : t.engine.cues = s.engine.cues := by rfl)
    (rate : t.input.rate = s.input.rate := by rfl) : QueryInv t :=
  queryInv_iff.mpr (by rw [entries, tickLimit, cues, rate]; exact queryInv_iff.mp h)

theorem QueryInv.raise {s : State} (c : Cause) (h : QueryInv s) : QueryInv (raise c s) :=
  h.carry (by rw [raise_query]) (by rw [raise_query]) (by rw [raise_engine]) (by rw [raise_input])

theorem QueryInv.raiseIf {s : State} (b : Bool) (c : Cause) (h : QueryInv s) : QueryInv (raiseIf b c s) := by
  cases b
  · exact h
  · exact h.raise c

/-- A change of a cue entry that leaves its id and positions leaves its span. -/
theorem KeepsCue.spans {f : CueEntry → CueEntry} (h : KeepsCue f) (e : CueEntry) (n x : Nat) :
    (f e).spans n x = e.spans n x := by
  have hstart : (f e).startFrame n = e.startFrame n := by rw [CueEntry.startFrame, h.inPoint, CueEntry.startFrame]
  have hlast : (f e).lastFrame n = e.lastFrame n := by
    rw [CueEntry.lastFrame, h.outPoint, h.fade, CueEntry.lastFrame]
  rw [CueEntry.spans, hstart, hlast, CueEntry.spans]

theorem Work.queryInv {s t : State} (h : Work s t) (hs : QueryInv s) : QueryInv t := by
  induction h with
  | refl => exact hs
  | raise c _ ih => exact ih.raise c
  | refused w x _ ih => exact ih.carry (by simp) (by simp) (by simp) (by simp)
  | close _ ih => exact ih.carry (by simp) (by simp) (by simp) (by simp)
  | engine _ _ hc ih => exact ih.carry rfl rfl hc
  | removeCue id _ ih => exact queryInv_iff.mpr ((queryInv_iff.mp ih).removeCue id)
  | changeCue id f _ hf ih =>
    refine queryInv_iff.mpr ((queryInv_iff.mp ih).recue fun c hc => ?_)
    refine ⟨_, List.mem_map.mpr ⟨c, hc, rfl⟩, ?_⟩
    split
    · exact ⟨hf.id c, fun x => hf.spans c _ x⟩
    · exact ⟨rfl, fun _ => rfl⟩
  | splice _ _ ih => exact ih.carry
  | conceal _ _ _ _ ih => exact ih.carry
  | emit _ _ _ _ ih => exact ih.carry
  | endRecording _ _ ih => exact ih.carry

theorem QueryInv.rederive {s : State} (h : QueryInv s) : QueryInv (rederive s) :=
  h.carry (by rw [rederive_query]) (by rw [rederive_query]) (by rw [rederive_engine]) (rederive_rate s)

theorem QueryInv.frameWritten {s : State} (h : QueryInv s) : QueryInv (frameWritten s) := by
  cases he : s.formatter.emission with
  | none => rw [frameWritten_none he]; exact h
  | some e => exact (frameWritten_work he).queryInv h.carry

theorem QueryInv.discardQueries {s : State} (h : QueryInv s) : QueryInv (discardQueries s) :=
  QueryInv.raiseIf _ _ (queryInv_iff.mpr ((queryInv_iff.mp h).sublist List.filter_sublist))

theorem QueryInv.queryTick {s : State} (h : QueryInv s) : QueryInv (queryTick s) :=
  QueryInv.discardQueries (QueryInv.raiseIf _ _ (queryInv_iff.mpr ((queryInv_iff.mp h).tick s.query.limit)))

theorem QueryInv.frameTick {s : State} (g : BitVec 4) (h : QueryInv s) : QueryInv (frameTick g s) := by
  unfold Machine.frameTick
  split
  · have hlevels : QueryInv (levelRequests g (positionTick (clearHanded (Machine.frameWritten s)))) :=
      levelRequests_keeps (fun i _ hu => QueryInv.raiseIf _ _ (QueryInv.raiseIf _ _ hu.carry)) h.frameWritten.carry
    have hcapture := hlevels.carry (t := captureTick _) (by rw [captureTick_query]) (by rw [captureTick_query])
      (by rw [captureTick_engine]) (captureTick_rate _)
    exact (((Work.refl _).formatterTick.engineTick (handedRequests (Machine.frameWritten s))).queryInv
      hcapture.queryTick).carry
  · exact h

theorem QueryInv.transportChange {s : State} (x : Transport) (h : QueryInv s) : QueryInv (transportChange x s) := by
  unfold Machine.transportChange
  dsimp only
  have hmoved : QueryInv (if s.pins.transport = .play then leavePlay (s.setPins { s.pins with transport := x })
      else s.setPins { s.pins with transport := x }) := by
    split
    · have hstopped : QueryInv (recordingTransport (emptyBuffer (s.setPins { s.pins with transport := x }))) :=
        h.carry (by simp) (by simp) (by simp) (by simp [emptyBuffer])
      exact (Work.refl _).transportAbort.queryInv (QueryInv.raiseIf _ _ hstopped.carry)
    · exact h.carry
  split
  · exact h
  · split
    · exact hmoved.carry
    · exact hmoved

theorem QueryInv.judgeSubcode {s : State} (x y : FrameNo) (h : QueryInv s) : QueryInv (judgeSubcode x y s) := by
  unfold Machine.judgeSubcode
  dsimp only
  have hrenumbered : QueryInv (renumber ((s.position.judge x y s.decoder.preread).w - s.position.w)
      (s.setPosition (s.position.judge x y s.decoder.preread))) := h.carry
  split
  · refine QueryInv.raiseIf _ _ ?_
    split
    · exact (Work.refl _).rewind.queryInv hrenumbered
    · exact hrenumbered
  · exact h

/-- The list is empty once every entry has left it. -/
@[simp] theorem emptyCues_cues (s : State) : (emptyCues s).engine.cues = [] := by
  have hleft (ids : List Nat) (u : State) : (ids.foldl (fun t id => removeCue id t) u).engine.cues =
      u.engine.cues.filter (fun e => !ids.contains e.id) := by
    induction ids generalizing u with
    | nil => simp
    | cons id ids ih =>
      rw [List.foldl_cons, ih, removeCue_engine, List.filter_filter]
      congr 1
      funext e
      by_cases hid : e.id = id <;> simp [hid]
  unfold emptyCues
  rw [hleft, List.filter_eq_nil_iff]
  intro e he
  simpa using ⟨e, he, rfl⟩

/-- With the cue list empty nothing is HELD, whatever the rate. -/
theorem QueryInv.changeRate {s : State} (rate : Rate) (h : QueryInv s) : QueryInv (changeRate rate s) := by
  have hcues : QueryInv (emptyCues (emptyBuffer s)) := (Work.refl _).emptyCues.queryInv h.carry
  have hfree : ∀ e ∈ (emptyCues (emptyBuffer s)).query.entries, ∀ id, e.state ≠ .held id := fun e he id hid => by
    obtain ⟨c, hc, _⟩ := hcues.blocked e he id hid
    rw [emptyCues_cues] at hc
    contradiction
  have hparts := queryInv_iff.mp hcues
  exact QueryInv.rederive (queryInv_iff.mpr ⟨hparts.held, hparts.distinct, hparts.entries,
    fun e he id hid => absurd hid (hfree e he id)⟩)

/-- A new entry is HELD behind the entry of the list that spans its frame, and otherwise WAITING. -/
theorem QueryInv.newQuery {s : State} (h : QueryInv s) {kind : QueryKind} {f : FrameNo}
    (hnew : s.query.entries.find? (fun e => e.is kind f) = none) (hroom : s.query.entries.length < 4) :
    QueryInv (s.setQuery { s.query with entries := s.query.entries ++ [newQuery kind f s] }) := by
  have hparts := queryInv_iff.mp h
  have hsound : (Machine.newQuery kind f s).Sound s.query.tickLimit ∧
      (Machine.newQuery kind f s).Blocked s.engine.cues (spf s.input.rate) := by
    refine ⟨⟨Nat.zero_le _, fun _ => Nat.zero_le _, Nat.zero_le _, fun _ hl => Nat.pos_of_ne_zero hl, fun age o hc => ?_,
      fun age x hc => ?_, fun _ _ => ⟨rfl, rfl⟩⟩, fun id hid => ?_⟩
    · exact absurd hc (newQuery_not_complete kind f s age o)
    · exact absurd hc (newQuery_not_complete kind f s age _)
    · unfold Machine.newQuery at hid
      dsimp only at hid
      split at hid
      next c hc =>
        obtain rfl := QueryState.held.inj hid
        exact ⟨c, List.mem_of_find?_eq_some hc, rfl, List.find?_some (p := fun c : CueEntry => c.spans (spf s.input.rate) f.toNat) hc⟩
      · contradiction
  refine queryInv_iff.mpr ⟨by simpa using hroom, List.pairwise_append.mpr ⟨hparts.distinct, List.pairwise_singleton _ _, ?_⟩,
    ?_, ?_⟩
  · intro e he x hx
    rw [List.mem_singleton.mp hx]
    have := List.find?_eq_none.mp hnew e he
    simpa [Machine.newQuery] using this
  all_goals
    intro e he
    obtain he | he := List.mem_append.mp he
  · exact hparts.entries e he
  · rw [List.mem_singleton.mp he]; exact hsound.1
  · exact hparts.blocked e he
  · rw [List.mem_singleton.mp he]; exact hsound.2

/-- An entry inserted into the list leaves those that stood in it. -/
theorem mem_insertCue {e c : CueEntry} {cues : List CueEntry} : c ∈ insertCue e cues ↔ c = e ∨ c ∈ cues := by
  unfold insertCue
  have hsplit := List.takeWhile_append_dropWhile (p := fun c : CueEntry => decide (c.inPoint < e.inPoint)) (l := cues)
  conv_rhs => rw [← hsplit]
  simp only [List.mem_append, List.mem_cons]
  tauto

theorem QueryInv.removeQuery {s : State} (h : QueryInv s) (kind : QueryKind) (f : FrameNo) :
    QueryInv (removeQuery kind f s) :=
  queryInv_iff.mpr ((queryInv_iff.mp h).sublist List.filter_sublist)

theorem queryInv_blockKept : BlockKept QueryInv where
  pending _ _ hs := hs.carry
  link _ _ hs := hs.carry
  notice _ _ hs := hs.carry
  output _ _ hs := hs.carry
  pins _ _ _ _ hs := hs.carry
  power _ _ := queryInv_iff.mpr ⟨Nat.zero_le _, .nil, nofun, nofun⟩
  count _ hs := hs.carry
  pair source p s hs := by
    unfold enterPair
    split
    · exact hs
    · exact iteInduction (fun _ => hs.carry) (fun _ => hs)
  lockIndication a s hs := QueryInv.rederive (s := s.setPins _) hs.carry
  statusArrival a s hs := QueryInv.rederive (s := s.setLineage _) hs.carry
  blockArrival _ _ _ hs := hs.carry
  headFrameEnd _ _ hs := closeFrame_stages (fun c _ h => h.raise c) hs.carry (fun _ _ _ h => h.carry)
    (fun _ _ h => h.carry) (fun x y _ h => h.judgeSubcode x y) (fun _ _ h => h.carry) (fun _ _ _ h => h.carry)
    (fun _ _ h => h.carry) (fun r _ h => QueryInv.raiseIf _ _ (queryInv_iff.mpr ((queryInv_iff.mp h).report r)))
  transport x _ hs := hs.transportChange x
  tick g _ hs := hs.frameTick g
  absence _ hs := iteInduction (fun _ => hs.rederive) (fun _ => hs)
  expiry _ hs := iteInduction
    (fun _ => QueryInv.raiseIf _ _ (queryInv_iff.mpr ((queryInv_iff.mp hs).expire _))) (fun _ => hs)
  discard _ hs := hs.discardQueries
  written _ hs := hs.frameWritten
  edge i s hs := iteInduction (fun _ => QueryInv.raiseIf _ _ (QueryInv.raiseIf _ _ hs.carry)) (fun _ => hs)
  serve k hk p s hs := by
    simp only [List.mem_cons, List.not_mem_nil, or_false] at hk
    obtain rfl | rfl | rfl | rfl | rfl | rfl | rfl | rfl | rfl | rfl | rfl | rfl | rfl | rfl | rfl | rfl | rfl | rfl |
      rfl := hk <;> rw [RequestKind.serve]
    · obtain h | ⟨source, h⟩ | ⟨source, rate, _, _, _, h⟩ := serveSourceSelect_cases p s <;> rw [h]
      · exact hs
      · exact hs.carry
      · exact QueryInv.changeRate rate hs.carry
    · obtain h | ⟨mode, w, program, take, _, _, h⟩ := serveRecordStart_cases p s <;> rw [h]
      · exact hs
      · cases mode with
        | continuing => exact hs.carry
        | new => exact QueryInv.raiseIf _ _ hs.carry
    · obtain h | h := serveRecordStop_cases p s <;> rw [h] <;> exact hs.carry
    · obtain h | ⟨_, _, h⟩ := serveLineageSetup_cases p s <;> rw [h] <;> exact hs.carry
    · obtain h | ⟨_, _, h⟩ := serveConcealSetup_cases p s <;> rw [h] <;> exact hs.carry
    · obtain h | h := serveQualityTotals_cases p s <;> rw [h] <;> exact hs.carry
    · obtain h | ⟨_, _, _, _, _, h⟩ := servePrereadSetup_cases p s <;> rw [h] <;> exact hs.carry
    · obtain h | ⟨_, _, _, _, h⟩ := serveGpiSetup_cases p s <;> rw [h] <;> exact hs.carry
    · obtain h | ⟨_, h⟩ := serveMarkRead_cases p s <;> rw [h] <;> exact hs.carry
    · obtain h | ⟨_, _, _, _, _, _, _, _, _, h⟩ := serveCueAdd_cases p s <;> rw [h]
      · exact hs
      · exact queryInv_iff.mpr ((queryInv_iff.mp hs).recue fun c hc =>
          ⟨c, mem_insertCue.mpr (.inr hc), rfl, fun _ => rfl⟩)
    · obtain h | ⟨_, _, _, _, h⟩ := serveCueRemove_cases p s <;> rw [h]
      · exact hs
      · exact ((Work.refl s).dropCue _).queryInv hs
    · obtain h | ⟨_, _, h⟩ := serveEditArm_cases p s <;> rw [h]
      · exact hs
      · exact ((Work.refl s).armEngine _).queryInv hs
    · obtain h | ⟨_, h⟩ := serveEditDisarm_cases p s <;> rw [h] <;> exact hs.carry
    · obtain h | ⟨_, h⟩ := serveEditAbort_cases p s <;> rw [h] <;> exact hs.carry
    · obtain h | ⟨_, _, _, _, h⟩ := serveEditSetup_cases p s <;> rw [h] <;> exact hs.carry
    · obtain h | h := serveRefusalListRead_cases p s <;> rw [h] <;> exact hs.carry
    · obtain h | ⟨kind, f, h⟩ | ⟨kind, f, hnew, hroom, h⟩ := serveTapeQuery_cases p s <;> rw [h]
      · exact hs
      · exact hs.removeQuery kind f
      · exact hs.newQuery hnew hroom
    · obtain h | ⟨kind, f, h⟩ := serveQueryCancel_cases p s <;> rw [h]
      · exact hs
      · exact hs.removeQuery kind f
    · obtain h | ⟨_, h⟩ := serveQuerySetup_cases p s <;> rw [h] <;> exact hs.carry

/-- Settles O10: each event keeps each entry sound, and what is HELD is released in the same operation that takes its
blocking entry from the list. -/
theorem everyStepKeepsQueryInv : Obligations.EveryStepKeepsQueryInv := queryInv_blockKept.kept.keeps

end Sys2Proof.Machine
end

section
/-! PROOFS. The cue list and the engine's record: what each change of them keeps. -/

namespace Sys2Proof.Machine

/-! ## The cue list (R105) -/

/-- What the invariant says of the cue list, at spf `n`. -/
structure CuesSound (n : Nat) (cues : List CueEntry) : Prop where
  held : cues.length ≤ 16
  ascending : cues.Pairwise (fun a b => a.inPoint < b.inPoint)
  disjoint : cues.Pairwise (fun a b => a.lastFrame n < b.startFrame n)
  ids : cues.Pairwise (fun a b => a.id ≠ b.id)
  ranges : ∀ e ∈ cues, e.InRange n

theorem cueListInv_iff {s : State} : CueListInv s ↔ CuesSound (spf s.input.rate) s.engine.cues :=
  ⟨fun h => ⟨h.held, h.ascending, h.disjoint, h.ids, h.ranges⟩, fun h => ⟨h.held, h.ascending, h.disjoint, h.ids, h.ranges⟩⟩

theorem KeepsCue.startFrame {f : CueEntry → CueEntry} (h : KeepsCue f) (e : CueEntry) (n : Nat) :
    (f e).startFrame n = e.startFrame n := by rw [CueEntry.startFrame, h.inPoint, CueEntry.startFrame]

theorem KeepsCue.lastFrame {f : CueEntry → CueEntry} (h : KeepsCue f) (e : CueEntry) (n : Nat) :
    (f e).lastFrame n = e.lastFrame n := by rw [CueEntry.lastFrame, h.outPoint, h.fade, CueEntry.lastFrame]

theorem KeepsCue.inRange {f : CueEntry → CueEntry} (h : KeepsCue f) {e : CueEntry} {n : Nat} (he : e.InRange n) :
    (f e).InRange n := by
  constructor <;> simp only [h.id, h.inPoint, h.outPoint, h.fade, h.program]
  exacts [he.idLow, he.idHigh, he.fadeLow, he.fadeHigh, he.outAfter, he.lastIn, he.program]

/-- A change for the entries of one id keeps what it keeps for each. -/
theorem KeepsCue.ite {f : CueEntry → CueEntry} (h : KeepsCue f) (id : Nat) :
    KeepsCue (fun e => if e.id = id then f e else e) where
  id e := by split; exacts [h.id e, rfl]
  inPoint e := by split; exacts [h.inPoint e, rfl]
  outPoint e := by split; exacts [h.outPoint e, rfl]
  fade e := by split; exacts [h.fade e, rfl]
  program e := by split; exacts [h.program e, rfl]

/-- Two entries of a list whose ids differ are one when they carry one id. -/
theorem eq_of_id {cues : List CueEntry} (h : cues.Pairwise (fun a b => a.id ≠ b.id)) {a b : CueEntry} (ha : a ∈ cues)
    (hb : b ∈ cues) (hid : a.id = b.id) : a = b :=
  List.inj_on_of_nodup_map (f := fun c : CueEntry => c.id) (List.pairwise_map.mpr h) ha hb hid

/-- The entry found under an id is the one entry of the list that carries it. -/
theorem find_id {cues : List CueEntry} (h : cues.Pairwise (fun a b => a.id ≠ b.id)) {e : CueEntry} (he : e ∈ cues) :
    cues.find? (fun c => c.id == e.id) = some e := by
  cases hf : cues.find? (fun c => c.id == e.id) with
  | none => exact absurd (List.find?_eq_none.mp hf e he) (by simp)
  | some c =>
    have hid : (c.id == e.id) = true := List.find?_some (p := fun c : CueEntry => c.id == e.id) hf
    rw [eq_of_id h (List.mem_of_find?_eq_some hf) he (by simpa using hid)]

/-- The entry that follows the one of an id is in the list, and is another. -/
theorem follower_mem {cues : List CueEntry} {id : Nat} {c : CueEntry} (h : follower id cues = some c) : c ∈ cues :=
  (List.dropWhile_sublist _).subset (List.mem_of_mem_tail (List.mem_of_head? h))

theorem follower_ne {cues : List CueEntry} (hids : cues.Pairwise (fun a b => a.id ≠ b.id)) {id : Nat} {c : CueEntry}
    (h : follower id cues = some c) : c.id ≠ id := by
  induction cues with
  | nil => contradiction
  | cons a cues ih =>
    obtain ⟨ha, hids⟩ := List.pairwise_cons.mp hids
    unfold follower at h ih
    by_cases hid : a.id = id
    · rw [List.dropWhile_cons_of_neg (by simpa using hid)] at h
      exact fun hc => ha c (List.mem_of_head? h) (hid.trans hc.symm)
    · rw [List.dropWhile_cons_of_pos (by simpa using hid)] at h
      exact ih hids h

namespace CuesSound
variable {n : Nat} {cues : List CueEntry}

theorem sublist {kept : List CueEntry} (h : CuesSound n cues) (hk : kept.Sublist cues) : CuesSound n kept :=
  ⟨hk.length_le.trans h.held, h.ascending.sublist hk, h.disjoint.sublist hk, h.ids.sublist hk,
    fun e he => h.ranges e (hk.subset he)⟩

theorem map (h : CuesSound n cues) {f : CueEntry → CueEntry} (hf : KeepsCue f) : CuesSound n (cues.map f) := by
  refine ⟨by simpa using h.held, ?_, ?_, ?_, fun e he => ?_⟩
  · exact List.pairwise_map.mpr (h.ascending.imp fun hab => by rwa [hf.inPoint, hf.inPoint])
  · exact List.pairwise_map.mpr (h.disjoint.imp fun hab => by rwa [hf.lastFrame, hf.startFrame])
  · exact List.pairwise_map.mpr (h.ids.imp fun hab => by rwa [hf.id, hf.id])
  · obtain ⟨e', he', rfl⟩ := List.mem_map.mp he
    exact hf.inRange (h.ranges e' he')

end CuesSound

/-- In an ascending list, the entries from the first at or after a point on all stand at or after it. -/
theorem le_of_mem_dropWhile {cues : List CueEntry} (h : cues.Pairwise (fun a b => a.inPoint < b.inPoint)) {p : Nat}
    {c : CueEntry} (hc : c ∈ cues.dropWhile (fun c => c.inPoint < p)) : p ≤ c.inPoint := by
  induction cues with
  | nil => contradiction
  | cons a cues ih =>
    obtain ⟨ha, h⟩ := List.pairwise_cons.mp h
    by_cases hp : a.inPoint < p
    · rw [List.dropWhile_cons_of_pos (by simpa using hp)] at hc
      exact ih h hc
    · rw [List.dropWhile_cons_of_neg (by simpa using hp)] at hc
      obtain rfl | hc := List.mem_cons.mp hc
      · omega
      · have := ha c hc
        omega

theorem CueEntry.InRange.start_le_last {e : CueEntry} {n : Nat} (h : e.InRange n) : e.startFrame n ≤ e.lastFrame n := by
  have := h.outAfter
  have := h.fadeLow
  exact Nat.div_le_div_right (by omega)

/-- An entry that joins at its place, under a fresh id and overlapping none. -/
theorem CuesSound.insert {n : Nat} {cues : List CueEntry} (h : CuesSound n cues) {e : CueEntry} (he : e.InRange n)
    (hroom : cues.length < 16) (hover : cues.any (overlaps n e) = false) (hfresh : ∀ c ∈ cues, c.id ≠ e.id) :
    CuesSound n (insertCue e cues) := by
  have hsplit := List.takeWhile_append_dropWhile (p := fun c : CueEntry => decide (c.inPoint < e.inPoint)) (l := cues)
  have hover : ∀ c ∈ cues, e.startFrame n ≤ c.lastFrame n → e.lastFrame n < c.startFrame n := fun c hc => by
    simpa [overlaps] using List.any_eq_false.mp hover c hc
  have hbefore : ∀ c ∈ cues.takeWhile (fun c => decide (c.inPoint < e.inPoint)),
      c.inPoint < e.inPoint ∧ c.lastFrame n < e.startFrame n ∧ c.id ≠ e.id := fun c hc => by
    have hmem : c ∈ cues := (List.takeWhile_sublist _).subset hc
    have hlt : c.inPoint < e.inPoint := by simpa using List.mem_takeWhile_imp hc
    refine ⟨hlt, not_le.mp fun hle => ?_, hfresh c hmem⟩
    have hstart : c.startFrame n ≤ e.startFrame n := Nat.div_le_div_right hlt.le
    have := he.start_le_last
    have := hover c hmem hle
    omega
  have hafter : ∀ c ∈ cues.dropWhile (fun c => decide (c.inPoint < e.inPoint)),
      e.inPoint < c.inPoint ∧ e.lastFrame n < c.startFrame n ∧ e.id ≠ c.id := fun c hc => by
    have hmem : c ∈ cues := (List.dropWhile_sublist _).subset hc
    have hle : e.startFrame n ≤ c.startFrame n := Nat.div_le_div_right (le_of_mem_dropWhile h.ascending hc)
    have hlast := hover c hmem (hle.trans (h.ranges c hmem).start_le_last)
    refine ⟨not_le.mp fun hback => ?_, hlast, (hfresh c hmem).symm⟩
    have hstart : c.startFrame n ≤ e.startFrame n := Nat.div_le_div_right hback
    have := he.start_le_last
    omega
  have hpair {R : CueEntry → CueEntry → Prop} (hR : cues.Pairwise R)
      (hb : ∀ c ∈ cues.takeWhile (fun c => decide (c.inPoint < e.inPoint)), R c e)
      (ha : ∀ c ∈ cues.dropWhile (fun c => decide (c.inPoint < e.inPoint)), R e c) : (insertCue e cues).Pairwise R := by
    rw [← hsplit] at hR
    obtain ⟨hleft, hright, hcross⟩ := List.pairwise_append.mp hR
    refine List.pairwise_append.mpr ⟨hleft, List.pairwise_cons.mpr ⟨ha, hright⟩, fun a hal b hb' => ?_⟩
    obtain rfl | hb' := List.mem_cons.mp hb'
    · exact hb a hal
    · exact hcross a hal b hb'
  refine ⟨?_, hpair h.ascending (fun c hc => (hbefore c hc).1) (fun c hc => (hafter c hc).1),
    hpair h.disjoint (fun c hc => (hbefore c hc).2.1) (fun c hc => (hafter c hc).2.1),
    hpair h.ids (fun c hc => (hbefore c hc).2.2) (fun c hc => (hafter c hc).2.2), fun c hc => ?_⟩
  · have hlen := congrArg List.length hsplit
    simp only [insertCue, List.length_append, List.length_cons] at hlen ⊢
    omega
  · obtain rfl | hc := mem_insertCue.mp hc
    · exact he
    · exact h.ranges c hc

/-! ## The next id (R105) -/

/-- With fewer than 255 entries an id is left over: the next id lies in 1 to 255, and no entry carries it. -/
theorem nextId_fresh {e : Engine} (h : e.cues.length < 255) :
    1 ≤ nextId e ∧ nextId e ≤ 255 ∧ ∀ c ∈ e.cues, c.id ≠ nextId e := by
  unfold nextId
  generalize e.lastId.getD 0 = l
  cases hf : ((List.range 255).map (fun k => (l + k) % 255 + 1)).find? (fun id => !e.cues.any (fun c => c.id == id)) with
  | none =>
    have hnodup : ((List.range 255).map (fun k => (l + k) % 255 + 1)).Nodup :=
      List.Nodup.map_on (fun x hx y hy hxy => by rw [List.mem_range] at hx hy; omega) List.nodup_range
    have hsub : (List.range 255).map (fun k => (l + k) % 255 + 1) ⊆ e.cues.map (fun c => c.id) := fun id hid => by
      simpa using List.find?_eq_none.mp hf id hid
    have := (hnodup.subperm hsub).length_le
    simp at this
    omega
  | some id =>
    obtain ⟨k, _, rfl⟩ := List.mem_map.mp (List.mem_of_find?_eq_some hf)
    have hfree : (!e.cues.any fun c => c.id == (l + k) % 255 + 1) = true :=
      List.find?_some (p := fun id => !e.cues.any (fun c => c.id == id)) hf
    refine ⟨by simp, by simp only [Option.getD_some]; omega, fun c hc => ?_⟩
    simpa using (by simpa using hfree : ∀ c ∈ e.cues, ¬ c.id = (l + k) % 255 + 1) c hc

/-! ## The engine's record -/

/-- What holds of the engine at any moment of its work, at spf `n`. -/
structure Engine.Listed (n : Nat) (e : Engine) : Prop where
  cues : CuesSound n e.cues
  loop : e.arm.loop = true → e.arm.mode = .rehearse
  requirement : 2 ≤ e.lockAgeReq ∧ e.lockAgeReq ≤ 255

/-- No entry but the one of an id is ACTIVE. -/
def Engine.ActiveAt (e : Engine) (id : Nat) : Prop := ∀ c ∈ e.cues, c.isActive = true → c.id = id

/-- No entry is ACTIVE. -/
def Engine.NoneActive (e : Engine) : Prop := ∀ c ∈ e.cues, c.isActive = false

/-- What the invariant says of the engine by itself, at spf `n`. -/
structure Engine.Sound (n : Nat) (e : Engine) : Prop extends e.Listed n where
  cursorAbsent : e.cursor = .absent ↔ e.state = .disarmed
  cursorHeld : ∀ id, e.cursor = .entry id → ∃ c ∈ e.cues, c.id = id
  activeEntry : e.state = .active → ∃ c ∈ e.cues, e.cursor = .entry c.id ∧ c.isActive = true
  onlyActive : ∀ c ∈ e.cues, c.isActive = true → e.state = .active ∧ e.cursor = .entry c.id
  passed : e.cursor = .passed → e.arm.mode = .rehearse ∧ e.arm.loop = true

theorem Engine.NoneActive.activeAt {e : Engine} (h : e.NoneActive) (id : Nat) : e.ActiveAt id :=
  fun c hc hactive => absurd hactive (by rw [h c hc]; nofun)

namespace Engine.Sound
variable {n : Nat} {e e' : Engine}

/-- The record carries over where the list, the mode, the requirement, the state and the cursor stay. -/
theorem carry (h : e.Sound n) (cues : e'.cues = e.cues := by rfl) (arm : e'.arm = e.arm := by rfl)
    (requirement : e'.lockAgeReq = e.lockAgeReq := by rfl) (state : e'.state = e.state := by rfl)
    (cursor : e'.cursor = e.cursor := by rfl) : e'.Sound n :=
  ⟨⟨cues ▸ h.cues, arm ▸ h.loop, requirement ▸ h.requirement⟩, by rw [cursor, state]; exact h.cursorAbsent,
    by rw [cursor, cues]; exact h.cursorHeld, by rw [state, cues, cursor]; exact h.activeEntry,
    by rw [state, cues, cursor]; exact h.onlyActive, by rw [cursor, arm]; exact h.passed⟩

/-- Unless the engine is ACTIVE, no entry is. -/
theorem noneActive (h : e.Sound n) (hs : e.state ≠ .active) : e.NoneActive := fun c hc => by
  by_contra hactive
  exact hs (h.onlyActive c hc (by simpa using hactive)).1

/-- The ACTIVE entry is the cursor's. -/
theorem activeAt (h : e.Sound n) {id : Nat} (hc : e.cursor = .entry id) : e.ActiveAt id := fun c hmem hactive => by
  have := (h.onlyActive c hmem hactive).2
  rw [hc] at this
  exact (Cursor.entry.inj this).symm

/-- A change of one entry that leaves what R104 fixes, and whether it is ACTIVE. -/
theorem mapCue (h : e.Sound n) (f : CueEntry → CueEntry) (hf : KeepsCue f)
    (hactive : ∀ c ∈ e.cues, (f c).isActive = c.isActive) : Engine.Sound n { e with cues := e.cues.map f } where
  cues := h.cues.map hf
  loop := h.loop
  requirement := h.requirement
  cursorAbsent := h.cursorAbsent
  cursorHeld id hc := by
    obtain ⟨c, hmem, hid⟩ := h.cursorHeld id hc
    exact ⟨f c, List.mem_map.mpr ⟨c, hmem, rfl⟩, (hf.id c).trans hid⟩
  activeEntry hs := by
    obtain ⟨c, hmem, hcursor, hc⟩ := h.activeEntry hs
    exact ⟨f c, List.mem_map.mpr ⟨c, hmem, rfl⟩, by rw [hf.id]; exact hcursor, (hactive c hmem).trans hc⟩
  onlyActive c hmem hc := by
    obtain ⟨c', hmem', rfl⟩ := List.mem_map.mp hmem
    rw [hf.id]
    exact h.onlyActive c' hmem' ((hactive c' hmem').symm.trans hc)
  passed := h.passed

end Engine.Sound

/-- With no entry ACTIVE, the cursor can be placed on an entry of the list or past the last one. -/
theorem Engine.Listed.pointTo {n : Nat} {e : Engine} (h : e.Listed n) (hnone : e.NoneActive) {next : Option CueEntry}
    (hnext : ∀ c, next = some c → ∃ c' ∈ e.cues, c'.id = c.id) : (e.pointTo next).Sound n := by
  have hno {c : CueEntry} {p : Prop} (hc : c ∈ e.cues) (ha : c.isActive = true) : p :=
    absurd ha (by rw [hnone c hc]; nofun)
  unfold Engine.pointTo Engine.passLast
  split
  next c =>
    exact ⟨⟨h.cues, h.loop, h.requirement⟩, ⟨nofun, nofun⟩, fun id hid => Cursor.entry.inj hid ▸ hnext c rfl, nofun,
      fun c hc ha => hno hc ha, nofun⟩
  · split
    next hloop =>
      exact ⟨⟨h.cues, h.loop, h.requirement⟩, ⟨nofun, nofun⟩, nofun, nofun, fun c hc ha => hno hc ha, fun _ => hloop⟩
    · exact ⟨⟨h.cues, h.loop, h.requirement⟩, ⟨fun _ => rfl, fun _ => rfl⟩, nofun, nofun, fun c hc ha => hno hc ha, nofun⟩

/-- Placing the cursor arms or disarms the engine. -/
theorem Engine.pointTo_state (e : Engine) (next : Option CueEntry) : (e.pointTo next).state ≠ .active := by
  unfold Engine.pointTo Engine.passLast
  (repeat' split) <;> nofun

end Sys2Proof.Machine
end

section
/-! PROOFS. The edit engine's invariant (O9): the end of an entry, the tick, arming and the requests. -/

namespace Sys2Proof.Machine

theorem engineInv_iff {s : State} : EngineInv s ↔
    s.engine.Sound (spf s.input.rate) ∧ (s.formatter.state ≠ .idle → s.engine.state = .disarmed) :=
  ⟨fun h => ⟨⟨⟨cueListInv_iff.mp h.cueList, h.loop, h.requirement⟩, h.cursorAbsent, h.cursorHeld, h.activeEntry,
      h.onlyActive, h.passed⟩, h.exclusive⟩,
   fun ⟨h, hex⟩ => ⟨cueListInv_iff.mpr h.cues, hex, h.cursorAbsent, h.cursorHeld, h.activeEntry, h.onlyActive, h.passed,
    h.loop, h.requirement⟩⟩

theorem EngineInv.sound {s : State} (h : EngineInv s) : s.engine.Sound (spf s.input.rate) := (engineInv_iff.mp h).1

/-- The invariant is carried to a state of the same engine, formatter state and rate. -/
theorem EngineInv.carry {s t : State} (h : EngineInv s) (engine : t.engine = s.engine := by rfl)
    (formatter : t.formatter.state = s.formatter.state := by rfl) (rate : t.input.rate = s.input.rate := by rfl) :
    EngineInv t :=
  engineInv_iff.mpr (by rw [engine, formatter, rate]; exact engineInv_iff.mp h)

theorem EngineInv.raise {s : State} (c : Cause) (h : EngineInv s) : EngineInv (raise c s) :=
  h.carry (raise_engine c s) (by rw [raise_formatter]) (by rw [raise_input])

theorem EngineInv.raiseIf {s : State} (b : Bool) (c : Cause) (h : EngineInv s) : EngineInv (raiseIf b c s) := by
  cases b
  · exact h
  · exact h.raise c

/-- The engine is sound, and the formatter idle, so that any state of the engine will do. -/
structure EngineFree (s : State) : Prop where
  sound : s.engine.Sound (spf s.input.rate)
  idle : s.formatter.state = .idle

theorem EngineFree.inv {s : State} (h : EngineFree s) : EngineInv s :=
  engineInv_iff.mpr ⟨h.sound, fun hno => absurd h.idle hno⟩

/-- An engine that is not DISARMED finds the formatter idle. -/
theorem EngineInv.free {s : State} (h : EngineInv s) (hs : s.engine.state ≠ .disarmed) : EngineFree s :=
  ⟨h.sound, by_contra fun hno => hs (h.exclusive hno)⟩

theorem EngineFree.carry {s t : State} (h : EngineFree s) (engine : t.engine = s.engine := by rfl)
    (formatter : t.formatter.state = s.formatter.state := by rfl) (rate : t.input.rate = s.input.rate := by rfl) :
    EngineFree t :=
  ⟨by rw [engine, rate]; exact h.sound, formatter.trans h.idle⟩

theorem EngineFree.raise {s : State} (c : Cause) (h : EngineFree s) : EngineFree (raise c s) :=
  h.carry (raise_engine c s) (by rw [raise_formatter]) (by rw [raise_input])

theorem EngineFree.closeSpan {s : State} (h : EngineFree s) : EngineFree (closeSpan s) :=
  h.carry (closeSpan_engine s) (by rw [closeSpan_formatter]) (by rw [closeSpan_input])

theorem EngineFree.refusedReport {s : State} (w : FrameNo) (x : SpanContext) (h : EngineFree s) :
    EngineFree (refusedReport w x s) :=
  h.carry (refusedReport_engine w x s) (by rw [refusedReport_formatter]) (by rw [refusedReport_input])

/-! ## The end of an entry (R131) -/

/-- The list once the entry of an id has ended: without it in EXECUTE, with it PENDING in REHEARSE. -/
def leftCues (id : Nat) (e : Engine) : List CueEntry :=
  match e.arm.mode with
  | .execute => e.cues.filter (fun c => c.id != id)
  | .rehearse => e.cues.map (fun c => if c.id = id then { c with state := .pending, degraded := 0 } else c)

theorem leaveList_engine (id : Nat) (s : State) : (leaveList id s).engine = { s.engine with cues := leftCues id s.engine } := by
  unfold leaveList leftCues
  cases s.engine.arm.mode <;> rfl

/-- The end of an entry places the cursor on the entry that followed, over the list that the entry has left. -/
theorem endEntry_engine (r : SpliceRecord) (s : State) : ∃ e : Engine, e.cues = leftCues r.id s.engine ∧
    e.arm = s.engine.arm ∧ e.lockAgeReq = s.engine.lockAgeReq ∧
    (endEntry r s).engine = e.pointTo (follower r.id s.engine.cues) := by
  have hreport (u : State) : (reportEnd u).engine = u.engine := by unfold reportEnd; split <;> simp
  refine ⟨{ (leaveList r.id (raise (outcomeCause r.outcome) (logRecord r s))).engine with
    pendingAbort := false, run := EntryRun.empty }, ?_, ?_, ?_, hreport _⟩ <;>
  rw [leaveList_engine, raise_engine] <;> rfl

@[simp] theorem Engine.pointTo_arm (e : Engine) (next : Option CueEntry) : (e.pointTo next).arm = e.arm := by
  unfold Engine.pointTo Engine.passLast
  (repeat' split) <;> rfl

/-- The list left holds no ACTIVE entry, when none but the one that left was. -/
theorem noneActive_leftCues {e : Engine} {id : Nat} (h : e.ActiveAt id) :
    ∀ c ∈ leftCues id e, c.isActive = false := by
  unfold leftCues
  split
  · intro c hc
    obtain ⟨hmem, hid⟩ := List.mem_filter.mp hc
    by_contra hactive
    simp [h c hmem (by simpa using hactive)] at hid
  · intro c hc
    obtain ⟨c', hmem, rfl⟩ := List.mem_map.mp hc
    split
    · rfl
    next hid =>
      by_contra hactive
      exact hid (h c' hmem (by simpa using hactive))

/-- Every other entry stays in the list. -/
theorem mem_leftCues {e : Engine} {id : Nat} {c : CueEntry} (hc : c ∈ e.cues) (hid : c.id ≠ id) : c ∈ leftCues id e := by
  unfold leftCues
  split
  · exact List.mem_filter.mpr ⟨hc, by simpa using hid⟩
  · exact List.mem_map.mpr ⟨c, hc, if_neg hid⟩

theorem CuesSound.leftCues {n : Nat} {e : Engine} (h : CuesSound n e.cues) (id : Nat) : CuesSound n (leftCues id e) := by
  unfold Machine.leftCues
  split
  · exact h.sublist List.filter_sublist
  · exact h.map (KeepsCue.ite (by constructor <;> exact fun _ => rfl) id)

/-- The end of an entry, where no other is ACTIVE: the engine is sound, no entry is ACTIVE, and every other entry is still
in the list. -/
theorem EngineFree.endEntry {s : State} {r : SpliceRecord} (h : EngineFree s) (hactive : s.engine.ActiveAt r.id) :
    EngineFree (endEntry r s) ∧ (endEntry r s).engine.state ≠ .active ∧
      ∀ c ∈ s.engine.cues, c.id ≠ r.id → c ∈ (Machine.endEntry r s).engine.cues := by
  obtain ⟨e, hcues, harm, hreq, he⟩ := endEntry_engine r s
  have hlisted : e.Listed (spf s.input.rate) :=
    ⟨by rw [hcues]; exact h.sound.cues.leftCues _, by rw [harm]; exact h.sound.loop, by rw [hreq]; exact h.sound.requirement⟩
  have hnone : e.NoneActive := by
    unfold Engine.NoneActive
    rw [hcues]
    exact noneActive_leftCues hactive
  refine ⟨⟨?_, ?_⟩, ?_, fun c hc hid => ?_⟩
  · rw [he, endEntry_input]
    refine hlisted.pointTo hnone fun c hc => ⟨c, ?_, rfl⟩
    rw [hcues]
    exact mem_leftCues (follower_mem hc) (follower_ne h.sound.cues.ids hc)
  · rw [endEntry_formatter]
    exact h.idle
  · rw [he]
    exact Engine.pointTo_state _ _
  · rw [he, Engine.pointTo_cues, hcues]
    exact mem_leftCues hc hid

theorem cursorCue_eq_some {s : State} {e : CueEntry} (h : cursorCue s = some e) :
    s.engine.cursor = .entry e.id ∧ e ∈ s.engine.cues := by
  unfold cursorCue at h
  split at h
  next id hc =>
    have hid : (e.id == id) = true := List.find?_some (p := fun c : CueEntry => c.id == id) h
    rw [hc, eq_of_beq hid]
    exact ⟨rfl, List.mem_of_find?_eq_some h⟩
  · contradiction
  · contradiction

theorem EngineFree.endActive {s : State} (h : EngineFree s) (o : EntryOutcome) (x : Option Reason) (b : Bool) :
    EngineFree (endActive o x b s) := by
  unfold Machine.endActive
  split
  next e he => exact (h.endEntry (h.sound.activeAt (cursorCue_eq_some he).1)).1
  · exact h

/-! ## Producing a frame -/

/-- The engine plays the entry of an id. -/
structure Playing (id : Nat) (s : State) : Prop where
  free : EngineFree s
  active : s.engine.state = .active
  cursor : s.engine.cursor = .entry id

theorem Playing.carry {id : Nat} {s t : State} (h : Playing id s) (engine : t.engine = s.engine := by rfl)
    (formatter : t.formatter.state = s.formatter.state := by rfl) (rate : t.input.rate = s.input.rate := by rfl) :
    Playing id t :=
  ⟨h.free.carry engine formatter rate, by rw [engine]; exact h.active, by rw [engine]; exact h.cursor⟩

theorem Playing.setRun {id : Nat} {s : State} (h : Playing id s) (run : EntryRun) :
    Playing id (s.setEngine { s.engine with run := run }) :=
  ⟨⟨h.free.sound.carry, h.free.idle⟩, h.active, h.cursor⟩

/-- A change of the entry that plays keeps it ACTIVE, or leaves it as it is in that. -/
theorem Playing.changeCue {id : Nat} {s : State} (h : Playing id s) {f : CueEntry → CueEntry} (hf : KeepsCue f)
    (hactive : ∀ c, c.isActive = true → (f c).isActive = true) : Playing id (changeCue id f s) := by
  refine ⟨⟨h.free.sound.mapCue _ (hf.ite id) fun c hc => ?_, h.free.idle⟩, h.active, h.cursor⟩
  split
  next hid =>
    obtain ⟨c', hc', hcursor, hplays⟩ := h.free.sound.activeEntry h.active
    rw [h.cursor] at hcursor
    obtain rfl : c = c' := eq_of_id h.free.sound.cues.ids hc hc' (hid.trans (Cursor.entry.inj hcursor))
    rw [hplays, hactive c hplays]
  · rfl

theorem fetchOld_keeps (s : State) : (fetchOld s).1.engine = s.engine ∧ (fetchOld s).1.formatter = s.formatter ∧
    (fetchOld s).1.input = s.input := by
  unfold fetchOld
  split
  · exact ⟨rfl, rfl, rfl⟩
  · simp [concealInto]

namespace Playing
variable {id : Nat} {s : State}

theorem fetchOld (h : Playing id s) : Playing id (fetchOld s).1 := by
  obtain ⟨he, hf, hi⟩ := fetchOld_keeps s
  exact h.carry he (by rw [hf]) (by rw [hi])

theorem reportEnd (h : Playing id s) : Playing id (reportEnd s) := by
  unfold Machine.reportEnd
  split
  · exact h.carry (closeSpan_engine s) (by rw [closeSpan_formatter]) (by rw [closeSpan_input])
  · exact h

theorem handOn (h : Playing id s) (f : SpliceFrame) (e : CueEntry) : Playing id (handOn f e s) := by
  unfold Machine.handOn
  dsimp only
  split
  · exact (h.setRun _).carry
  · exact (h.setRun _).carry

variable {e : CueEntry} (he : e.id = id)
include he

theorem addDegraded (h : Playing id s) (k : Nat) : Playing id (addDegraded e k s) := by
  unfold Machine.addDegraded
  rw [he]
  exact h.changeCue (by constructor <;> exact fun _ => rfl) (fun _ hc => hc)

theorem produceInput (h : Playing id s) : Playing id (produceInput e s) := by
  have hfetch : Playing id (if isInserted e (s.position.w.toNat * spf s.input.rate) (spf s.input.rate) = true
      then (s, OldSide.none) else Machine.fetchOld s).1 := by
    split
    · exact h
    · exact h.fetchOld
  unfold Machine.produceInput
  dsimp only
  rw [he]
  exact (((hfetch.addDegraded he _).handOn _ e).changeCue (by constructor <;> exact fun _ => rfl) (fun _ _ => rfl)).reportEnd

theorem produceFade (h : Playing id s) (refusal : Bool) : Playing id (produceFade e refusal s) :=
  (h.fetchOld.addDegraded he _).handOn _ e

theorem produceFrame (h : Playing id s) : EngineFree (produceFrame e s) := by
  have hinput := h.produceInput he
  unfold Machine.produceFrame
  dsimp only
  split
  · split
    · exact (hinput.setRun _).free
    · exact hinput.free.endActive _ _ _
  · exact hinput.free

theorem abortRefused (h : Playing id s) : EngineFree (abortRefused e s) := by
  have hfade := h.produceFade he true
  have hreported : Playing id (refusedReport s.position.w (.edit e.id) (Machine.produceFade e true s)) :=
    hfade.carry (refusedReport_engine _ _ _) (by rw [refusedReport_formatter]) (by rw [refusedReport_input])
  exact (hreported.setRun _).free

theorem abortRequested (h : Playing id s) : EngineFree (abortRequested e s) := by
  have hfade := h.produceFade he false
  unfold Machine.abortRequested
  dsimp only
  split
  · exact (hfade.setRun _).free
  · exact hfade.free.endActive _ _ _

end Playing

/-! ## Arming (R110, R111) -/

theorem Engine.Listed.takeArm {n : Nat} {e : Engine} (h : e.Listed n) (m : ArmMode) : (e.takeArm m).Listed n :=
  ⟨h.cues, fun hl => by simpa [Engine.takeArm] using (by simpa [Engine.takeArm] using hl : m.loop = true ∧ _).2, h.requirement⟩

/-- Passing entries over takes them from the list, and leaves the mode and the requirement. -/
theorem foldl_passOver_engine (es : List CueEntry) (s : State) : ∃ e : Engine, (es.foldl passOver s).engine = e ∧
    e.cues = s.engine.cues.filter (fun c => !(es.map (fun x => x.id)).contains c.id) ∧ e.arm = s.engine.arm ∧
    e.lockAgeReq = s.engine.lockAgeReq := by
  induction es generalizing s with
  | nil => exact ⟨_, rfl, by simp, rfl, rfl⟩
  | cons x es ih =>
    obtain ⟨e, he, hcues, harm, hreq⟩ := ih (passOver s x)
    have hpass : (passOver s x).engine.cues = s.engine.cues.filter (fun c => c.id != x.id) ∧
        (passOver s x).engine.arm = s.engine.arm ∧ (passOver s x).engine.lockAgeReq = s.engine.lockAgeReq := by
      unfold passOver
      rw [removeCue_engine, raise_engine]
      exact ⟨rfl, rfl, rfl⟩
    obtain ⟨hc, ha, hr⟩ := hpass
    refine ⟨e, he, ?_, harm.trans ha, hreq.trans hr⟩
    rw [hcues, hc, List.filter_filter]
    congr 1
    funext c
    by_cases hid : c.id = x.id <;> simp [hid]

theorem placedCue_mem {s : State} {c : CueEntry} (h : placedCue s = some c) :
    c ∈ s.engine.cues.dropWhile (isPassed s) := List.mem_of_head? h

/-- An entry passed over carries another id than any on which the cursor can be placed. -/
theorem passed_id_ne {s : State} (hids : s.engine.cues.Pairwise (fun a b => a.id ≠ b.id)) {a c : CueEntry}
    (ha : a ∈ passedCues s) (hc : c ∈ s.engine.cues.dropWhile (isPassed s)) : a.id ≠ c.id := by
  rw [← List.takeWhile_append_dropWhile (p := isPassed s) (l := s.engine.cues)] at hids
  exact (List.pairwise_append.mp hids).2.2 a ha c hc

theorem EngineFree.armEngine {s : State} (h : EngineFree s) (hs : s.engine.state ≠ .active) (m : ArmMode) :
    EngineFree (armEngine m s) := by
  have hnone := h.sound.noneActive hs
  have hplaced {c : CueEntry} (hc : placedCue s = some c) : c ∈ s.engine.cues :=
    (List.dropWhile_sublist _).subset (placedCue_mem hc)
  have hlisted := h.sound.toListed.takeArm m
  refine ⟨?_, by rw [armEngine_formatter]; exact h.idle⟩
  rw [((Work.refl s).armEngine m).leaves.input]
  unfold Machine.armEngine
  dsimp only
  split
  · obtain ⟨e, he, hcues, harm, hreq⟩ := foldl_passOver_engine (passedCues s) (s.setEngine (s.engine.takeArm m))
    have hcues : e.cues = s.engine.cues.filter (fun c => !((passedCues s).map (fun x => x.id)).contains c.id) := hcues
    show (((passedCues s).foldl passOver (s.setEngine (s.engine.takeArm m))).engine.pointTo (placedCue s)).Sound _
    rw [he]
    refine Engine.Listed.pointTo ⟨?_, by rw [harm]; exact hlisted.loop, by rw [hreq]; exact hlisted.requirement⟩ ?_
      fun c hc => ⟨c, ?_, rfl⟩
    · rw [hcues]; exact h.sound.cues.sublist List.filter_sublist
    · intro c hc
      rw [hcues] at hc
      exact hnone c (List.mem_of_mem_filter hc)
    · rw [hcues]
      refine List.mem_filter.mpr ⟨hplaced hc, ?_⟩
      simp only [List.contains_eq_mem, List.mem_map, Bool.not_eq_true', decide_eq_false_iff_not, not_exists, not_and]
      exact fun a ha => passed_id_ne h.sound.cues.ids ha (placedCue_mem hc)
  · exact hlisted.pointTo hnone fun c hc => ⟨c, hplaced hc, rfl⟩

/-- An engine that is not ACTIVE can be DISARMED. -/
theorem EngineInv.disarm {s : State} (h : EngineInv s) (hs : s.engine.state ≠ .active) : EngineInv (disarm s) := by
  have hno {c : CueEntry} {p : Prop} (hc : c ∈ s.engine.cues) (ha : c.isActive = true) : p :=
    absurd ha (by rw [h.sound.noneActive hs c hc]; nofun)
  exact engineInv_iff.mpr ⟨⟨⟨h.sound.cues, h.loop, h.requirement⟩, ⟨fun _ => rfl, fun _ => rfl⟩, nofun, nofun,
    fun c hc ha => hno hc ha, nofun⟩, fun _ => rfl⟩

theorem armBlocked_eq_false {s : State} (h : armBlocked s = false) :
    s.engine.state = .disarmed ∧ s.formatter.state = .idle ∧ s.engine.cues ≠ [] := by
  unfold armBlocked at h
  simp only [Bool.or_eq_false_iff, bne_eq_false_iff_eq, List.isEmpty_eq_false_iff] at h
  exact ⟨h.1.1, h.1.2, h.2⟩

theorem EngineInv.arm {s : State} (h : EngineInv s) (hb : armBlocked s = false) (m : ArmMode) :
    EngineInv (armEngine m s) := by
  obtain ⟨hdisarmed, hidle, _⟩ := armBlocked_eq_false hb
  exact (EngineFree.armEngine ⟨h.sound, hidle⟩ (by rw [hdisarmed]; nofun) m).inv

theorem EngineInv.engineRequest {s : State} (h : EngineInv s) (f : GpiFunction) : EngineInv (engineRequest s f) := by
  unfold Machine.engineRequest
  split
  · split
    · exact h
    next hb => exact h.arm (by simp only [Bool.or_eq_true, not_or] at hb; simpa using hb.1) _
  next _ harmed => exact h.disarm (by rw [harmed]; nofun)
  · exact h
  · exact engineInv_iff.mpr ⟨h.sound.carry, h.exclusive⟩
  all_goals exact h

theorem EngineInv.foldl_engineRequest {s : State} (h : EngineInv s) (fs : List GpiFunction) :
    EngineInv (fs.foldl Machine.engineRequest s) := by
  induction fs generalizing s with
  | nil => exact h
  | cons f fs ih => exact ih (h.engineRequest f)

/-! ## The tick (R115, R118) -/

/-- The start of an entry of the list, where none is ACTIVE. -/
theorem EngineFree.startEntry {s : State} (h : EngineFree s) (hs : s.engine.state ≠ .active) {e : CueEntry}
    (he : ∃ c ∈ s.engine.cues, c.id = e.id) : EngineFree (startEntry e s) := by
  have hnone := h.sound.noneActive hs
  have hkeeps : KeepsCue (fun c => { c with state := .active .fadeIn, degraded := 0 }) := by
    constructor <;> exact fun _ => rfl
  obtain ⟨c, hc, hid⟩ := he
  have hcue := List.mem_map_of_mem
    (f := fun c : CueEntry => if c.id = e.id then { c with state := .active .fadeIn, degraded := 0 } else c) hc
  rw [if_pos hid] at hcue
  have hplays : Playing e.id (changeCue e.id (fun c => { c with state := .active .fadeIn, degraded := 0 })
      (s.setEngine { s.engine with state := .active, cursor := .entry e.id, run := EntryRun.empty })) := by
    refine ⟨⟨⟨⟨h.sound.cues.map (hkeeps.ite e.id), h.sound.loop, h.sound.requirement⟩, ⟨nofun, nofun⟩, ?_, fun _ => ?_, ?_,
      nofun⟩, h.idle⟩, rfl, rfl⟩
    · intro id hcursor
      exact ⟨_, hcue, hid.trans (Cursor.entry.inj hcursor)⟩
    · exact ⟨_, hcue, congrArg Cursor.entry hid.symm, rfl⟩
    · intro x hx hactive
      obtain ⟨x', hx', rfl⟩ := List.mem_map.mp hx
      by_cases hid' : x'.id = e.id
      · rw [if_pos hid']
        exact ⟨rfl, congrArg Cursor.entry hid'.symm⟩
      · rw [if_neg hid', hnone x' hx'] at hactive
        contradiction
  exact Playing.produceFrame rfl (hplays.carry (raise_engine _ _) (by rw [raise_formatter]) (by rw [raise_input]))

theorem EngineFree.compareEntries {s : State} (h : EngineFree s) (hs : s.engine.state ≠ .active) {es : List CueEntry}
    (hids : es.Pairwise (fun a b => a.id ≠ b.id)) (hes : ∀ e ∈ es, ∃ c ∈ s.engine.cues, c.id = e.id) :
    EngineFree (compareEntries es s) := by
  induction es generalizing s with
  | nil => exact h
  | cons e es ih =>
    obtain ⟨he, hids⟩ := List.pairwise_cons.mp hids
    have hnext {u : State} {r : SpliceRecord} (hu : EngineFree u) (huactive : u.engine.state ≠ .active)
        (hcues : u.engine.cues = s.engine.cues) (hr : r.id = e.id) :
        EngineFree (Machine.compareEntries es (Machine.endEntry r u)) := by
      obtain ⟨hfree, hstate, hstay⟩ := hu.endEntry ((hu.sound.noneActive huactive).activeAt r.id)
      refine ih hfree hstate hids fun x hx => ?_
      obtain ⟨c, hc, hid⟩ := hes x (List.mem_cons_of_mem _ hx)
      exact ⟨c, hstay c (hcues ▸ hc) (by rw [hid, hr]; exact (he x hx).symm), hid⟩
    unfold Machine.compareEntries
    dsimp only
    split
    · exact h
    · split
      · exact hnext h hs rfl rfl
      · split
        · exact hnext h hs rfl rfl
        · split
          · exact hnext (h.refusedReport _ _) (by rw [refusedReport_engine]; exact hs) (by rw [refusedReport_engine]) rfl
          · exact h.startEntry hs (hes e List.mem_cons_self)

theorem EngineFree.activeTick {s : State} (h : EngineFree s) (hs : s.engine.state = .active) :
    EngineFree (activeTick s) := by
  unfold Machine.activeTick
  split
  · exact h
  next e he =>
    have hplays : Playing e.id s := ⟨h, hs, (cursorCue_eq_some he).1⟩
    split
    · exact h.endActive _ _ _
    · split
      · exact hplays.abortRefused rfl
      · split
        · exact hplays.abortRequested rfl
        · exact hplays.produceFrame rfl

theorem cuesFromCursor_sublist (s : State) : (cuesFromCursor s).Sublist s.engine.cues := by
  unfold cuesFromCursor
  split
  · exact List.dropWhile_sublist _
  · exact List.nil_sublist _
  · exact List.nil_sublist _

theorem EngineInv.engineTick {s : State} (h : EngineInv s) (fs : List GpiFunction) : EngineInv (engineTick fs s) := by
  have hfs := h.foldl_engineRequest fs
  unfold Machine.engineTick
  dsimp only
  split
  · exact hfs
  next harmed =>
    have hlist := cuesFromCursor_sublist (fs.foldl Machine.engineRequest s)
    exact ((hfs.free (by rw [harmed]; nofun)).compareEntries (by rw [harmed]; nofun) (hfs.sound.cues.ids.sublist hlist)
      fun e he => ⟨e, hlist.subset he, rfl⟩).inv
  next hactive => exact ((hfs.free (by rw [hactive]; nofun)).activeTick hactive).inv

/-! ## Frames written, the transport and the rewind -/

theorem EngineFree.spliceWritten {s : State} (h : EngineFree s) (w : FrameNo) : EngineFree (spliceWritten w s) := by
  have hreach {u : State} (hu : EngineFree u) : EngineFree (reachEnd u) := by
    unfold reachEnd
    split
    · exact hu
    all_goals exact hu.endActive _ _ _
  unfold Machine.spliceWritten
  split
  · exact hreach ⟨h.sound.carry, h.idle⟩
  · exact h

theorem Formatter.finish_state (f : Formatter) (e : Emission) : (f.finish e).state = f.state := by
  unfold Formatter.finish joinWritten
  dsimp only
  split <;> rfl

theorem EngineInv.frameWritten {s : State} (h : EngineInv s) : EngineInv (frameWritten s) := by
  unfold Machine.frameWritten
  split
  · exact h
  next e _ =>
    have hfinished : EngineInv (s.setFormatter (s.formatter.finish e)) := h.carry rfl (Formatter.finish_state _ _)
    dsimp only
    split
    · by_cases hs : s.engine.state = .active
      · exact ((hfinished.free (by rw [State.setFormatter_engine, hs]; nofun)).spliceWritten _).inv
      · unfold Machine.spliceWritten
        rw [if_neg (by exact hs)]
        exact hfinished
    · exact hfinished

theorem EngineInv.rewind {s : State} (h : EngineInv s) : EngineInv (rewind s) := by
  unfold Machine.rewind
  split
  next harmed =>
    have hfree := h.free (by rw [harmed.1]; nofun)
    exact EngineFree.inv ⟨h.sound.toListed.pointTo (h.sound.noneActive (by rw [harmed.1]; nofun)) fun c hc =>
      ⟨c, (List.dropWhile_sublist _).subset (placedCue_mem hc), rfl⟩, hfree.idle⟩
  · exact h

/-! ## The formatter's tick and the blocks around it -/

theorem EngineInv.formatterIdle {s t : State} (h : EngineInv s) (engine : t.engine = s.engine)
    (rate : t.input.rate = s.input.rate) (formatter : t.formatter.state = s.formatter.state ∨ t.formatter.state = .idle) :
    EngineInv t := by
  obtain hf | hf := formatter
  · exact h.carry engine hf rate
  · exact EngineFree.inv ⟨by rw [engine, rate]; exact h.sound, hf⟩

theorem formatterTick_state (s : State) :
    (formatterTick s).formatter.state = s.formatter.state ∨ (formatterTick s).formatter.state = .idle := by
  have hfinish (u : State) : (finishStopping u).formatter.state = u.formatter.state ∨
      (finishStopping u).formatter.state = .idle := by
    unfold finishStopping
    split
    · exact .inr (by rw [closeSpan_formatter]; rfl)
    · exact .inl rfl
  unfold formatterTick recordFrame
  split
  · exact .inl rfl
  all_goals
    dsimp only
    split
    next mark _ =>
      have h := hfinish (closeSpan (emit (.recording false) (captureFor (s.position.w - 2) s).pairs
        (plainSubcode s mark false) s))
      rwa [closeSpan_formatter] at h
    · have h := hfinish (refusedReport s.position.w .record (emit (.recording true) (silence (spf s.input.rate))
        (plainSubcode s .never true) s))
      rwa [refusedReport_formatter] at h
    · exact .inr (by rw [closeSpan_formatter, refusedReport_formatter]; rfl)

theorem recordingTransport_state (s : State) : (recordingTransport s).formatter.state = .idle := by
  unfold recordingTransport
  split
  · rw [closeSpan_formatter]; rfl
  next hidle =>
    split
    · rfl
    · exact not_not.mp hidle

theorem EngineInv.frameTick {s : State} (g : BitVec 4) (h : EngineInv s) : EngineInv (frameTick g s) := by
  unfold Machine.frameTick
  split
  · have hlevels : EngineInv (levelRequests g (positionTick (clearHanded (Machine.frameWritten s)))) :=
      levelRequests_keeps (fun i _ hu => EngineInv.raiseIf _ _ (EngineInv.raiseIf _ _ hu.carry)) h.frameWritten.carry
    have hcapture := hlevels.carry (t := captureTick _) (captureTick_engine _) (by rw [captureTick_formatter])
      (captureTick_rate _)
    have hquery := hcapture.carry (t := queryTick (captureTick _)) (queryTick_engine _) (by rw [queryTick_formatter])
      (by rw [queryTick_input])
    have hformatter := hquery.formatterIdle (t := formatterTick _) (formatterTick_engine _)
      (by rw [formatterTick_input]) (formatterTick_state _)
    exact (hformatter.engineTick (handedRequests (Machine.frameWritten s))).carry
  · exact h

theorem EngineInv.transportAbort {s : State} (h : EngineInv s) : EngineInv (transportAbort s) := by
  unfold Machine.transportAbort
  split
  next hactive => exact ((h.free (by rw [hactive]; nofun)).endActive _ _ _).inv
  · exact h

theorem EngineInv.transportChange {s : State} (x : Transport) (h : EngineInv s) : EngineInv (transportChange x s) := by
  unfold Machine.transportChange
  dsimp only
  have hmoved : EngineInv (if s.pins.transport = .play then leavePlay (s.setPins { s.pins with transport := x })
      else s.setPins { s.pins with transport := x }) := by
    split
    · have hstopped : EngineInv (recordingTransport (emptyBuffer (s.setPins { s.pins with transport := x }))) :=
        h.formatterIdle (by simp) (by simp [emptyBuffer]) (.inr (recordingTransport_state _))
      exact (EngineInv.raiseIf _ _ hstopped.carry).transportAbort
    · exact h.carry
  split
  · exact h
  · split
    · exact hmoved.carry
    · exact hmoved

theorem EngineInv.judgeSubcode {s : State} (x y : FrameNo) (h : EngineInv s) : EngineInv (judgeSubcode x y s) := by
  unfold Machine.judgeSubcode
  dsimp only
  have hrenumbered : EngineInv (renumber ((s.position.judge x y s.decoder.preread).w - s.position.w)
      (s.setPosition (s.position.judge x y s.decoder.preread))) := h.carry
  split
  · refine EngineInv.raiseIf _ _ ?_
    split
    · exact hrenumbered.rewind
    · exact hrenumbered
  · exact h

theorem EngineInv.rederive {s : State} (h : EngineInv s) : EngineInv (rederive s) :=
  h.carry (rederive_engine s) (by rw [rederive_formatter]) (rederive_rate s)

/-! ## The requests -/

/-- Emptying the list touches nothing else of the engine. -/
theorem emptyCues_engine (s : State) : (emptyCues s).engine = { s.engine with cues := [] } := by
  have hleft (ids : List Nat) (u : State) : ∃ cues, (ids.foldl (fun t id => removeCue id t) u).engine =
      { u.engine with cues := cues } := by
    induction ids generalizing u with
    | nil => exact ⟨u.engine.cues, rfl⟩
    | cons id ids ih => exact ih (removeCue id u)
  obtain ⟨cues, h⟩ := hleft (s.engine.cues.map (fun e => e.id)) s
  have h : (emptyCues s).engine = { s.engine with cues := cues } := h
  have hcues := emptyCues_cues s
  rw [h] at hcues ⊢
  have hcues : cues = [] := hcues
  rw [hcues]

/-- A DISARMED engine with an empty list is sound at any rate. -/
theorem EngineInv.changeRate {s : State} (h : EngineInv s) (hs : s.engine.state = .disarmed) (rate : Rate) :
    EngineInv (Machine.changeRate rate s) := by
  have hengine : (Machine.changeRate rate s).engine = { s.engine with cues := [] } := by
    unfold Machine.changeRate
    rw [rederive_engine]
    exact emptyCues_engine _
  have hcursor : s.engine.cursor = .absent := h.cursorAbsent.mpr hs
  refine engineInv_iff.mpr ⟨?_, fun _ => by rw [hengine]; exact hs⟩
  rw [hengine]
  refine ⟨⟨⟨Nat.zero_le _, .nil, .nil, .nil, nofun⟩, h.loop, h.requirement⟩, h.cursorAbsent, fun id hid => ?_,
    fun hactive => ?_, nofun, fun hp => ?_⟩
  · exact absurd (hcursor.symm.trans hid) nofun
  · exact absurd (hs.symm.trans hactive) nofun
  · exact absurd (hcursor.symm.trans hp) nofun

/-- A CUE ADD of good values puts an entry in the list that lies in its ranges. -/
theorem newCue_inRange {n id inP outP fade : Nat} {program take : Word16} (hid : 1 ≤ id ∧ id ≤ 255)
    (h : badCue n inP outP fade program.toNat = false) : (newCue id inP outP fade program take).InRange n := by
  unfold badCue Config.frameCount at h
  simp only [Bool.or_eq_false_iff, decide_eq_false_iff_not, not_lt, not_le] at h
  obtain ⟨⟨⟨⟨⟨⟨hlow, hhigh⟩, hprogram⟩, _⟩, _⟩, hout⟩, hlast⟩ := h
  exact ⟨hid.1, hid.2, hlow, hhigh, hout, hlast, hprogram⟩

theorem EngineInv.addCue {s : State} (h : EngineInv s) {inP outP fade : Nat} {program take : Word16}
    (hbad : badCue (spf s.input.rate) inP outP fade program.toNat = false) (hroom : s.engine.cues.length < 16)
    (hover : s.engine.cues.any (overlaps (spf s.input.rate) (newCue (nextId s.engine) inP outP fade program take)) = false) :
    EngineInv (s.setEngine { s.engine with
      cues := insertCue (newCue (nextId s.engine) inP outP fade program take) s.engine.cues
      lastId := some (newCue (nextId s.engine) inP outP fade program take).id }) := by
  obtain ⟨hlow, hhigh, hfresh⟩ := nextId_fresh (e := s.engine) (by omega)
  refine engineInv_iff.mpr ⟨⟨⟨h.sound.cues.insert (newCue_inRange ⟨hlow, hhigh⟩ hbad) hroom hover hfresh, h.loop,
    h.requirement⟩, h.cursorAbsent, fun id hid => ?_, fun hs => ?_, fun c hc hactive => ?_, h.passed⟩, h.exclusive⟩
  · obtain ⟨c, hc, hcid⟩ := h.cursorHeld id hid
    exact ⟨c, mem_insertCue.mpr (.inr hc), hcid⟩
  · obtain ⟨c, hc, hcursor⟩ := h.activeEntry hs
    exact ⟨c, mem_insertCue.mpr (.inr hc), hcursor⟩
  · obtain rfl | hc := mem_insertCue.mp hc
    · contradiction
    · exact h.onlyActive c hc hactive

/-- CUE REMOVE of a PENDING entry: the cursor moves only where the engine is ARMED on that entry. -/
theorem EngineInv.dropCue {s : State} (h : EngineInv s) {id : Nat} {e : CueEntry} (he : findCue id s = some e)
    (hpending : e.state = .pending) : EngineInv (dropCue id s) := by
  have hmem := List.mem_of_find?_eq_some he
  have hid : (e.id == id) = true := List.find?_some (p := fun c : CueEntry => c.id == id) he
  have hid : e.id = id := eq_of_beq hid
  have hlisted : Engine.Listed (spf s.input.rate) (removeCue id s).engine :=
    ⟨h.sound.cues.sublist List.filter_sublist, h.loop, h.requirement⟩
  have hstay {c : CueEntry} (hc : c ∈ s.engine.cues) (hne : c.id ≠ id) : c ∈ (removeCue id s).engine.cues :=
    List.mem_filter.mpr ⟨hc, by simpa using hne⟩
  unfold Machine.dropCue
  dsimp only
  split
  next hcursor =>
    have harmed : s.engine.state ≠ .active := fun hs => by
      obtain ⟨c, hc, hcursor', hactive⟩ := h.activeEntry hs
      have hce : c = e := eq_of_id h.sound.cues.ids hc hmem (by
        rw [hcursor] at hcursor'
        rw [hid]
        exact (Cursor.entry.inj hcursor').symm)
      rw [hce, CueEntry.isActive, hpending] at hactive
      contradiction
    have hfree := h.free fun hs => by
      have := h.cursorAbsent.mpr hs
      rw [hcursor] at this
      contradiction
    exact EngineFree.inv ⟨hlisted.pointTo (fun c hc => h.sound.noneActive harmed c (List.mem_of_mem_filter hc)) fun c hc =>
      ⟨c, hstay (follower_mem hc) (follower_ne h.sound.cues.ids hc), rfl⟩, hfree.idle⟩
  next hcursor =>
    refine engineInv_iff.mpr ⟨⟨hlisted, h.cursorAbsent, fun x hx => ?_, fun hs => ?_, fun c hc hactive => ?_, h.passed⟩,
      h.exclusive⟩
    · obtain ⟨c, hc, hcid⟩ := h.cursorHeld x hx
      exact ⟨c, hstay hc (fun hc' => hcursor (by rw [← hc', hcid]; exact hx)), hcid⟩
    · obtain ⟨c, hc, hcursor', hactive⟩ := h.activeEntry hs
      exact ⟨c, hstay hc (fun hc' => hcursor (by rw [← hc']; exact hcursor')), hcursor', hactive⟩
    · exact h.onlyActive c (List.mem_of_mem_filter hc) hactive

theorem engineInv_blockKept : BlockKept EngineInv where
  pending _ _ hs := hs.carry
  link _ _ hs := hs.carry
  notice _ _ hs := hs.carry
  output _ _ hs := hs.carry
  pins _ _ _ _ hs := hs.carry
  power _ _ := engineInv_iff.mpr ⟨⟨⟨⟨Nat.zero_le _, .nil, .nil, .nil, nofun⟩, nofun, show 2 ≤ 30 ∧ 30 ≤ 255 by decide⟩,
    ⟨fun _ => rfl, fun _ => rfl⟩, nofun, nofun, nofun, nofun⟩, fun _ => rfl⟩
  count _ hs := hs.carry
  pair source p s hs := by
    unfold enterPair
    split
    · exact hs
    · exact iteInduction (fun _ => hs.carry) (fun _ => hs)
  lockIndication a s hs := EngineInv.rederive (s := s.setPins _) hs.carry
  statusArrival a s hs := EngineInv.rederive (s := s.setLineage _) hs.carry
  blockArrival _ _ _ hs := hs.carry
  headFrameEnd _ _ hs := closeFrame_stages (fun c _ h => h.raise c) hs.carry (fun _ _ _ h => h.carry)
    (fun _ _ h => h.carry) (fun x y _ h => h.judgeSubcode x y) (fun _ _ h => h.carry) (fun _ _ _ h => h.carry)
    (fun _ _ h => h.carry) (fun _ _ h => EngineInv.raiseIf _ _ h.carry)
  transport x _ hs := hs.transportChange x
  tick g _ hs := hs.frameTick g
  absence _ hs := iteInduction (fun _ => hs.rederive) (fun _ => hs)
  expiry _ hs := iteInduction (fun _ => EngineInv.raiseIf _ _ hs.carry) (fun _ => hs)
  discard _ hs := EngineInv.raiseIf _ _ hs.carry
  written _ hs := hs.frameWritten
  edge i s hs := iteInduction (fun _ => EngineInv.raiseIf _ _ (EngineInv.raiseIf _ _ hs.carry)) (fun _ => hs)
  serve k hk p s hs := by
    simp only [List.mem_cons, List.not_mem_nil, or_false] at hk
    obtain rfl | rfl | rfl | rfl | rfl | rfl | rfl | rfl | rfl | rfl | rfl | rfl | rfl | rfl | rfl | rfl | rfl | rfl |
      rfl := hk <;> rw [RequestKind.serve]
    · obtain h | ⟨source, h⟩ | ⟨source, rate, _, _, hdisarmed, h⟩ := serveSourceSelect_cases p s <;> rw [h]
      · exact hs
      · exact hs.carry
      · exact EngineInv.changeRate (s := s.setInput { s.input with source := source }) hs.carry hdisarmed rate
    · obtain h | ⟨mode, w, program, take, _, hblocked, h⟩ := serveRecordStart_cases p s <;> rw [h]
      · exact hs
      · have hdisarmed : s.engine.state = .disarmed := by
          unfold recordBlocked at hblocked
          simp_all
        have hstarted : EngineInv (s.setFormatter (s.formatter.start mode program take)) :=
          engineInv_iff.mpr ⟨hs.sound, fun _ => hdisarmed⟩
        cases mode with
        | continuing => exact hstarted
        | new => exact EngineInv.raiseIf _ _ hstarted.carry
    · obtain h | h := serveRecordStop_cases p s <;> rw [h]
      · exact hs
      · refine engineInv_iff.mpr ⟨hs.sound, fun hno => hs.exclusive fun hidle => hno ?_⟩
        show s.formatter.stop.state = .idle
        rw [Formatter.stop, hidle]
        exact hidle
    · obtain h | ⟨_, _, h⟩ := serveLineageSetup_cases p s <;> rw [h] <;> exact hs.carry
    · obtain h | ⟨_, _, h⟩ := serveConcealSetup_cases p s <;> rw [h] <;> exact hs.carry
    · obtain h | h := serveQualityTotals_cases p s <;> rw [h] <;> exact hs.carry
    · obtain h | ⟨_, _, _, _, _, h⟩ := servePrereadSetup_cases p s <;> rw [h] <;> exact hs.carry
    · obtain h | ⟨_, _, _, _, h⟩ := serveGpiSetup_cases p s <;> rw [h] <;> exact hs.carry
    · obtain h | ⟨_, h⟩ := serveMarkRead_cases p s <;> rw [h] <;> exact hs.carry
    · obtain h | ⟨_, _, _, _, _, hbad, hroom, hover, _, h⟩ := serveCueAdd_cases p s <;> rw [h]
      · exact hs
      · exact hs.addCue hbad hroom hover
    · obtain h | ⟨_, _, he, hpending, h⟩ := serveCueRemove_cases p s <;> rw [h]
      · exact hs
      · exact hs.dropCue he hpending
    · obtain h | ⟨arm, hb, h⟩ := serveEditArm_cases p s <;> rw [h]
      · exact hs
      · exact hs.arm hb arm
    · obtain h | ⟨hstate, h⟩ := serveEditDisarm_cases p s <;> rw [h]
      · exact hs
      · exact hs.disarm hstate
    · obtain h | ⟨_, h⟩ := serveEditAbort_cases p s <;> rw [h]
      · exact hs
      · exact engineInv_iff.mpr ⟨hs.sound.carry, hs.exclusive⟩
    · obtain h | ⟨_, hlow, hhigh, _, h⟩ := serveEditSetup_cases p s <;> rw [h]
      · exact hs
      · exact engineInv_iff.mpr ⟨⟨⟨hs.sound.cues, hs.loop, hlow, hhigh⟩, hs.cursorAbsent, hs.cursorHeld, hs.activeEntry,
          hs.onlyActive, hs.passed⟩, hs.exclusive⟩
    · obtain h | h := serveRefusalListRead_cases p s <;> rw [h] <;> exact hs.carry
    · obtain h | ⟨_, _, h⟩ | ⟨_, _, _, _, h⟩ := serveTapeQuery_cases p s <;> rw [h] <;> exact hs.carry
    · obtain h | ⟨_, _, h⟩ := serveQueryCancel_cases p s <;> rw [h] <;> exact hs.carry
    · obtain h | ⟨_, h⟩ := serveQuerySetup_cases p s <;> rw [h] <;> exact hs.carry

/-- Settles O9: the end of an entry leaves no entry ACTIVE and the cursor on the one that followed; a start makes the one
entry ACTIVE; and the engine leaves DISARMED only while the formatter is idle. -/
theorem everyStepKeepsEngineInv : Obligations.EveryStepKeepsEngineInv := engineInv_blockKept.kept.keeps

end Sys2Proof.Machine
end

section
/-! PROOFS. The step and the resets (O1 to O5), the request rows that wait (O20), and PART RESET at service (O31). -/

namespace Sys2Proof.Machine

/-! ## The step and the resets -/

/-- Settles O1. -/
theorem stepRunsFrontCommand : Obligations.StepRunsFrontCommand :=
  ⟨fun c rest s h => by unfold step; rw [h], fun s h => by unfold step; rw [h]⟩

/-- What holds of either head holds of each. -/
theorem Head.forall {p : Head → Prop} (advance : p .advance) (confidence : p .confidence) : ∀ h, p h
  | .advance => advance
  | .confidence => confidence

/-- Settles O2: the values, read off the reset state in the order in which the statement names the blocks. -/
theorem resetHoldsTheSpecsValues : Obligations.ResetHoldsTheSpecsValues := by
  have hhistory : ∀ h, State.reset.decoder.history.get h = [] := Head.forall rfl rfl
  have hassembly : ∀ h, State.reset.decoder.assembly.get h = { tag := none, places := [], foreign := 0 } :=
    Head.forall rfl rfl
  have htotals : ∀ h, State.reset.decoder.totals.get h = { decoded := 0, lossy := 0, interpolated := 0, held := 0 } :=
    Head.forall rfl rfl
  have hchannels : ∀ h, (State.reset.conceal.chans.get h).l.h = 0 ∧ (State.reset.conceal.chans.get h).l.g = 32 ∧
      (State.reset.conceal.chans.get h).l.b = 0 ∧
      (State.reset.conceal.chans.get h).l.prev = { value := 0, valid := false, number := none } ∧
      (State.reset.conceal.chans.get h).r = (State.reset.conceal.chans.get h).l :=
    Head.forall ⟨rfl, rfl, rfl, rfl, rfl⟩ ⟨rfl, rfl, rfl, rfl, rfl⟩
  have hgpi : ∀ i : Fin 4, State.reset.position.gpi[i] =
      { function := .off, detection := .edge, depth := 1, clearOnStop := false, queue := [], overwrite := false } := by
    decide
  exact ⟨rfl, rfl, rfl, rfl, rfl, rfl, rfl, rfl, rfl, rfl, rfl, rfl, rfl, rfl, rfl, rfl, rfl, rfl, rfl, rfl, rfl, rfl, rfl,
    rfl, rfl, rfl, rfl, rfl, hhistory, hassembly, htotals, rfl, rfl, hchannels, rfl, rfl, rfl, rfl, rfl, rfl, rfl, hgpi,
    rfl, rfl, rfl, rfl, rfl, rfl, rfl, rfl, rfl, rfl, rfl, rfl, rfl, rfl, rfl, rfl, rfl, rfl, rfl, rfl, rfl, rfl, rfl, rfl,
    rfl, rfl, rfl, rfl, rfl, rfl, rfl, rfl, rfl, rfl, rfl⟩

/-- Settles O3. -/
theorem powerOnResetsEveryBlock : Obligations.PowerOnResetsEveryBlock := fun s =>
  ⟨State.powerOn s.pins s.pending, rfl, rfl, rfl, rfl, rfl, rfl, rfl, Head.forall rfl rfl, rfl, rfl, rfl, rfl, rfl, rfl, rfl,
    rfl, rfl⟩

/-- Settles O4: every command but POWER_ON_RESET starts from the settled state, and that settles nothing again. -/
theorem partResetTakesEffect : Obligations.PartResetTakesEffect := by
  refine ⟨fun s hdue => ⟨partResetEffect s, ?_, rfl, rfl, rfl, rfl, rfl, rfl, Head.forall rfl rfl, rfl, rfl, rfl, rfl, rfl, rfl,
    rfl, rfl, rfl, fun c hc => ?_⟩, fun s hno => by rw [exec_eq_act_of_not_due hno]; rfl⟩
  · rw [exec_eq_act (c := .partResetEffect) nofun, settled, if_pos hdue]
    rfl
  · rw [exec_eq_act hc, exec_eq_act hc, settled, if_pos hdue, settled_eq rfl]

/-- Settles O5: each invariant holds of the part right after power-on. -/
theorem resetMeetsEveryInvariant : Obligations.ResetMeetsEveryInvariant :=
  ⟨noticeInv_linkKept.power _ _, linkInv_linkKept.power _ _, guardInv_blockKept.power _ _, engineInv_blockKept.power _ _,
    queryInv_blockKept.power _ _, positionInv_blockKept.power _ _, inputInv_blockKept.power _ _,
    formatterInv_blockKept.power _ _, decoderInv_blockKept.power _ _⟩

/-! ## Request rows -/

/-- Settles O20. -/
theorem requestRowsWaitTheirTurn : Obligations.RequestRowsWaitTheirTurn := fun k s hd h => by
  rw [exec_row, settled_eq hd, service_waits h]

/-- Settles O31: the reply is formed with service paused, and a paused service serves nothing. -/
theorem partResetRequestPausesService : Obligations.PartResetRequestPausesService := by
  intro s r hs hk hp
  have hserve : servePartReset r.payload s = served (s.setLink { s.link with paused := true }) [] := by rw [hp]; rfl
  refine ⟨_, ?_, rfl, fun k => requestRowsWaitTheirTurn k _ hs.settled (.inl rfl)⟩
  show Host.Outcome.next (service .partReset servePartReset (settled s)) = _
  rw [service_settled_serves hs hk, serveRequest_served hserve]

end Sys2Proof.Machine
end

section
/-! PROOFS. The sample ports, the output unit and the input status (O32 to O35). -/

namespace Sys2Proof.Machine

/-! ## Pairs entering -/

/-- Settles O34. -/
theorem receiverPairEntersOrIsDiscarded : Obligations.ReceiverPairEntersOrIsDiscarded := by
  intro s p hd
  rw [exec_eq_act_of_not_due hd, act, enterPair]
  cases s.input.gathering with
  | none => simp
  | some g =>
    by_cases hl : s.pins.locked = true
    · simp only [hl, and_true, if_true]
      rfl
    · simp [hl]

/-! ## Output boundaries -/

theorem boundaryDue_iff (s : State) : boundaryDue s = true ↔
    ((s.pins.transport = .play ∨ s.output.unstarted = true) ∧ s.output.tickWaiting = true) ∨
      ((s.pins.transport ≠ .play ∨ s.output.freeRun = true) ∧ spf s.input.rate ≤ s.output.clocks) := by
  simp [boundaryDue]

/-- The formatter is at work exactly while RECORDING or STOPPING. -/
theorem formatter_not_idle_iff (x : FormatterState) : x ≠ .idle ↔ x = .recording ∨ x = .stopping := by
  cases x <;> simp

theorem chosenFrame_eq (s : State) : chosenFrame s =
    if s.output.unstarted = true then none
    else match s.output.monitor with
      | .input => s.output.fresh.input
      | .advance => s.output.fresh.advance
      | .confidence => s.output.fresh.confidence
      | .auto =>
        if s.engine.state = .active then s.output.fresh.splice
        else if s.formatter.state = .recording ∨ s.formatter.state = .stopping then s.output.fresh.input
        else s.output.fresh.advance := by
  unfold chosenFrame effectiveFrame
  simp only [formatter_not_idle_iff] <;> rfl

theorem statusFor_eq (m : Mark) (rate : Rate) :
    statusFor m rate = { format := if m = .free then .pro else .consumer, copy := m, rate := rate } := by
  cases m <;> rfl

/-- Settles O33. -/
theorem boundaryChoosesTheFrame : Obligations.BoundaryChoosesTheFrame := by
  intro s hd due chosen mark
  have hdue : due ↔ boundaryDue s = true := (boundaryDue_iff s).symm
  have hchosen : chosenFrame s = chosen := chosenFrame_eq s
  clear_value due chosen
  rw [exec_eq_act_of_not_due hd, act, hdue]
  refine ⟨fun hno => by rw [boundaryIfDue, if_neg hno], fun hyes => ?_⟩
  rw [boundaryIfDue, if_pos hyes, takeBoundary, hchosen]
  cases chosen with
  | none => rw [statusFor_eq]; rfl
  | some f => simp only [statusFor_eq]; rfl

/-! ## The sample clock -/

/-- A pair enters by a change of the input unit alone, at the same rate. -/
theorem enterPair_eq (source : Source) (p : Pair) (s : State) : ∃ inp : InputUnit,
    enterPair source p s = s.setInput inp ∧ inp.rate = s.input.rate ∧
    inp = match s.input.gathering with
      | some g =>
        if g.source = source ∧ s.pins.transport = .play then
          { s.input with gathering := some { g with
              pairs := if g.pairs.length < spf s.input.rate then g.pairs ++ [p] else g.pairs
              received := min (g.received + 1) 65535 } }
        else s.input
      | none => s.input := by
  unfold enterPair
  cases s.input.gathering with
  | none => exact ⟨_, rfl, rfl, rfl⟩
  | some g =>
    dsimp only
    split
    · exact ⟨_, rfl, rfl, rfl⟩
    · exact ⟨_, rfl, rfl, rfl⟩

/-- A boundary changes the output unit alone. -/
theorem boundaryIfDue_eq (s : State) : boundaryIfDue s = s.setOutput (boundaryIfDue s).output := by
  unfold boundaryIfDue
  split <;> rfl

/-- What a boundary makes of the output unit, where the input unit's rate, the pins, the output unit, and the engine's and
formatter's states agree. -/
theorem boundaryIfDue_output {s t : State} (rate : t.input.rate = s.input.rate) (pins : t.pins = s.pins)
    (output : t.output = s.output) (engine : t.engine = s.engine) (formatter : t.formatter = s.formatter) :
    (boundaryIfDue t).output = (boundaryIfDue s).output := by
  have hdue : boundaryDue t = boundaryDue s := by unfold boundaryDue; rw [rate, pins, output]
  have hchosen : chosenFrame t = chosenFrame s := by
    unfold chosenFrame effectiveFrame
    rw [output, engine, formatter]
  unfold boundaryIfDue takeBoundary
  rw [hdue, hchosen, rate, output]
  split
  · rfl
  · exact output

theorem boundaryIfDue_monitor (s : State) : (boundaryIfDue s).output.monitor = s.output.monitor := by
  unfold boundaryIfDue
  split <;> rfl

theorem pairAt_eq (ps : List Pair) (n : Nat) : pairAt ps n = (ps[n]?).getD ((ps.getLast?).getD Pair.zero) := by
  unfold pairAt
  cases ps[n]? <;> rfl

/-- The first pair of a frame, or zero where it has none. -/
theorem pairAt_zero (ps : List Pair) : pairAt ps 0 = (ps[0]?).getD Pair.zero := by
  cases ps <;> rfl

/-- The output unit once the next pair has gone out, at spf `n`. -/
def OutputUnit.played (o : OutputUnit) (n : Nat) : OutputUnit :=
  { o with
    port := pairAt o.playing o.playPos
    playPos := satInc o.playing.length o.playPos
    clocks := satInc n o.clocks
    tickWaiting := false }

theorem playPair_eq (s : State) : playPair s = s.setOutput (s.output.played (spf s.input.rate)) := rfl

/-- The pair and the count touch nothing that a boundary looks at. -/
theorem sampleClock_eq {p : Pair} {s : State} {inp : InputUnit} (henter : enterPair .converter p s = s.setInput inp)
    (hrate : inp.rate = s.input.rate) : sampleClock p s =
    ((s.setInput inp).setSampleCount (min (s.sampleCount + 1) 65535)).setOutput
      ((boundaryIfDue s).output.played (spf s.input.rate)) := by
  have hboundary : (boundaryIfDue ((s.setInput inp).setSampleCount (satInc Config.max16 s.sampleCount))).output =
      (boundaryIfDue s).output := boundaryIfDue_output hrate rfl rfl rfl rfl
  unfold sampleClock
  dsimp only
  rw [henter, State.setInput_sampleCount, boundaryIfDue_eq, hboundary, playPair_eq, ← hrate]
  rfl

/-- Settles O32: with no boundary due the frame plays on; at one it plays from its first pair. -/
theorem sampleClockPlaysTheNextPair : Obligations.SampleClockPlaysTheNextPair := by
  intro s p hd due
  have hdue : due ↔ boundaryDue s = true := (boundaryDue_iff s).symm
  clear_value due
  obtain ⟨inp, henter, hrate, hinp⟩ := enterPair_eq .converter p s
  refine ⟨inp, (boundaryIfDue s).output.played (spf s.input.rate),
    by rw [exec_eq_act_of_not_due hd, act, sampleClock_eq henter hrate], hinp, boundaryIfDue_monitor s, rfl, fun hno => ?_,
    fun hyes => ⟨boundaryIfDue s, exec_eq_act_of_not_due hd _, ?_⟩⟩
  · rw [boundaryIfDue, if_neg (hdue.not.mp hno), OutputUnit.played, pairAt_eq]
    rfl
  · have hpos : (boundaryIfDue s).output.playPos = 0 ∧ (boundaryIfDue s).output.clocks = 0 := by
      rw [boundaryIfDue, if_pos (hdue.mp hyes)]
      exact ⟨rfl, rfl⟩
    have hone : satInc (spf s.input.rate) 0 = 1 := Nat.min_eq_left (spf_pos _)
    rw [OutputUnit.played, hpos.1, hpos.2, hone, pairAt_zero]
    rfl

/-! ## The input status -/

/-- The input status follows the class `cls`: the class, the interval status, what the frame in gathering has seen. -/
def follow (cls : InputClass) (s : State) : State :=
  (s.setLineage { s.lineage with
    cls := cls
    interval := s.lineage.interval.map (fun m => stricter m (effective cls)) }).setInput
      { s.input with gathering := s.input.gathering.map (fun g => g.see cls) }

/-- A re-deriving follows the class that now holds, and raises the change exactly when the class differs. -/
theorem rederive_eq (s : State) : rederive s =
    if classNow s = s.lineage.cls then follow (classNow s) s else raise .inputStatusChange (follow (classNow s) s) := by
  unfold rederive raiseIf
  by_cases h : classNow s = s.lineage.cls
  · rw [if_pos h, if_neg (by simpa using h)]
    rfl
  · rw [if_neg h, if_pos (by simpa using h)]
    rfl

theorem rateMatches_iff (a : ArrivalRate) (rate : Rate) : rateMatches a rate = true ↔
    (a = .rate48 ∧ rate = .rate48) ∨ (a = .rate44 ∧ rate = .rate44) := by
  cases a <;> cases rate <;> simp [rateMatches]

theorem deriveClass_eq (arrival : Option StatusArrival) (absence : Nat) (locked : Bool) (rate : Rate) :
    deriveClass arrival absence locked rate = match arrival with
      | none => .absent
      | some a =>
        if 6 ≤ absence ∨ locked = false ∨
            ¬((a.rate = .rate48 ∧ rate = .rate48) ∨ (a.rate = .rate44 ∧ rate = .rate44)) then .absent
        else if a.format = .pro then .pro
        else .consumer a.copy := by
  cases arrival with
  | none => rfl
  | some a =>
    have habsent : (decide (Config.absenceLimit ≤ absence) || !locked || !rateMatches a.rate rate) = true ↔
        6 ≤ absence ∨ locked = false ∨
          ¬((a.rate = .rate48 ∧ rate = .rate48) ∨ (a.rate = .rate44 ∧ rate = .rate44)) := by
      rw [← rateMatches_iff, Bool.or_eq_true, Bool.or_eq_true, decide_eq_true_eq]
      simp [Config.absenceLimit, or_assoc]
    simp only [deriveClass]
    by_cases h : 6 ≤ absence ∨ locked = false ∨
        ¬((a.rate = .rate48 ∧ rate = .rate48) ∨ (a.rate = .rate44 ∧ rate = .rate44))
    · rw [if_pos (habsent.mpr h), if_pos h]
    · rw [if_neg (habsent.not.mpr h), if_neg h]
      cases a.format <;> rfl

/-- At the absence limit every class is ABSENT. -/
theorem classNow_of_limit {s : State} (h : 6 ≤ s.lineage.absence) : classNow s = .absent := by
  unfold classNow
  rw [deriveClass_eq]
  split
  · rfl
  · rw [if_pos (.inl h)]

/-- Settles O35: each event sets its own field, and re-derives the class from what then stands. -/
theorem inputStatusFollowsItsEvents : Obligations.InputStatusFollowsItsEvents := by
  unfold Obligations.InputStatusFollowsItsEvents
  intro follows derive
  have hfollows (cls : InputClass) (s : State) : follows cls s =
      if cls = s.lineage.cls then follow cls s else raise .inputStatusChange (follow cls s) := by
    cases cls <;> rfl
  have hderive (s : State) : classNow s = derive s.lineage.arrival s.lineage.absence s.pins.locked s.input.rate :=
    deriveClass_eq ..
  have hrederive (s : State) : rederive s = follows (classNow s) s := by rw [rederive_eq, hfollows]
  clear_value follows derive
  refine ⟨fun s a hd => ?_, fun s active hd => ?_, fun s hd => ?_⟩
  · rw [exec_eq_act_of_not_due hd, act, statusArrival, hrederive, hderive]
    rfl
  · rw [exec_eq_act_of_not_due hd, act, lockIndication, hrederive, hderive]
    rfl
  · rw [exec_eq_act_of_not_due hd, act, absenceExpiry]
    by_cases hlimit : 6 ≤ s.lineage.absence
    · rw [if_pos hlimit, if_pos (by exact hlimit), hrederive, classNow_of_limit hlimit]
    · rw [if_neg hlimit, if_neg (by exact hlimit)]

end Sys2Proof.Machine
end

section
/-! PROOFS. The receivers (O21, O25): a frame taken byte by byte; and the routing of whole frames (O22, O23). -/

namespace Sys2Proof.Machine

/-! ## A receiver, byte by byte (R163) -/

section Receiver
variable {side : Side} {s : State}

@[simp] theorem setReceiver_resetDue (r : Receiver) : (setReceiver side r s).link.resetDue = s.link.resetDue := by
  cases side <;> rfl

@[simp] theorem setReceiver_receiver (r : Receiver) : (setReceiver side r s).link.receiver side = r := by
  cases side <;> rfl

@[simp] theorem setReceiver_setReceiver (r r' : Receiver) :
    setReceiver side r (setReceiver side r' s) = setReceiver side r s := by
  cases side <;> rfl

theorem setReceiver_self : setReceiver side (s.link.receiver side) s = s := by cases side <;> rfl

variable (hd : s.link.resetDue = false)
include hd

/-- One byte, with no PART RESET due. -/
theorem takeByte_eq (b : Byte) : takeByte side s b =
    onReceived side (receive (s.link.receiver side) b).2 (setReceiver side (receive (s.link.receiver side) b).1 s) := by
  unfold takeByte
  rw [settled_eq hd]

/-- A byte that leaves a hunting receiver hunting changes nothing. -/
theorem takeByte_hunting (hr : s.link.receiver side = .hunting) {b : Byte} (hb : b ≠ 0x5A) : takeByte side s b = s := by
  rw [takeByte_eq hd, hr]
  simp only [receive, if_neg hb, onReceived]
  rw [← hr, setReceiver_self]

/-- LEAD opens the gathering. -/
theorem takeBytes_lead (hr : s.link.receiver side = .hunting) (rest : List Byte) :
    takeBytes side (0x5A :: rest) s = takeBytes side rest (setReceiver side (.gathering []) s) := by
  show takeBytes side rest (takeByte side s 0x5A) = _
  rw [takeByte_eq hd, hr]
  rfl

/-- A byte that neither breaks the frame nor completes it is gathered. -/
theorem takeBytes_gather {bs : List Byte} {b : Byte} (hbroken : isBroken (bs ++ [b]) = false)
    (hopen : isGathered (bs ++ [b]) = false) (rest : List Byte) :
    takeBytes side (b :: rest) (setReceiver side (.gathering bs) s) =
      takeBytes side rest (setReceiver side (.gathering (bs ++ [b])) s) := by
  show takeBytes side rest (takeByte side _ b) = _
  rw [takeByte_eq (by rw [setReceiver_resetDue]; exact hd), setReceiver_receiver]
  simp [receive, hbroken, hopen, onReceived]

/-- A byte that breaks the frame sends the receiver hunting, with BAD_FRAME. -/
theorem takeBytes_broken {bs : List Byte} {b : Byte} (hbroken : isBroken (bs ++ [b]) = true) :
    takeBytes side [b] (setReceiver side (.gathering bs) s) =
      setFlags (flagBadFrame ||| sideFlag side) (setReceiver side .hunting s) := by
  show takeByte side _ b = _
  rw [takeByte_eq (by rw [setReceiver_resetDue]; exact hd), setReceiver_receiver]
  simp [receive, hbroken, onReceived]

/-- The byte that completes the frame has it judged. -/
theorem takeBytes_complete {bs : List Byte} {b : Byte} (hbroken : isBroken (bs ++ [b]) = false)
    (hfull : isGathered (bs ++ [b]) = true) :
    takeBytes side [b] (setReceiver side (.gathering bs) s) =
      onReceived side (judgeFrame (bs ++ [b])) (setReceiver side .hunting s) := by
  show takeByte side _ b = _
  rw [takeByte_eq (by rw [setReceiver_resetDue]; exact hd), setReceiver_receiver]
  simp [receive, hbroken, hfull]

/-- ADDRESS, KIND, TAG and LENGTH are gathered when ADDRESS and LENGTH are in range. -/
theorem takeBytes_header {a k t len : Byte} (ha : a.toNat ≤ 31) (hlen : len.toNat ≤ 240) (rest : List Byte) :
    takeBytes side (a :: k :: t :: len :: rest) (setReceiver side (.gathering []) s) =
      takeBytes side rest (setReceiver side (.gathering [a, k, t, len]) s) := by
  rw [takeBytes_gather hd (by simpa [isBroken] using ha) rfl, takeBytes_gather hd rfl rfl, takeBytes_gather hd rfl rfl,
    takeBytes_gather hd (by simpa [isBroken] using hlen) (by simp [isGathered])]
  rfl

/-- The payload is gathered after them. -/
theorem takeBytes_payload {a k t len : Byte} (gathered todo rest : List Byte)
    (hlen : gathered.length + todo.length ≤ len.toNat) :
    takeBytes side (todo ++ rest) (setReceiver side (.gathering (a :: k :: t :: len :: gathered)) s) =
      takeBytes side rest (setReceiver side (.gathering (a :: k :: t :: len :: (gathered ++ todo))) s) := by
  induction todo generalizing gathered with
  | nil => simp
  | cons b todo ih =>
    have hshort : gathered.length + 1 ≤ len.toNat := by simp only [List.length_cons] at hlen; omega
    have hbroken : isBroken ((a :: k :: t :: len :: gathered) ++ [b]) = false := by cases gathered <;> rfl
    have hopen : isGathered ((a :: k :: t :: len :: gathered) ++ [b]) = false := by
      simp only [List.cons_append, isGathered, List.length_append, List.length_singleton, beq_eq_false_iff_ne, ne_eq]
      omega
    rw [List.cons_append, takeBytes_gather hd hbroken hopen]
    have := ih (gathered ++ [b]) (by simp only [List.length_append, List.length_cons, List.length_nil] at hlen ⊢; omega)
    simpa using this

/-- A frame of ADDRESS and LENGTH in range, taken byte by byte by a hunting receiver, is judged by its CHECK. -/
theorem takeBytes_wire (hr : s.link.receiver side = .hunting) {f : Frame} (ha : f.address.toNat ≤ 31)
    (hlen : f.payload.length ≤ 240) : takeBytes side (wireBytes f) s =
      onReceived side (if crc8 (coveredBytes f.address f.kind f.tag f.payload) = f.check then .whole f else .badCheck) s := by
  have hlength : (BitVec.ofNat 8 f.payload.length).toNat = f.payload.length := by
    rw [BitVec.toNat_ofNat]
    exact Nat.mod_eq_of_lt (by omega)
  have hbroken : isBroken ((f.address :: f.kind :: f.tag :: BitVec.ofNat 8 f.payload.length :: f.payload) ++ [f.check])
      = false := by cases f.payload <;> rfl
  have hfull : isGathered ((f.address :: f.kind :: f.tag :: BitVec.ofNat 8 f.payload.length :: f.payload) ++ [f.check])
      = true := by
    simp only [List.cons_append, isGathered, List.length_append, List.length_singleton, hlength, beq_self_eq_true]
  have hjudge : judgeFrame ((f.address :: f.kind :: f.tag :: BitVec.ofNat 8 f.payload.length :: f.payload) ++ [f.check])
      = if crc8 (coveredBytes f.address f.kind f.tag f.payload) = f.check then .whole f else .badCheck := by
    have hdrop : ((f.address :: f.kind :: f.tag :: BitVec.ofNat 8 f.payload.length :: f.payload) ++ [f.check]).dropLast
        = coveredBytes f.address f.kind f.tag f.payload := by rw [List.dropLast_concat]; rfl
    show (if crc8 ((f.address :: f.kind :: f.tag :: BitVec.ofNat 8 f.payload.length :: f.payload) ++ [f.check]).dropLast =
        ((f.payload ++ [f.check]).getLast?).getD 0 then
        Received.whole { address := f.address, kind := f.kind, tag := f.tag, payload := (f.payload ++ [f.check]).dropLast,
                         check := ((f.payload ++ [f.check]).getLast?).getD 0 } else .badCheck) = _
    rw [hdrop, List.getLast?_concat, List.dropLast_concat]
    rfl
  have hpayload := takeBytes_payload (side := side) hd (a := f.address) (k := f.kind) (t := f.tag)
    (len := BitVec.ofNat 8 f.payload.length) [] f.payload [f.check] (by simp [hlength])
  show takeBytes side (0x5A :: f.address :: f.kind :: f.tag :: BitVec.ofNat 8 f.payload.length :: (f.payload ++ [f.check])) s = _
  rw [takeBytes_lead hd hr, takeBytes_header hd ha (by omega), hpayload, List.nil_append,
    takeBytes_complete hd hbroken hfull, hjudge, ← hr, setReceiver_self]

/-- A whole frame is what the receiver brings. -/
theorem takeBytes_whole (hr : s.link.receiver side = .hunting) {f : Frame} (hf : f.Whole) :
    takeBytes side (wireBytes f) s = onReceived side (.whole f) s := by
  rw [takeBytes_wire hd hr hf.address hf.length, if_pos hf.check.symm]

theorem exec_upstream_whole (hr : s.link.upReceiver = .hunting) {f : Frame} (hf : f.Whole) :
    exec (.frameReceivedUpstream (wireBytes f)) s = .next (fromUpstream f s) := by
  rw [exec_eq_act_of_not_due hd, act, takeBytes_whole (side := .up) hd hr hf]
  rfl

end Receiver

/-- Settles O21. -/
theorem downstreamFrameRoundTrip : Obligations.DownstreamFrameRoundTrip := by
  intro s f hd hr hf
  rw [exec_eq_act_of_not_due hd, act, takeBytes_whole (side := .down) hd hr hf]
  show Host.Outcome.next (fromDownstream f s) = _
  rw [fromDownstream]
  by_cases hroom : s.link.forward.length < 4
  · rw [if_neg (by simpa [Config.forwardCap] using hroom), if_pos hroom]
  · rw [if_pos (by simpa [Config.forwardCap] using hroom), if_neg hroom]

/-- Bytes that are not LEAD leave a hunting receiver hunting. -/
theorem takeBytes_hunting {side : Side} {s : State} (hd : s.link.resetDue = false) (hr : s.link.receiver side = .hunting)
    {bytes : List Byte} (h : ∀ b ∈ bytes, b ≠ 0x5A) : takeBytes side bytes s = s := by
  induction bytes with
  | nil => rfl
  | cons b bytes ih =>
    show takeBytes side bytes (takeByte side s b) = s
    rw [takeByte_hunting hd hr (h b List.mem_cons_self)]
    exact ih fun x hx => h x (List.mem_cons_of_mem _ hx)

/-- A flag that is set already takes no event. -/
theorem or_eq_left_iff (x y : BitVec 8) : x ||| y = x ↔ x &&& y = y := by
  constructor <;> intro h <;> apply BitVec.eq_of_getLsbD_eq <;> intro i hi <;>
    have hbit := congrArg (fun v : BitVec 8 => v.getLsbD i) h <;>
    simp only [BitVec.getLsbD_or, BitVec.getLsbD_and] at hbit ⊢ <;>
    cases hx : x.getLsbD i <;> cases hy : y.getLsbD i <;> simp_all

/-- Settles O25: what breaks a frame, what fails its CHECK, and what a hunting receiver passes over. -/
theorem droppedFramesSetFlags : Obligations.DroppedFramesSetFlags := by
  refine ⟨fun s side a hd hr ha => ?_, fun s side a k t len hd hr ha hlen => ?_, fun s side hd => ?_,
    fun s side f hd hr ha hlen hcheck => ?_, fun s side bytes hd hr hb => ?_, fun s mask => ⟨fun h => ?_, fun h => ?_⟩⟩
  · rw [exec_eq_act_of_not_due hd, act, takeBytes_lead hd hr,
      takeBytes_broken hd (by simpa [isBroken] using ha), ← hr, setReceiver_self]
  · rw [exec_eq_act_of_not_due hd, act, takeBytes_lead hd hr, takeBytes_gather hd (by simpa [isBroken] using ha) rfl,
      takeBytes_gather hd rfl rfl, takeBytes_gather hd rfl rfl,
      takeBytes_broken hd (by simpa [isBroken] using hlen), ← hr, setReceiver_self]
  · rw [exec_eq_act_of_not_due hd, act, byteGap]
    cases s.link.receiver side <;> rfl
  · have htaken : takeBytes side (wireBytes f) s = setFlags (flagBadCheck ||| sideFlag side) s := by
      rw [takeBytes_wire hd hr ha hlen, if_neg (Ne.symm hcheck)]
      rfl
    cases side <;> rw [exec_eq_act_of_not_due hd, act, htaken]
  · cases side <;> rw [exec_eq_act_of_not_due hd, act, takeBytes_hunting hd hr hb]
  · rw [setFlags, if_pos ((or_eq_left_iff _ _).mpr h)]
  · rw [setFlags, if_neg ((or_eq_left_iff _ _).not.mpr h)]

/-! ## Whole frames from upstream (R165, R168) -/

theorem hasReplyKind_eq_false_iff (k : Byte) : hasReplyKind k = false ↔ k.toNat = 0 ∨ 0x7F ≤ k.toNat := by
  simp only [hasReplyKind, Bool.and_eq_false_iff, decide_eq_false_iff_not]
  omega

theorem linkReply_eq (st : Status) (flags : BitVec 8) (f : Frame) (s : State) : linkReply st flags f s =
    if s.link.hold.length < 2 then
      setFlags flags (s.setLink { s.link with
        hold := s.link.hold ++ [.reply]
        own := s.link.own ++ [{ kind := .linkReply,
                                frame := makeFrame (partAddress s.link) (f.kind + 0x80) f.tag [st.code] }] })
    else setFlags (flags ||| flagBadFrame ||| flagUp) s := by
  unfold linkReply
  by_cases hroom : s.link.hold.length < 2
  · rw [if_neg (by simpa [Config.holdCap] using hroom), if_pos hroom]
    rfl
  · rw [if_pos (show Config.holdCap ≤ _ from not_lt.mp hroom), if_neg hroom]

/-- A frame at the part's own address is taken. -/
theorem fromUpstream_own {s : State} {f : Frame} (h : match s.link.assigned with
      | none => f.address = 0
      | some a => f.address.toNat = a.a ∧ 1 ≤ a.a ∧ a.a ≤ 30) : fromUpstream f s = takeFrame f s := by
  unfold fromUpstream routeAssigned
  cases hs : s.link.assigned with
  | none =>
    rw [hs] at h
    have h : f.address = 0 := h
    simp [h]
  | some a =>
    rw [hs] at h
    obtain ⟨ha, hlow, hhigh⟩ := h
    rw [if_neg (by omega)]
    dsimp only
    rw [if_neg (by omega), if_pos ha]

/-- Settles O22. -/
theorem upstreamRequestIsJudged : Obligations.UpstreamRequestIsJudged := by
  intro s f hd hr hf ha answer
  have hanswer (st : Status) (flags : BitVec 8) : linkReply st flags f s = answer st.code flags := linkReply_eq st flags f s
  clear_value answer
  rw [exec_upstream_whole hd hr hf, fromUpstream_own ha, takeFrame]
  congr 1
  by_cases hkind : f.kind.toNat = 0 ∨ 0x7F ≤ f.kind.toNat
  · rw [if_pos hkind, if_pos (by simpa [hasReplyKind_eq_false_iff] using hkind)]
  · rw [if_neg hkind, if_neg (by simpa [hasReplyKind_eq_false_iff] using hkind)]
    cases hk : kindOfByte f.kind with
    | none => exact hanswer _ _
    | some k =>
      dsimp only
      split
      · exact hanswer _ _
      · rw [hanswer]
        rfl

/-- A frame for another part, assigned or not: NO_DECK, or below. -/
theorem fromUpstream_other {s : State} {f : Frame} (hf : f.address.toNat ≤ 30) (h : match s.link.assigned with
      | none => f.address.toNat ≠ 0
      | some a => f.address.toNat ≠ a.a) (below : Prop)
    (hbelow : below ↔ match s.link.assigned with
      | none => False
      | some a => f.address.toNat = 0 ∨ (a.a < f.address.toNat ∧ f.address.toNat ≤ a.last)) :
    (below → fromUpstream f s = forwardAddressed f s) ∧ (¬ below → fromUpstream f s = noDeck f s) := by
  unfold fromUpstream routeAssigned
  rw [if_neg (by omega), hbelow]
  cases hs : s.link.assigned with
  | none =>
    rw [hs] at h
    exact ⟨nofun, fun _ => if_neg h⟩
  | some a =>
    rw [hs] at h
    have h : f.address.toNat ≠ a.a := h
    refine ⟨fun hb => ?_, fun hb => ?_⟩
    · obtain hzero | habove := hb
      · exact if_pos hzero
      · dsimp only
        rw [if_neg (by omega), if_neg h, if_pos habove]
    · dsimp only at hb ⊢
      obtain ⟨hzero, habove⟩ := not_or.mp hb
      rw [if_neg hzero, if_neg h, if_neg habove]

theorem noDeck_eq (f : Frame) (s : State) : noDeck f s =
    if f.kind.toNat = 0 ∨ 0x7F ≤ f.kind.toNat then setFlags (flagBadKind ||| flagUp) s
    else if s.link.hold.length < 2 then s.setLink { s.link with
      hold := s.link.hold ++ [.reply]
      own := s.link.own ++ [{ kind := .linkReply,
                              frame := makeFrame (partAddress s.link) (f.kind + 0x80) f.tag [11] }] }
    else setFlags (flagBadFrame ||| flagUp) s := by
  unfold noDeck
  by_cases hkind : f.kind.toNat = 0 ∨ 0x7F ≤ f.kind.toNat
  · rw [if_pos hkind, if_neg (by simpa [← hasReplyKind_eq_false_iff] using hkind)]
  · have hreply : hasReplyKind f.kind = true := by simpa [← hasReplyKind_eq_false_iff] using hkind
    rw [if_neg hkind, if_pos hreply, linkReply_eq]
    split
    · rw [setFlags, if_pos (by simp)]
      rfl
    · rfl

/-- Settles O23. -/
theorem upstreamFrameIsRouted : Obligations.UpstreamFrameIsRouted := by
  intro s f hd hr hf ha hother below
  obtain ⟨hdown, hno⟩ := fromUpstream_other ha hother below Iff.rfl
  clear_value below
  rw [exec_upstream_whole hd hr hf]
  refine ⟨fun ⟨hb, hp⟩ => ?_, fun hb => ?_⟩
  · rw [hdown hb, forwardAddressed, if_pos hp]
    by_cases hroom : s.link.hold.length < 2
    · rw [if_neg (by simpa [Config.holdCap] using hroom), if_pos hroom]
    · rw [if_pos (show Config.holdCap ≤ _ from not_lt.mp hroom), if_neg hroom]
  · have hnone : fromUpstream f s = noDeck f s := by
      by_cases hb' : below
      · rw [hdown hb', forwardAddressed, if_neg fun hp => hb ⟨hb', hp⟩]
      · exact hno hb'
    rw [hnone, noDeck_eq]

end Sys2Proof.Machine
end

section
/-! PROOFS. The arbiter, the two senders and the fall of PRESENT (O26 to O29). -/

namespace Sys2Proof.Machine

/-! ## The arbiter (R170) -/

/-- The arbiter starts a frame of the side chosen, where the sender is between frames and UHLDI allows. -/
theorem exec_arbiterChoice {s : State} (hd : s.link.resetDue = false) (hidle : s.link.upSending = none)
    (hhold : s.pins.upHold = false) {side : ArbSide} (hside : arbChoice s.link = some side) :
    exec .arbiterChoice s = .next (s.setLink (s.link.startUp side)) := by
  rw [exec_eq_act_of_not_due hd, act, arbitrate, if_pos ⟨hidle, hhold⟩, hside]

/-- A run count below S, or at it, after a choice with both sides waiting. -/
theorem runCount_startUp_le {l : LinkUnit} {side : ArbSide} (hside : arbChoice l = some side) (hown : l.own ≠ [])
    (hforward : l.forward ≠ []) (hslice : 1 ≤ l.slice) :
    (l.startUp side).runCount ≤ l.slice := by
  obtain ⟨o, os, ho⟩ := List.exists_cons_of_ne_nil hown
  obtain ⟨f, fs, hf⟩ := List.exists_cons_of_ne_nil hforward
  have hcount : (l.startUp side).runCount = (l.countRun side).runCount := by
    unfold LinkUnit.startUp
    cases side <;> simp only [ho, hf]
  rw [hcount]
  unfold LinkUnit.countRun
  split
  next hsame =>
    have hbelow : l.runCount < l.slice := by
      by_contra hfull
      simp only [arbChoice, ho, hf, if_neg hfull, Option.some.injEq] at hside
      subst hsame
      cases h : l.lastSide <;> simp [h] at hside
    show satInc 8 l.runCount ≤ l.slice
    unfold satInc
    omega
  · exact hslice

/-- The own side's oldest frame starts, and leaves the side. -/
theorem startUp_own {l : LinkUnit} {o : OwnFrame} {rest : List OwnFrame} (h : l.own = o :: rest) :
    l.startUp .own = { l with
      own := rest
      upSending := some { frame := .own o, orphan := false }
      lastSide := .own
      runCount := if l.lastSide = .own then min (l.runCount + 1) 8 else 1 } := by
  cases l with
  | mk assigned requests hold forward own lastSide =>
    obtain rfl : own = o :: rest := h
    cases lastSide <;> rfl

/-- The forward buffer's oldest frame starts, and keeps its place. -/
theorem startUp_forward {l : LinkUnit} {f : Frame} {rest : List Frame} (h : l.forward = f :: rest) :
    l.startUp .forward = { l with
      upSending := some { frame := .forward f, orphan := false }
      lastSide := .forward
      runCount := if l.lastSide = .forward then min (l.runCount + 1) 8 else 1 } := by
  cases l with
  | mk assigned requests hold forward own lastSide =>
    obtain rfl : forward = f :: rest := h
    cases lastSide <;> cases own <;> rfl

/-- Settles O26: the choice is the arbiter's table, and its start follows the side chosen. -/
theorem arbiterSharesTheLine : Obligations.ArbiterSharesTheLine := by
  refine ⟨fun s hd h => ?_, fun s o rest hd hidle hhold hown h => ?_, fun s f rest hd hidle hhold hforward h => ?_,
    fun s t hd hown hforward hslice hrun ht => ?_⟩
  · rw [exec_eq_act_of_not_due hd, act, arbitrate]
    split
    next hfree =>
      obtain h | h | ⟨ho, hf⟩ := h
      · exact absurd hfree.1 h
      · exact absurd (h.symm.trans hfree.2) nofun
      · rw [arbChoice, ho, hf]
    · rfl
  · have hside : arbChoice s.link = some .own := by
      unfold arbChoice
      rw [hown]
      cases hf : s.link.forward with
      | nil => rfl
      | cons f fs =>
        obtain h | ⟨hlast, hbelow⟩ | ⟨hlast, hfull⟩ := h
        · exact absurd (hf.symm.trans h) nofun
        · simp only [hlast, if_pos hbelow]
        · simp only [hlast, if_neg (not_lt.mpr hfull)]
    rw [exec_arbiterChoice hd hidle hhold hside, startUp_own hown]
  · have hside : arbChoice s.link = some .forward := by
      unfold arbChoice
      rw [hforward]
      cases ho : s.link.own with
      | nil => rfl
      | cons o os =>
        obtain h | ⟨hlast, hbelow⟩ | ⟨hlast, hfull⟩ := h
        · exact absurd (ho.symm.trans h) nofun
        · simp only [hlast, if_pos hbelow]
        · simp only [hlast, if_neg (not_lt.mpr hfull)]
    rw [exec_arbiterChoice hd hidle hhold hside, startUp_forward hforward]
  · rw [exec_eq_act_of_not_due hd, act, arbitrate] at ht
    split at ht
    · cases hside : arbChoice s.link with
      | none =>
        rw [hside] at ht
        obtain rfl : s = t := by injection ht
        exact hrun
      | some side =>
        rw [hside] at ht
        obtain rfl : s.setLink (s.link.startUp side) = t := by injection ht
        exact runCount_startUp_le hside hown hforward hslice
    · obtain rfl : s = t := by injection ht
      exact hrun

/-! ## The senders (R167, R169) -/

/-- Settles O27: by what was being sent. -/
theorem upstreamFrameSentFreesItsPlace : Obligations.UpstreamFrameSentFreesItsPlace := by
  intro s hd
  rw [exec_eq_act_of_not_due hd, act, upSent]
  refine ⟨fun h => by rw [h], fun f orphan h => ?_, fun f orphan h => ?_, fun f orphan h => ?_, fun f orphan h => ?_⟩ <;>
    rw [h]
  · cases orphan <;> rfl
  · have hkind : f.kind = RequestKind.partReset.code + 0x80 ↔ (f.kind == 0x84) = true := by rw [beq_iff_eq]; rfl
    by_cases hreset : f.kind = RequestKind.partReset.code + 0x80
    · simp only [if_pos hreset, hkind.mp hreset]
      cases orphan <;> rfl
    · have hno : (f.kind == 0x84) = false := by simpa using hkind.not.mp hreset
      simp only [if_neg hreset, hno, ← hd]
      cases orphan <;> rfl
  · cases orphan <;> rfl
  · cases orphan <;> rfl

theorem isResetCopy_eq (f : Frame) : isResetCopy f = (f.address == 31 && f.kind == 0x04 && f.payload.isEmpty) := by
  have h : (f.address.toNat == 31) = (f.address == 31) := by
    rw [Bool.eq_iff_iff, beq_iff_eq, beq_iff_eq, ← BitVec.toNat_inj]
    rfl
  rw [isResetCopy, h]
  rfl

/-- A frame sent downstream leaves the reset due exactly when it was the copy of a PART RESET. -/
theorem downSent_eq {s : State} (hd : s.link.resetDue = false) {f : Frame} {orphan : Bool}
    (h : s.link.downSending = some { frame := f, orphan := orphan }) : downSent s = s.setLink { s.link with
      downSending := none
      hold := if orphan then s.link.hold else dropForward s.link.hold
      resetDue := f.address == 31 && f.kind == 0x04 && f.payload.isEmpty } := by
  unfold downSent
  rw [h, ← isResetCopy_eq]
  cases hcopy : isResetCopy f
  · simp only [hcopy, Bool.false_eq_true, if_false]
    rw [← hd]
  · simp only [hcopy, if_true]
    rfl

/-- Replies that stand before the oldest frame to be forwarded stay. -/
theorem dropForward_append {pre post : List HoldSlot} {f : Frame} (h : ∀ x ∈ pre, x = .reply) :
    dropForward (pre ++ .forward f :: post) = pre ++ post := by
  induction pre with
  | nil => rfl
  | cons x pre ih =>
    rw [h x List.mem_cons_self, List.cons_append, dropForward, ih fun y hy => h y (List.mem_cons_of_mem _ hy)]
    rfl

/-- Settles O28. -/
theorem downstreamSending : Obligations.DownstreamSending := by
  refine ⟨fun s hd => ?_, fun s hd h => ?_, fun s f pre post hd h hhold hpre => ?_, fun s f hd h => ?_⟩ <;>
    rw [exec_eq_act_of_not_due hd, act]
  · rw [startDown]
    cases firstForward s.link.hold with
    | none => simp
    | some f => rfl
  · rw [downSent, h]
  · rw [downSent_eq hd h, hhold, if_neg (by simp), dropForward_append hpre]
  · rw [downSent_eq hd h]
    rfl

/-! ## The fall of PRESENT (R167) -/

theorem address_eq_31_iff (f : Frame) : f.address.toNat = 31 ↔ f.address = 31 := by
  rw [← BitVec.toNat_inj]
  rfl

/-- What a fall of PRESENT makes of one slot: the slots and replies in its place, whether a frame was dropped for its kind,
and whether a PART RESET's copy was dropped. -/
def fallSlot (l : LinkUnit) (kept : Bool) (z : HoldSlot) : List HoldSlot × List OwnFrame × Bool × Bool :=
  match z with
  | .reply => ([.reply], [], false, false)
  | .forward f =>
    if kept then ([.forward f], [], false, false)
    else if f.address = 31 then ([], [], false, f.kind == 0x04 && f.payload.isEmpty)
    else if f.kind.toNat = 0 ∨ 0x7F ≤ f.kind.toNat then ([], [], true, false)
    else ([.reply], [{ kind := .linkReply, frame := makeFrame (partAddress l) (f.kind + 0x80) f.tag [11] }], false, false)

theorem fallSlot_waiting (l : LinkUnit) (f : Frame) : fallSlot l false (.forward f) =
    if f.address = 31 then ([], [], false, f.kind == 0x04 && f.payload.isEmpty)
    else if f.kind.toNat = 0 ∨ 0x7F ≤ f.kind.toNat then ([], [], true, false)
    else ([.reply], [{ kind := .linkReply, frame := makeFrame (partAddress l) (f.kind + 0x80) f.tag [11] }], false, false) :=
  rfl

/-- The fall meets the slots one by one; only the oldest frame to be forwarded can be the one being sent. -/
theorem fallHold_cons (l : LinkUnit) (sending : Bool) (x : HoldSlot) (rest : List HoldSlot) :
    fallHold l sending (x :: rest) =
      { hold := (fallSlot l sending x).1 ++ (fallHold l (sending && x == .reply) rest).hold
        replies := (fallSlot l sending x).2.1 ++ (fallHold l (sending && x == .reply) rest).replies
        badKind := (fallSlot l sending x).2.2.1 || (fallHold l (sending && x == .reply) rest).badKind
        resetDropped := (fallSlot l sending x).2.2.2 || (fallHold l (sending && x == .reply) rest).resetDropped } := by
  cases x with
  | reply => cases sending <;> rfl
  | forward f =>
    cases sending with
    | true => rfl
    | false =>
      show Fall.meet l f (fallHold l false rest) = _
      rw [fallSlot_waiting, Fall.meet]
      by_cases haddress : f.address = 31
      · rw [if_pos ((address_eq_31_iff f).mpr haddress), if_pos haddress, isResetCopy_eq, haddress]
        rfl
      · rw [if_neg ((address_eq_31_iff f).not.mpr haddress), if_neg haddress]
        by_cases hkind : f.kind.toNat = 0 ∨ 0x7F ≤ f.kind.toNat
        · rw [if_pos hkind, if_neg (by simpa [← hasReplyKind_eq_false_iff] using hkind)]
          rfl
        · have hreply : hasReplyKind f.kind = true := by simpa [← hasReplyKind_eq_false_iff] using hkind
          rw [if_neg hkind, if_pos hreply]
          rfl

/-- The part once the hold store has come to `x` at a fall of PRESENT. -/
def fallenTo (x : Fall) (s : State) : State :=
  let fallen := (s.setPins { s.pins with present := false }).setLink
    { s.link with hold := x.hold, own := s.link.own ++ x.replies }
  let flagged := if x.badKind then setFlags (flagBadKind ||| flagUp) fallen else fallen
  if x.resetDropped then flagged.setLink { flagged.link with resetDue := true } else flagged

theorem exec_presentFall {s : State} (hd : s.link.resetDue = false) (hp : s.pins.present = true) :
    exec (.presentChange false) s = .next (fallenTo (fallHold s.link (isSendingDown s.link) s.link.hold) s) := by
  rw [exec_eq_act_of_not_due hd, act, presentChange]
  simp only [hp, Bool.not_false, Bool.and_true, if_true]
  rfl

/-- A hold store of one slot comes to what the fall makes of that slot. -/
theorem fallHold_singleton (l : LinkUnit) (sending : Bool) (x : HoldSlot) : fallHold l sending [x] =
    { hold := (fallSlot l sending x).1, replies := (fallSlot l sending x).2.1, badKind := (fallSlot l sending x).2.2.1,
      resetDropped := (fallSlot l sending x).2.2.2 } := by
  rw [fallHold_cons]
  simp [fallHold]

/-- A hold store of two slots comes to what the fall makes of both. -/
theorem fallHold_pair (l : LinkUnit) (sending : Bool) (x y : HoldSlot) : fallHold l sending [x, y] =
    { hold := (fallSlot l sending x).1 ++ (fallSlot l (sending && x == .reply) y).1
      replies := (fallSlot l sending x).2.1 ++ (fallSlot l (sending && x == .reply) y).2.1
      badKind := (fallSlot l sending x).2.2.1 || (fallSlot l (sending && x == .reply) y).2.2.1
      resetDropped := (fallSlot l sending x).2.2.2 || (fallSlot l (sending && x == .reply) y).2.2.2 } := by
  rw [fallHold_cons, fallHold_singleton]

/-- While the one frame held is not being sent, nothing of the hold store is. -/
theorem isSendingDown_eq_false {l : LinkUnit} {f : Frame}
    (hsent : ∀ x, l.downSending = some { frame := x, orphan := false } → x = f)
    (h : l.downSending ≠ some { frame := f, orphan := false }) : isSendingDown l = false := by
  unfold isSendingDown
  split
  next d hdown =>
    by_contra hsending
    have hdown : l.downSending = some { frame := d.frame, orphan := false } := by
      rw [hdown, ← (by simpa using hsending : d.orphan = false)]
    exact h (by rw [hdown, hsent _ hdown])
  · rfl

/-- A cause is pending and enabled exactly where the reported set is not empty. -/
theorem attention_iff {s : State} (h : NoticeInv s) : attention s = true ↔
    ∃ c, hasCause s.notice.pending c = true ∧ hasCause s.notice.enabled c = true := by
  have hbits : ∀ i < 18, ∃ c, (causeIndex c).val = i := fun i hi =>
    (by decide : ∀ i : Fin 18, ∃ c ∈ allCauses, causeIndex c = i) ⟨i, hi⟩ |>.imp fun c hc => congrArg Fin.val hc.2
  unfold attention NoticeUnit.reported
  rw [bne_iff_ne, ← not_iff_not, not_not]
  constructor
  · rintro hzero ⟨c, hp, he⟩
    have hboth := congrArg (hasCause · c) hzero
    rw [hasCause_and, hp, he] at hboth
    simp [hasCause] at hboth
  · intro hnone
    refine BitVec.eq_of_getLsbD_eq fun i hi => ?_
    rw [BitVec.getLsbD_and, show (0 : BitVec 24).getLsbD i = false from BitVec.getLsbD_zero]
    by_cases hlow : i < 18
    · obtain ⟨c, rfl⟩ := hbits i hlow
      exact Bool.eq_false_iff.mpr fun hset => hnone ⟨c, Bool.and_eq_true_iff.mp hset⟩
    · have hclear : s.notice.pending.getLsbD i = false := Nat.testBit_lt_two_pow
        (lt_of_lt_of_le h.pendingBits (Nat.pow_le_pow_right (n := 2) (by decide) (not_lt.mp hlow)))
      rw [hclear, Bool.false_and]

/-- Settles O29. -/
theorem holdAndPresentPins : Obligations.HoldAndPresentPins := by
  refine ⟨fun s asserted hd => ⟨exec_eq_act_of_not_due hd _, exec_eq_act_of_not_due hd _⟩, fun s high hd h => ?_,
    fun s f hd hp hhold hsent => ?_, fun s x y hd hp hhold _ => ?_, fun s h => attention_iff h, fun s => ⟨?_, ?_, ?_⟩⟩
  · rw [exec_eq_act_of_not_due hd, act, presentChange, if_neg]
    obtain rfl | h := h
    · simp
    · simp [h]
  · intro fallen
    rw [exec_presentFall hd hp, hhold, fallHold_singleton]
    by_cases hsending : s.link.downSending = some { frame := f, orphan := false }
    · have hkept : isSendingDown s.link = true := by rw [isSendingDown, hsending]; rfl
      have hsame : { s.link with hold := [.forward f], own := s.link.own ++ [] } = s.link := by
        rw [← hhold, List.append_nil]
      rw [if_pos hsending, hkept]
      show Host.Outcome.next ((s.setPins _).setLink { s.link with hold := [.forward f], own := s.link.own ++ [] }) = _
      rw [hsame]
      rfl
    · rw [if_neg hsending, isSendingDown_eq_false hsent hsending, fallSlot_waiting]
      by_cases haddress : f.address = 31
      · rw [if_pos haddress, if_pos haddress]
        unfold fallenTo
        dsimp only
        rw [List.append_nil]
        cases f.kind == 0x04 && f.payload.isEmpty
        · have hdue : { s.link with hold := [], resetDue := false } = { s.link with hold := [] } := by rw [← hd]
          rw [hdue]
          rfl
        · rfl
      · rw [if_neg haddress, if_neg haddress]
        unfold fallenTo
        by_cases hkind : f.kind.toNat = 0 ∨ 0x7F ≤ f.kind.toNat
        · rw [if_pos hkind, if_pos hkind]
          dsimp only
          rw [List.append_nil]
          rfl
        · rw [if_neg hkind, if_neg hkind]
          rfl
  · intro sending fall a b fallen flagged
    have hfall (kept : Bool) (z : HoldSlot) : fallSlot s.link kept z = fall kept z := by cases z <;> rfl
    rw [exec_presentFall hd hp, hhold, fallHold_pair, hfall, hfall, fallenTo]
    dsimp only
    rw [← List.append_assoc]
    rfl
  · rw [writeGate, Option.isSome_iff_exists]
  · rw [upHoldOut]
    cases s.link.hold <;> simp
  · rw [downHoldOut, decide_eq_true_iff]

end Sys2Proof.Machine
end

section
/-! PROOFS. Every request kind draws one reply that fits a frame (O19). -/

namespace Sys2Proof.Machine

/-! ## What a service leaves of the queue and of the service replies -/

/-- The effect of a service leaves the request queue and the service replies that stand on the own side. -/
theorem serve_queue (k : RequestKind) (p : List Byte) (s : State) :
    (k.serve p s).state.link.requests = s.link.requests ∧
      (k.serve p s).state.link.own.filter (fun o => o.kind == .service) = s.link.own.filter (fun o => o.kind == .service) := by
  by_cases hk : k ∈ ([.assign, .linkStatus, .linkSetup, .partReset, .noticeSetup, .noticeClear] : List RequestKind)
  · simp only [List.mem_cons, List.not_mem_nil, or_false] at hk
    obtain rfl | rfl | rfl | rfl | rfl | rfl := hk
    · obtain hc | ⟨_, _, _, _, _, hc⟩ := serveAssign_cases p s <;> rw [RequestKind.serve, hc] <;> exact ⟨rfl, rfl⟩
    · obtain hc | ⟨_, hc⟩ := serveLinkStatus_cases p s <;> rw [RequestKind.serve, hc] <;> exact ⟨rfl, rfl⟩
    · obtain hc | ⟨_, _, _, hc⟩ := serveLinkSetup_cases p s <;> rw [RequestKind.serve, hc] <;> exact ⟨rfl, rfl⟩
    · obtain hc | hc := servePartReset_cases p s <;> rw [RequestKind.serve, hc] <;> exact ⟨rfl, rfl⟩
    · obtain ⟨hc, _⟩ | ⟨_, _, _, hc, _⟩ := serveNoticeSetup_cases p s <;> rw [RequestKind.serve, hc] <;> exact ⟨rfl, rfl⟩
    · obtain ⟨hc, _⟩ | ⟨_, _, hc, _⟩ := serveNoticeClear_cases p s <;> rw [RequestKind.serve, hc] <;> exact ⟨rfl, rfl⟩
  · exact (serve_raises hk p s).keeps
      (P := fun u => u.link.requests = s.link.requests ∧
        u.link.own.filter (fun o => o.kind == .service) = s.link.own.filter (fun o => o.kind == .service))
      (fun _ _ _ hl hu => by rw [hl]; exact hu)
      (fun c u hu => ⟨by rw [raise_link_requests]; exact hu.1, by rw [filter_own_raise (k := .service) nofun]; exact hu.2⟩) ⟨rfl, rfl⟩

/-! ## The length of each reply -/

/-- A reply that fits a frame. -/
def Served.Fits (out : Served) : Prop := 1 ≤ out.reply.length ∧ out.reply.length ≤ 240

theorem fits_turnedAway (s : State) (st : Status) : (turnedAway s st).Fits := by simp [Served.Fits, turnedAway]

theorem fits_served {s : State} {content : List Byte} (h : content.length ≤ 239) : (served s content).Fits :=
  ⟨Nat.succ_pos _, Nat.succ_le_succ h⟩

theorem fits_answered {s : State} {content : List Byte} (h : content.length ≤ 239) : (answered s content).Fits :=
  ⟨Nat.succ_pos _, Nat.succ_le_succ h⟩

@[simp] theorem length_frameBytes (n : FrameNo) : (frameBytes n).length = 3 := length_be 3 _

@[simp] theorem length_positionBytes (n : Nat) : (positionBytes n).length = 5 := length_be 5 _

@[simp] theorem length_causeSetBytes (x : BitVec 24) : (causeSetBytes x).length = 3 := length_be 3 _

@[simp] theorem length_assignmentBytes (l : LinkUnit) : (assignmentBytes l).length = 3 := by
  unfold assignmentBytes
  split <;> rfl

@[simp] theorem length_gpiBytes (r : GpiRequest) : (gpiBytes r).length = 6 := by simp [gpiBytes]

@[simp] theorem length_cueBytes (e : CueEntry) : (cueBytes e).length = 18 := by simp [cueBytes]

@[simp] theorem length_spliceRecordBytes (r : SpliceRecord) : (spliceRecordBytes r).length = 22 := by
  simp [spliceRecordBytes]

@[simp] theorem length_totalsBytes (t : Totals) : (totalsBytes t).length = 16 := by simp [totalsBytes]

@[simp] theorem length_concealReport (c : Conceal) : (concealReport c).length = 17 := by
  simp [concealReport, channelReport]

/-- Records of one length, one after the other. -/
theorem length_flatMap_const {α : Type} {f : α → List Byte} {n : Nat} (h : ∀ x, (f x).length = n) (l : List α) :
    (l.flatMap f).length = n * l.length := by
  induction l with
  | nil => rfl
  | cons x l ih => rw [List.flatMap_cons, List.length_append, h, ih, List.length_cons, Nat.mul_succ, Nat.add_comm]

/-- An optional field of `k` bytes is a byte longer. -/
theorem length_optField_map {α : Type} {f : α → List Byte} {k : Nat} (h : ∀ x, (f x).length = k) (o : Option α) :
    (optField k (o.map f)).length = k + 1 :=
  length_optField fun bs hbs => by
    obtain ⟨x, _, rfl⟩ := Option.map_eq_some_iff.mp hbs
    exact h x

theorem length_recordField_le (kind : QueryKind) (o : QueryOutcome) : (recordField kind o).length ≤ 17 := by
  unfold recordField optField
  cases o with
  | found x => cases x <;> simp
  | unreadable => cases kind <;> simp
  | expired => cases kind <;> simp

/-- Records of a reply that carries at most `m` of them, `n` bytes each. -/
theorem length_records_le {α : Type} {f : α → List Byte} {n m : Nat} (h : ∀ x, (f x).length = n) (l : List α) (start : Nat) :
    (((l.drop start).take m).flatMap f).length ≤ n * m := by
  rw [length_flatMap_const h, List.length_take]
  exact Nat.mul_le_mul_left n (Nat.min_le_left _ _)

section Replies
variable (p : List Byte) (s : State)

theorem serveProbe_fits : (serveProbe p s).Fits := by
  unfold serveProbe
  split
  · exact fits_served (by simp)
  · exact fits_turnedAway _ _

theorem serveAssign_fits : (serveAssign p s).Fits := by
  unfold serveAssign
  split
  · split
    · exact fits_turnedAway _ _
    · exact fits_served (by simp)
  · exact fits_turnedAway _ _

theorem serveLinkStatus_fits : (serveLinkStatus p s).Fits := by
  unfold serveLinkStatus
  split
  · exact fits_served (by simp)
  · exact fits_turnedAway _ _

theorem serveLinkSetup_fits : (serveLinkSetup p s).Fits := by
  unfold serveLinkSetup
  split
  · split
    · exact fits_turnedAway _ _
    · exact fits_served (by simp)
  · exact fits_turnedAway _ _

theorem servePartReset_fits : (servePartReset p s).Fits := by
  unfold servePartReset
  split
  · exact fits_served (by simp)
  · exact fits_turnedAway _ _

theorem serveNoticeSetup_fits : (serveNoticeSetup p s).Fits := by
  unfold serveNoticeSetup
  split
  · split
    · split
      · exact fits_turnedAway _ _
      · simp [Served.Fits]
    · exact fits_turnedAway _ _
  · exact fits_turnedAway _ _

theorem serveNoticeClear_fits : (serveNoticeClear p s).Fits := by
  unfold serveNoticeClear
  split
  · split
    · exact fits_turnedAway _ _
    · simp [Served.Fits]
  · exact fits_turnedAway _ _

theorem serveNoticeRead_fits : (serveNoticeRead p s).Fits := by
  unfold serveNoticeRead
  split
  · exact fits_served (by simp [allCauses])
  · exact fits_turnedAway _ _

theorem serveSourceSelect_fits : (serveSourceSelect p s).Fits := by
  unfold serveSourceSelect
  split
  · split
    · split
      · exact fits_turnedAway _ _
      · exact fits_served (by simp)
    · exact fits_turnedAway _ _
  · exact fits_turnedAway _ _

theorem serveMonitorSelect_fits : (serveMonitorSelect p s).Fits := by
  unfold serveMonitorSelect
  split
  · split
    · exact fits_served (by simp)
    · exact fits_turnedAway _ _
  · exact fits_turnedAway _ _

theorem serveInputStatusRead_fits : (serveInputStatusRead p s).Fits := by
  have hstatus : (optField 3 (inputStatusField s.lineage)).length = 4 := length_optField fun bs hbs => by
    unfold inputStatusField at hbs
    split at hbs
    · contradiction
    · obtain ⟨a, _, rfl⟩ := Option.map_eq_some_iff.mp hbs
      simp
  unfold serveInputStatusRead
  split
  · exact fits_served (by simp [hstatus, length_optField_map])
  · exact fits_turnedAway _ _

theorem serveRecordStart_fits : (serveRecordStart p s).Fits := by
  unfold serveRecordStart
  split
  · split
    · exact fits_turnedAway _ _
    · split
      · exact fits_turnedAway _ _
      · split
        · exact fits_turnedAway _ _
        · exact fits_served (by simp)
  · exact fits_turnedAway _ _

theorem serveRecordStop_fits : (serveRecordStop p s).Fits := by
  unfold serveRecordStop
  split
  · exact fits_served (by simp)
  · exact fits_turnedAway _ _

theorem serveRecordStatus_fits : (serveRecordStatus p s).Fits := by
  unfold serveRecordStatus
  split
  · exact fits_served (by simp)
  · exact fits_turnedAway _ _

theorem serveLineageSetup_fits : (serveLineageSetup p s).Fits := by
  unfold serveLineageSetup
  split
  · split
    · exact fits_served (by simp)
    · exact fits_turnedAway _ _
  · exact fits_turnedAway _ _

theorem serveConcealSetup_fits : (serveConcealSetup p s).Fits := by
  unfold serveConcealSetup
  split
  · split
    · exact fits_served (by simp)
    · exact fits_served (by simp)
    · exact fits_turnedAway _ _
  · exact fits_turnedAway _ _

theorem serveQualityRead_fits : (serveQualityRead p s).Fits := by
  unfold serveQualityRead
  split
  next hd start count =>
    split
    · exact fits_turnedAway _ _
    next h _ =>
      dsimp only
      split
      · exact fits_turnedAway _ _
      · have := length_records_le length_qualityBytes (m := count.toNat) (s.decoder.history.get h) start.toNat
        exact fits_served (by simp only [List.length_append, length_be]; omega)
  · exact fits_turnedAway _ _

theorem serveQualityTotals_fits : (serveQualityTotals p s).Fits := by
  unfold serveQualityTotals
  split
  · split
    · exact fits_served (by simp)
    · exact fits_turnedAway _ _
  · exact fits_turnedAway _ _

theorem servePrereadSetup_fits : (servePrereadSetup p s).Fits := by
  unfold servePrereadSetup
  split
  · split
    · exact fits_turnedAway _ _
    · split
      · exact fits_turnedAway _ _
      · exact fits_served (by simp)
  · exact fits_turnedAway _ _

theorem servePositionRead_fits : (servePositionRead p s).Fits := by
  have hcount (b : Prop) [Decidable b] (n : Nat) : (optField 2 (if b then some (be 2 n) else none)).length = 3 :=
    length_optField fun bs hbs => by
      split at hbs
      · obtain rfl := Option.some.inj hbs
        simp
      · contradiction
  unfold servePositionRead
  split
  · exact fits_served (by simp [hcount, gpiLines])
  · exact fits_turnedAway _ _

theorem serveGpiSetup_fits : (serveGpiSetup p s).Fits := by
  unfold serveGpiSetup
  split
  · split
    · exact fits_served (by simp)
    · exact fits_turnedAway _ _
  · exact fits_turnedAway _ _

theorem serveMarkRead_fits : (serveMarkRead p s).Fits := by
  unfold serveMarkRead
  split
  · split
    · exact fits_turnedAway _ _
    · dsimp only
      split
      · exact fits_served (by simp [length_optField_map])
      · exact fits_turnedAway _ _
  · exact fits_turnedAway _ _

theorem serveCueAdd_fits : (serveCueAdd p s).Fits := by
  unfold serveCueAdd
  split
  · unfold addCue
    dsimp only
    split
    · exact fits_turnedAway _ _
    · split
      · exact fits_turnedAway _ _
      · split
        · exact fits_turnedAway _ _
        · split
          · exact fits_turnedAway _ _
          · exact fits_served (by simp)
  · exact fits_turnedAway _ _

theorem serveCueRemove_fits : (serveCueRemove p s).Fits := by
  unfold serveCueRemove
  split
  · split
    · exact fits_turnedAway _ _
    · split
      · exact fits_served (by simp)
      · exact fits_turnedAway _ _
  · exact fits_turnedAway _ _

theorem serveCueRead_fits : (serveCueRead p s).Fits := by
  unfold serveCueRead
  split
  next start count =>
    split
    · exact fits_turnedAway _ _
    · have := length_records_le length_cueBytes (m := count.toNat) s.engine.cues start.toNat
      exact fits_served (by simp only [List.length_append, length_be, length_bit, length_optByte]; omega)
  · exact fits_turnedAway _ _

theorem serveEditArm_fits : (serveEditArm p s).Fits := by
  unfold serveEditArm
  split
  · split
    · dsimp only
      split
      · exact fits_turnedAway _ _
      · split
        · exact fits_turnedAway _ _
        · exact fits_served (by simp)
    · exact fits_turnedAway _ _
  · exact fits_turnedAway _ _

theorem serveEditDisarm_fits : (serveEditDisarm p s).Fits := by
  unfold serveEditDisarm
  split
  · split
    · exact fits_turnedAway _ _
    · exact fits_served (by simp)
  · exact fits_turnedAway _ _

theorem serveEditAbort_fits : (serveEditAbort p s).Fits := by
  unfold serveEditAbort
  split
  · split
    · exact fits_served (by simp)
    · exact fits_turnedAway _ _
  · exact fits_turnedAway _ _

theorem serveSpliceLogRead_fits : (serveSpliceLogRead p s).Fits := by
  unfold serveSpliceLogRead
  split
  next start count =>
    split
    · exact fits_turnedAway _ _
    · have := length_records_le length_spliceRecordBytes (m := count.toNat) s.engine.log start.toNat
      exact fits_served (by simp only [List.length_append, length_be]; omega)
  · exact fits_turnedAway _ _

theorem serveEditSetup_fits : (serveEditSetup p s).Fits := by
  unfold serveEditSetup
  split
  · split
    · exact fits_turnedAway _ _
    · split
      · exact fits_served (by simp)
      · exact fits_turnedAway _ _
  · exact fits_turnedAway _ _

theorem serveLineageStatus_fits : (serveLineageStatus p s).Fits := by
  unfold serveLineageStatus
  split
  · exact fits_served (by simp [length_optField_map])
  · exact fits_turnedAway _ _

theorem serveRefusalListRead_fits (h : s.lineage.refusals.length ≤ 8) : (serveRefusalListRead p s).Fits := by
  unfold serveRefusalListRead
  split
  · split
    · exact fits_served (by
        simp only [List.length_append, length_be, length_bit, length_flatMap_refusedBytes]
        omega)
    · exact fits_turnedAway _ _
  · exact fits_turnedAway _ _

theorem pendingContent_length (e : QueryEntry) : (pendingContent e).length = 10 := by simp [pendingContent]

theorem serveTapeQuery_fits : (serveTapeQuery p s).Fits := by
  unfold serveTapeQuery
  split
  · split
    · exact fits_turnedAway _ _
    · dsimp only
      split
      next e _ =>
        unfold answerRepeat
        split
        next age o _ =>
          have := length_recordField_le e.kind o
          exact fits_served (by simp only [doneContent, List.length_append, length_be, length_frameBytes]; omega)
        · exact fits_answered (by simp [pendingContent_length])
        · exact fits_answered (by simp [pendingContent_length])
      · split
        · exact fits_turnedAway _ _
        · exact fits_answered (by simp [pendingContent_length])
  · exact fits_turnedAway _ _

theorem serveQueryCancel_fits : (serveQueryCancel p s).Fits := by
  unfold serveQueryCancel
  split
  · split
    · exact fits_turnedAway _ _
    · dsimp only
      split
      · exact fits_served (by simp)
      · exact fits_turnedAway _ _
  · exact fits_turnedAway _ _

theorem serveQuerySetup_fits : (serveQuerySetup p s).Fits := by
  unfold serveQuerySetup
  split
  · exact fits_served (by simp)
  · exact fits_turnedAway _ _

end Replies

/-- Every kind's reply fits a frame, with at most 8 entries in the refused-span list. -/
theorem serve_fits (k : RequestKind) (p : List Byte) {s : State} (h : s.lineage.refusals.length ≤ 8) :
    (k.serve p s).Fits :=
  match k with
  | .probe => serveProbe_fits p s
  | .assign => serveAssign_fits p s
  | .linkStatus => serveLinkStatus_fits p s
  | .partReset => servePartReset_fits p s
  | .linkSetup => serveLinkSetup_fits p s
  | .noticeSetup => serveNoticeSetup_fits p s
  | .noticeClear => serveNoticeClear_fits p s
  | .noticeRead => serveNoticeRead_fits p s
  | .sourceSelect => serveSourceSelect_fits p s
  | .monitorSelect => serveMonitorSelect_fits p s
  | .inputStatusRead => serveInputStatusRead_fits p s
  | .recordStart => serveRecordStart_fits p s
  | .recordStop => serveRecordStop_fits p s
  | .recordStatus => serveRecordStatus_fits p s
  | .lineageSetup => serveLineageSetup_fits p s
  | .concealSetup => serveConcealSetup_fits p s
  | .qualityRead => serveQualityRead_fits p s
  | .qualityTotals => serveQualityTotals_fits p s
  | .prereadSetup => servePrereadSetup_fits p s
  | .positionRead => servePositionRead_fits p s
  | .gpiSetup => serveGpiSetup_fits p s
  | .markRead => serveMarkRead_fits p s
  | .cueAdd => serveCueAdd_fits p s
  | .cueRemove => serveCueRemove_fits p s
  | .cueRead => serveCueRead_fits p s
  | .editArm => serveEditArm_fits p s
  | .editDisarm => serveEditDisarm_fits p s
  | .editAbort => serveEditAbort_fits p s
  | .spliceLogRead => serveSpliceLogRead_fits p s
  | .editSetup => serveEditSetup_fits p s
  | .lineageStatus => serveLineageStatus_fits p s
  | .refusalListRead => serveRefusalListRead_fits p s h
  | .tapeQuery => serveTapeQuery_fits p s
  | .queryCancel => serveQueryCancel_fits p s
  | .querySetup => serveQuerySetup_fits p s

/-- Settles O19: the reply joins once the effect stands, and an evaluation after it adds NOTICEs alone. -/
theorem everyServedRequestDrawsOneReply : Obligations.EveryServedRequestDrawsOneReply := by
  intro s r hs hrefusals
  obtain ⟨hrequests, hown⟩ := serve_queue r.kind r.payload s
  obtain ⟨hlow, hhigh⟩ := serve_fits r.kind r.payload hrefusals
  refine ⟨serveRequest r.kind.serve r s, (r.kind.serve r.payload s).reply, exec_row_serves hs, ?_, ?_, hlow, hhigh⟩
  · unfold serveRequest
    dsimp only
    split
    · rw [evaluate_link_requests]
      exact congrArg markServed hrequests
    · exact congrArg markServed hrequests
  · unfold serveRequest
    dsimp only
    have hjoined (o : OwnFrame) (ho : o.kind = .service) :
        ((r.kind.serve r.payload s).state.link.own ++ [o]).filter (fun o => o.kind == .service) =
          s.link.own.filter (fun o => o.kind == .service) ++ [o] := by
      rw [List.filter_append, hown, List.filter_singleton, ho]
      rfl
    split
    · rw [filter_own_evaluate (k := .service) nofun, partAddress, evaluate_link_assigned]
      exact hjoined _ rfl
    · exact hjoined _ rfl

end Sys2Proof.Machine
end

section
/-! PROOFS. The pending set loses a cause only by NOTICE CLEAR and the resets (O17). -/

namespace Sys2Proof.Machine

/-- The cause is pending. -/
def Pends (c : Cause) (s : State) : Prop := hasCause s.notice.pending c = true

/-- A NOTICE CLEAR with this payload names the cause. -/
def Names (c : Cause) (mask : List Byte) : Prop :=
  mask.length = 3 ∧ ofBe mask < 262144 ∧ hasCause (BitVec.ofNat 24 (ofBe mask)) c = true

section Pends
variable {c : Cause} {s t : State}

theorem Pends.sameNotice (hs : Pends c s) (h : t.notice = s.notice) : Pends c t := by
  rw [Pends, h]
  exact hs

theorem Raises.pends (h : Raises s t) (hs : Pends c s) : Pends c t :=
  h.keeps (P := Pends c) (fun _ _ hn _ hu => by rw [Pends, hn]; exact hu) (fun d _ hu => raise_hasCause d hu) hs

/-- Only a NOTICE CLEAR that names the cause serves it away. -/
theorem Pends.serve (hs : Pends c s) (k : RequestKind) (p : List Byte) (h : k = .noticeClear → ¬ Names c p) :
    Pends c (k.serve p s).state := by
  by_cases hk : k ∈ ([.assign, .linkStatus, .linkSetup, .partReset, .noticeSetup, .noticeClear] : List RequestKind)
  · simp only [List.mem_cons, List.not_mem_nil, or_false] at hk
    obtain rfl | rfl | rfl | rfl | rfl | rfl := hk
    · obtain hc | ⟨_, _, _, _, _, hc⟩ := serveAssign_cases p s <;> rw [RequestKind.serve, hc] <;> exact hs
    · obtain hc | ⟨_, hc⟩ := serveLinkStatus_cases p s <;> rw [RequestKind.serve, hc] <;> exact hs
    · obtain hc | ⟨_, _, _, hc⟩ := serveLinkSetup_cases p s <;> rw [RequestKind.serve, hc] <;> exact hs
    · obtain hc | hc := servePartReset_cases p s <;> rw [RequestKind.serve, hc] <;> exact hs
    · obtain ⟨hc, _⟩ | ⟨_, _, _, hc, _⟩ := serveNoticeSetup_cases p s <;> rw [RequestKind.serve, hc] <;> exact hs
    · obtain ⟨hc, _⟩ | ⟨hlen, hlt, hc, _⟩ := serveNoticeClear_cases p s <;> rw [RequestKind.serve, hc]
      · exact hs
      · have hother : hasCause (BitVec.ofNat 24 (ofBe p)) c = false :=
          Bool.eq_false_iff.mpr fun hnamed => h rfl ⟨hlen, hlt, hnamed⟩
        show hasCause (s.notice.pending &&& ~~~(BitVec.ofNat 24 (ofBe p))) c = true
        rw [hasCause_and, hasCause_not, hother, show hasCause s.notice.pending c = true from hs]
        rfl
  · exact (serve_raises hk p s).pends hs

theorem Pends.evaluate (hs : Pends c s) : Pends c (evaluate s) := by
  rw [Pends, evaluate_notice_pending]
  exact hs

theorem Pends.service (hs : Pends c s) (k : RequestKind)
    (h : k = .noticeClear → ∀ r, nextRequest s.link = some r → r.kind = .noticeClear → s.link.paused = false →
      ¬ Names c r.payload) : Pends c (service k k.serve s) := by
  unfold Machine.service
  split
  · exact hs
  next r hr =>
    split
    next hserves =>
      have hserved := hs.serve k r.payload fun hk => h hk r hr (hserves.1.trans hk) hserves.2
      unfold serveRequest
      dsimp only
      split
      · exact Pends.evaluate hserved
      · exact hserved
    · exact hs

theorem Pends.setFlags (hs : Pends c s) (mask : BitVec 8) : Pends c (setFlags mask s) := setFlags_hasCause mask hs

theorem Pends.upSent (hs : Pends c s) : Pends c (upSent s) := by
  unfold Machine.upSent
  split
  · exact hs
  next x _ =>
    have ht : Pends c (s.setLink { freeUp x s.link with upSending := none }) := hs.sameNotice rfl
    dsimp only
    split
    · exact ht
    · split
      · exact ht
      · exact ht.setFlags _
      · split
        · exact ht.sameNotice rfl
        · exact ht

theorem Pends.downSent (hs : Pends c s) : Pends c (downSent s) := by
  unfold Machine.downSent
  split
  · exact hs
  · dsimp only
    split
    · exact hs
    · exact hs

theorem Pends.presentFall (hs : Pends c s) : Pends c (presentFall s) := by
  have hflags (b : Bool) (u : State) (hu : Pends c u) :
      Pends c (if b = true then Machine.setFlags (flagBadKind ||| flagUp) u else u) := by
    cases b with
    | true => exact hu.setFlags _
    | false => exact hu
  have hdue (b : Bool) (u : State) (hu : Pends c u) : Pends c (if b = true then fallDue u else u) := by
    cases b with
    | true => exact hu.sameNotice rfl
    | false => exact hu
  exact hdue _ _ (hflags _ _ (hs.sameNotice rfl))

theorem Pends.presentChange (hs : Pends c s) (high : Bool) : Pends c (presentChange high s) :=
  iteInduction (motive := Pends c) (fun _ => Pends.presentFall (s := s.setPins { s.pins with present := high }) hs)
    (fun _ => hs)

theorem Pends.receivedDown (hs : Pends c s) (x : Received) : Pends c (onReceived .down x s) := by
  cases x with
  | nothing => exact hs
  | broken => exact hs.setFlags _
  | badCheck => exact hs.setFlags _
  | whole f => exact iteInduction (fun _ => hs.setFlags _) (fun _ => hs)

theorem Pends.arbitrate (hs : Pends c s) : Pends c (arbitrate s) := by
  unfold Machine.arbitrate
  split
  · split
    · exact hs
    · exact hs
  · exact hs

theorem Pends.startDown (hs : Pends c s) : Pends c (startDown s) := by
  unfold Machine.startDown
  split
  · split
    · exact hs
    · exact hs
  · exact hs

end Pends

/-! ## Bytes from upstream -/

/-- A cause is pending, with no PART RESET due, and the upstream receiver stands so. -/
structure Holds (c : Cause) (r : Receiver) (s : State) : Prop where
  pends : Pends c s
  settled : s.link.resetDue = false
  receiver : s.link.upReceiver = r

/-- The frame is a broadcast that can take the cause from the set: a NOTICE CLEAR that names it, or a PART RESET. -/
def Clears (c : Cause) (f : Frame) : Prop :=
  f.address = 31 ∧ ((f.kind = 0x09 ∧ Names c f.payload) ∨ (f.kind = 0x04 ∧ f.payload = []))

theorem code_of_kindOfByte {b : Byte} {k : RequestKind} (h : kindOfByte b = some k) : k.code = b :=
  eq_of_beq (List.find?_some (p := fun k : RequestKind => k.code == b) h)

namespace Holds
variable {c : Cause} {r : Receiver} {s t : State}

theorem raises (hs : Holds c r s) (h : Raises s t) : Holds c r t :=
  h.keeps (P := Holds c r)
    (fun _ _ hn hl hu => ⟨by rw [Pends, hn]; exact hu.pends, by rw [hl]; exact hu.settled, by rw [hl]; exact hu.receiver⟩)
    (fun d _ hu => ⟨raise_hasCause d hu.pends, by rw [raise_link_resetDue]; exact hu.settled,
      by rw [raise_link_upReceiver]; exact hu.receiver⟩) hs

theorem sameNotice (hs : Holds c r s) (hn : t.notice = s.notice) (hd : t.link.resetDue = s.link.resetDue)
    (hr : t.link.upReceiver = s.link.upReceiver) : Holds c r t :=
  ⟨by rw [Pends, hn]; exact hs.pends, hd.trans hs.settled, hr.trans hs.receiver⟩

theorem setFlags (hs : Holds c r s) (mask : BitVec 8) : Holds c r (setFlags mask s) :=
  ⟨hs.pends.setFlags mask, by rw [setFlags_link_resetDue]; exact hs.settled,
    by rw [setFlags_link_upReceiver]; exact hs.receiver⟩

theorem evaluate (hs : Holds c r s) : Holds c r (evaluate s) :=
  ⟨hs.pends.evaluate, by rw [evaluate_link_resetDue]; exact hs.settled,
    by rw [evaluate_link_upReceiver]; exact hs.receiver⟩

theorem linkReply (hs : Holds c r s) (st : Status) (flags : BitVec 8) (f : Frame) : Holds c r (linkReply st flags f s) := by
  unfold Machine.linkReply
  split
  · exact hs.setFlags _
  · refine Holds.setFlags (s := s.setLink _) ?_ _
    exact hs.sameNotice rfl rfl rfl

theorem noDeck (hs : Holds c r s) (f : Frame) : Holds c r (noDeck f s) :=
  iteInduction (fun _ => hs.linkReply _ _ _) (fun _ => hs.setFlags _)

theorem forwardAddressed (hs : Holds c r s) (f : Frame) : Holds c r (forwardAddressed f s) := by
  unfold Machine.forwardAddressed
  split
  · split
    · exact hs.setFlags _
    · exact ⟨hs.pends, hs.settled, hs.receiver⟩
  · exact hs.noDeck f

theorem takeFrame (hs : Holds c r s) (f : Frame) : Holds c r (takeFrame f s) := by
  unfold Machine.takeFrame
  split
  · exact hs.setFlags _
  · split
    · exact hs.linkReply _ _ _
    · split
      · exact hs.linkReply _ _ _
      · split
        · exact hs.linkReply _ _ _
        · exact ⟨hs.pends, hs.settled, hs.receiver⟩

/-- A broadcast of right length, no PART RESET: only a NOTICE CLEAR that names the cause takes it. -/
theorem serveBroadcast (hs : Holds c r s) {k : RequestKind} (hk : k.broadcast = true) (hreset : k ≠ .partReset)
    (p : List Byte) (h : k = .noticeClear → ¬ Names c p) : Holds c r (serveBroadcast k p s) := by
  have hserved : Holds c r (k.serve p s).state := by
    by_cases hclear : k = .noticeClear
    · have hp := hs.pends.serve k p h
      subst hclear
      obtain ⟨hc, _⟩ | ⟨_, _, hc, _⟩ := serveNoticeClear_cases p s <;> rw [RequestKind.serve, hc] at hp ⊢ <;>
        exact ⟨hp, hs.settled, hs.receiver⟩
    · have hother : k ∉ ([.assign, .linkStatus, .linkSetup, .partReset, .noticeSetup, .noticeClear] : List RequestKind) := by
        cases k <;> simp_all [RequestKind.broadcast]
      exact hs.raises (serve_raises hother p s)
  rw [serveBroadcast_eq hk hreset]
  exact iteInduction (fun _ => hserved.evaluate) (fun _ => hserved)

theorem broadcastFrame (hs : Holds c r s) {k : RequestKind} {f : Frame} (hk : kindOfByte f.kind = some k)
    (hset : k.broadcast = true) (haddress : f.address = 31) : Holds c r (broadcastFrame k f s) ∨ Clears c f := by
  have hcode := code_of_kindOfByte hk
  have hcopy : Holds c r (Machine.setFlags (broadcastFlags k f s) (if hasCopy s then holdCopy f s else s)) :=
    Holds.setFlags (iteInduction (fun _ => hs.sameNotice (t := holdCopy f s) rfl rfl rfl) (fun _ => hs)) _
  unfold Machine.broadcastFrame
  dsimp only
  split
  · exact .inl hcopy
  next hlen =>
    split
    next hreset =>
      subst hreset
      exact .inr ⟨haddress, .inr ⟨hcode.symm, List.length_eq_zero_iff.mp (not_not.mp hlen)⟩⟩
    next hreset =>
      by_cases hclear : k = .noticeClear ∧ Names c f.payload
      · obtain ⟨rfl, hnames⟩ := hclear
        exact .inr ⟨haddress, .inl ⟨hcode.symm, hnames⟩⟩
      · exact .inl (hcopy.serveBroadcast hset hreset _ fun hk hn => hclear ⟨hk, hn⟩)

/-- What the upstream receiver brings keeps the cause, unless it is such a broadcast. -/
theorem received (hs : Holds c r s) (x : Received) :
    Holds c r (onReceived .up x s) ∨ ∃ f, x = .whole f ∧ Clears c f := by
  cases x with
  | nothing => exact .inl hs
  | broken => exact .inl (hs.setFlags _)
  | badCheck => exact .inl (hs.setFlags _)
  | whole f =>
    show Holds c r (fromUpstream f s) ∨ _
    unfold fromUpstream
    split
    next haddress =>
      unfold broadcast
      split
      next k hk =>
        split
        next hset => exact (hs.broadcastFrame hk hset ((address_eq_31_iff f).mp haddress)).imp_right fun h => ⟨f, rfl, h⟩
        · exact .inl (hs.setFlags _)
      · exact .inl (hs.setFlags _)
    · left
      split
      · unfold routeAssigned
        split
        · exact hs.forwardAddressed f
        · split
          · exact hs.takeFrame f
          · split
            · exact hs.forwardAddressed f
            · exact hs.noDeck f
      · split
        · exact hs.takeFrame f
        · exact hs.noDeck f

end Holds

/-- The bytes bring a receiver that stands at `r` this whole frame. -/
def Brings (r : Receiver) (bytes : List Byte) (f : Frame) : Prop := ∃ (pre post : List Byte) (b : Byte),
  bytes = pre ++ b :: post ∧ (receive (pre.foldl (fun r x => (receive r x).1) r) b).2 = .whole f

/-- Bytes from upstream keep the cause, unless they bring such a broadcast. -/
theorem Holds.takeBytes {c : Cause} {r : Receiver} {s : State} (hs : Holds c r s) (bytes : List Byte) :
    Holds c (bytes.foldl (fun r x => (receive r x).1) r) (Machine.takeBytes Side.up bytes s) ∨
      ∃ f, Brings r bytes f ∧ Clears c f := by
  induction bytes using List.reverseRecOn with
  | nil => exact .inl hs
  | append_singleton bytes b ih =>
    obtain hu | ⟨f, ⟨pre, post, x, hbytes, hx⟩, hf⟩ := ih
    · have hbyte : Machine.takeBytes Side.up (bytes ++ [b]) s = onReceived Side.up
          (receive (bytes.foldl (fun r x => (receive r x).1) r) b).2 (setReceiver Side.up
            (receive (bytes.foldl (fun r x => (receive r x).1) r) b).1 (Machine.takeBytes Side.up bytes s)) := by
        have hr : (Machine.takeBytes Side.up bytes s).link.receiver Side.up = bytes.foldl (fun r x => (receive r x).1) r := hu.receiver
        unfold Machine.takeBytes at hr ⊢
        rw [List.foldl_append, List.foldl_cons, List.foldl_nil, takeByte_eq (by exact hu.settled), hr]
      rw [hbyte, List.foldl_append]
      have hset : Holds c (receive (bytes.foldl (fun r x => (receive r x).1) r) b).1 (setReceiver Side.up
          (receive (bytes.foldl (fun r x => (receive r x).1) r) b).1 (Machine.takeBytes Side.up bytes s)) :=
        ⟨hu.pends, hu.settled, rfl⟩
      exact (hset.received _).imp_right fun ⟨f, hx, hf⟩ => ⟨f, ⟨bytes, [], b, rfl, hx⟩, hf⟩
    · exact .inr ⟨f, ⟨pre, post ++ [b], x, by rw [hbytes]; simp, hx⟩, hf⟩

/-- Bytes from downstream keep the cause. -/
theorem Pends.takeBytesDown {c : Cause} {s : State} (hs : Pends c s) (hd : s.link.resetDue = false) (bytes : List Byte) :
    Pends c (takeBytes .down bytes s) := by
  suffices h : ∀ u, Pends c u ∧ u.link.resetDue = false → Pends c (takeBytes .down bytes u) from h s ⟨hs, hd⟩
  induction bytes with
  | nil => exact fun u hu => hu.1
  | cons b bytes ih =>
    intro u ⟨hu, hdu⟩
    refine ih (takeByte .down u b) ?_
    rw [takeByte_eq hdu]
    have hset : Pends c (setReceiver .down (receive (u.link.receiver .down) b).1 u) := hu
    refine ⟨hset.receivedDown _, ?_⟩
    cases (receive (u.link.receiver .down) b).2 with
    | nothing => exact hdu
    | broken => rw [onReceived, setFlags_link_resetDue]; exact hdu
    | badCheck => rw [onReceived, setFlags_link_resetDue]; exact hdu
    | whole f =>
      show (fromDownstream f _).link.resetDue = false
      unfold fromDownstream
      split
      · rw [setFlags_link_resetDue]; exact hdu
      · exact hdu

/-- What every command but the named few leaves pending. -/
theorem Pends.act {c : Cause} {s : State} (hs : Pends c s) (hd : s.link.resetDue = false) {i : Instr} (hpower : i ≠ .powerOnReset)
    (hclear : i = .noticeClear → ∀ r, Serves s r → r.kind = .noticeClear → ¬ Names c r.payload)
    (hbytes : ∀ bytes, i = .frameReceivedUpstream bytes ∨ i = .brokenFrame .up bytes →
      ∀ f, Brings s.link.upReceiver bytes f → ¬ Clears c f) : Pends c (act i s) := by
  have hup (bytes : List Byte) (hi : i = .frameReceivedUpstream bytes ∨ i = .brokenFrame .up bytes) :
      Pends c (Machine.takeBytes Side.up bytes s) := by
    obtain h | ⟨f, hbrings, hclears⟩ := Holds.takeBytes ⟨hs, hd, rfl⟩ bytes
    · exact h.pends
    · exact absurd hclears (hbytes bytes hi f hbrings)
  cases i
  case powerOnReset => exact absurd rfl hpower
  case partResetEffect => exact hs
  case sampleClock p =>
    have hentered : Pends c (enterPair .converter p s) := ((Raises.refl s).enterPair .converter p).pends hs
    exact hentered.sameNotice (by simp [Machine.act, sampleClock, playPair])
  case outputBoundary => exact hs.sameNotice (by simp [Machine.act])
  case receiverPairStrobe p =>
    exact iteInduction (motive := Pends c) (fun _ => ((Raises.refl s).enterPair .digital p).pends hs) (fun _ => hs)
  case lockIndicationChange active => exact Raises.pends ((Raises.refl s).set).rederive hs
  case statusArrival a => exact Raises.pends ((Raises.refl s).set).rederive hs
  case blockArrival => exact hs
  case headFrameEnd hd => exact (Raises.closeFrame hd s).pends hs
  case transportState x => exact ((Raises.refl s).transportChange x).pends hs
  case frameTick g => exact ((Raises.refl s).frameTick g).pends hs
  case absenceCountExpiry => exact (Raises.refl s).absenceExpiry.pends hs
  case queryWaitExpiry => exact (Raises.refl s).expireQueries.pends hs
  case queryDiscard => exact (Raises.refl s).discardQueries.pends hs
  case frameWritten => exact (Raises.refl s).frameWritten.pends hs
  case gpiFallingEdge i => exact ((Raises.refl s).fallingEdge i).pends hs
  case frameReceivedUpstream bytes => exact hup bytes (.inl rfl)
  case linkByteGapTimeout side =>
    show Pends c (byteGap side s)
    unfold byteGap
    split
    · exact hs
    · exact Pends.setFlags (s := setReceiver side .hunting s) (by cases side <;> exact hs) _
  case frameReceivedDownstream bytes => exact hs.takeBytesDown hd bytes
  case arbiterChoice => exact hs.arbitrate
  case upstreamFrameSent => exact hs.upSent
  case downstreamSend => exact hs.startDown
  case downstreamFrameSent => exact hs.downSent
  case holdInputChange side asserted => cases side <;> exact hs
  case presentChange high => exact hs.presentChange high
  case brokenFrame side bytes =>
    cases side with
    | up => exact hup bytes (.inr rfl)
    | down => exact hs.takeBytesDown hd bytes
  case noticeClear =>
    exact hs.service .noticeClear fun _ r hr hk hp => hclear rfl r ⟨hd, hp, hr⟩ hk
  all_goals exact hs.service _ fun h => by contradiction

/-- Settles O17: by contradiction, from what every other command keeps. -/
theorem causesLeaveOnlyByClearOrReset : Obligations.CausesLeaveOnlyByClearOrReset := by
  intro c i s t hexec hpending hgone names brings
  by_contra hnone
  simp only [not_or, not_and, not_exists] at hnone
  obtain ⟨hpower, hdue, hclear, hbytes⟩ := hnone
  have hd : s.link.resetDue = false := Bool.eq_false_iff.mpr hdue
  rw [exec_eq_act_of_not_due hd] at hexec
  obtain rfl : act i s = t := by injection hexec
  have hkept : Pends c (act i s) := Pends.act hpending hd hpower
    (fun hi r hr hk hn => hclear hi r hr hk hn)
    (fun bytes hi f hb ⟨haddress, hf⟩ => by
      obtain ⟨hkind, hp⟩ | ⟨hkind, hp⟩ := hf
      · exact (hbytes bytes f hi hb haddress).1 hkind hp
      · exact (hbytes bytes f hi hb haddress).2 hkind hp)
  exact absurd hkept (by rw [Pends, hgone]; decide)

end Sys2Proof.Machine
end

section
/-! PROOFS. Broadcasts (O24): the service of a broadcast kind neither reads nor touches the request queue. -/

namespace Sys2Proof.Machine

/-- The state with these requests waiting, and service paused or not. -/
def State.queued (q : List LinkRequest) (b : Bool) (s : State) : State :=
  s.setLink { s.link with requests := q, paused := b }

/-- A service's outcome with these requests waiting in the state after it. -/
def Served.queued (q : List LinkRequest) (b : Bool) (x : Served) : Served := { x with state := x.state.queued q b }

section Queued
variable (q : List LinkRequest) (b : Bool) (s : State)

theorem queued_self : s.queued s.link.requests s.link.paused = s := rfl

theorem evaluate_queued : evaluate (s.queued q b) = (evaluate s).queued q b := by
  have hn : (s.queued q b).notice = s.notice := rfl
  unfold evaluate
  rw [hn]
  cases s.notice.leading with
  | none => rfl
  | some c =>
    dsimp only
    split
    · rfl
    · rfl

theorem raise_queued (c : Cause) : raise c (s.queued q b) = (raise c s).queued q b := by
  unfold raise
  rw [apply_ite (State.queued q b)]
  exact congrArg (ite _ _) (evaluate_queued q b (s.setNotice _))

theorem raiseIf_queued (x : Bool) (c : Cause) : raiseIf x c (s.queued q b) = (raiseIf x c s).queued q b := by
  cases x with
  | true => exact raise_queued q b s c
  | false => rfl

theorem removeCue_queued (id : Nat) : removeCue id (s.queued q b) = (removeCue id s).queued q b := rfl

theorem emptyCues_queued : emptyCues (s.queued q b) = (emptyCues s).queued q b :=
  List.foldl_hom (State.queued q b) fun t id => removeCue_queued q b t id

theorem rederive_queued : rederive (s.queued q b) = (rederive s).queued q b := by
  unfold rederive
  dsimp only
  rw [← raiseIf_queued]
  rfl

theorem changeRate_queued (rate : Rate) : changeRate rate (s.queued q b) = (changeRate rate s).queued q b := by
  have hcues := emptyCues_queued q b (emptyBuffer s)
  unfold changeRate
  dsimp only
  rw [← rederive_queued, show emptyBuffer (s.queued q b) = (emptyBuffer s).queued q b from rfl, hcues]
  rfl

theorem newStart_queued (w : FrameNo) : newStart w (s.queued q b) = (newStart w s).queued q b := by
  unfold newStart
  rw [← raiseIf_queued]
  rfl

theorem passOver_queued (e : CueEntry) : passOver (s.queued q b) e = (passOver s e).queued q b := by
  have h := raise_queued q b (logRecord (missedRecord e .passed s) s) .editMissed
  exact congrArg (removeCue e.id) h

theorem armEngine_queued (m : ArmMode) : armEngine m (s.queued q b) = (armEngine m s).queued q b := by
  have h (es : List CueEntry) : es.foldl passOver ((s.setEngine (s.engine.takeArm m)).queued q b)
      = (es.foldl passOver (s.setEngine (s.engine.takeArm m))).queued q b :=
    List.foldl_hom (State.queued q b) fun t e => passOver_queued q b t e
  unfold armEngine
  cases hm : m.mode with
  | execute =>
    have hpassed : (passedCues (s.queued q b)).foldl passOver ((s.queued q b).setEngine ((s.queued q b).engine.takeArm m))
        = ((passedCues s).foldl passOver (s.setEngine (s.engine.takeArm m))).queued q b := h (passedCues s)
    simp only [if_true, hpassed]
    rfl
  | rehearse => rfl

theorem startRecording_queued (mode : RecordMode) (start : FrameNo) (program take : Word16) :
    startRecording mode start program take (s.queued q b) = (startRecording mode start program take s).queued q b := by
  cases mode with
  | continuing => rfl
  | new => exact newStart_queued q b (s.setFormatter (s.formatter.start .new program take)) start

theorem serveSourceSelect_queued (p : List Byte) :
    serveSourceSelect p (s.queued q b) = (serveSourceSelect p s).queued q b := by
  simp only [serveSourceSelect]
  split
  · split
    next source rate _ _ =>
      have hrate : changeRate rate ((s.queued q b).setInput { (s.queued q b).input with source := source })
          = (changeRate rate (s.setInput { s.input with source := source })).queued q b :=
        changeRate_queued q b (s.setInput { s.input with source := source }) rate
      rw [apply_ite (Served.queued q b), hrate]
      have hinput : (s.queued q b).input = s.input := rfl
      by_cases hsame : rate = s.input.rate
      · simp only [hinput, if_pos hsame]
        rfl
      · simp only [hinput, if_neg hsame]
        rfl
    · rfl
  · rfl

theorem serveRecordStart_queued (p : List Byte) :
    serveRecordStart p (s.queued q b) = (serveRecordStart p s).queued q b := by
  simp only [serveRecordStart]
  split
  · split
    · rfl
    · rw [startRecording_queued, apply_ite (Served.queued q b), apply_ite (Served.queued q b)]
      rfl
  · rfl

theorem serveEditArm_queued (p : List Byte) : serveEditArm p (s.queued q b) = (serveEditArm p s).queued q b := by
  simp only [serveEditArm]
  split
  · split
    · rw [armEngine_queued, apply_ite (Served.queued q b), apply_ite (Served.queued q b)]
      rfl
    · rfl
  · rfl

/-- Every broadcast kind but PART RESET is served without a look at the queue, and leaves it. -/
theorem serve_queued {k : RequestKind} (hk : k.broadcast = true) (hreset : k ≠ .partReset) (p : List Byte) :
    k.serve p (s.queued q b) = (k.serve p s).queued q b := by
  cases k
  case sourceSelect => exact serveSourceSelect_queued q b s p
  case recordStart => exact serveRecordStart_queued q b s p
  case editArm => exact serveEditArm_queued q b s p
  case partReset => exact absurd rfl hreset
  case monitorSelect =>
    simp only [RequestKind.serve, serveMonitorSelect]
    split
    · split <;> rfl
    · rfl
  case recordStop =>
    simp only [RequestKind.serve, serveRecordStop]
    split <;> rfl
  case editDisarm =>
    simp only [RequestKind.serve, serveEditDisarm]
    split
    · rw [apply_ite (Served.queued q b)]
      rfl
    · rfl
  case editAbort =>
    simp only [RequestKind.serve, serveEditAbort]
    split
    · rw [apply_ite (Served.queued q b)]
      rfl
    · rfl
  case noticeClear =>
    simp only [RequestKind.serve, serveNoticeClear]
    split
    · rw [apply_ite (Served.queued q b)]
      rfl
    · rfl
  all_goals exact absurd hk (by decide)

/-- A broadcast kind's service leaves the queue, and pauses nothing. -/
theorem serve_link {k : RequestKind} (hk : k.broadcast = true) (hreset : k ≠ .partReset) (p : List Byte) :
    (k.serve p s).state.link.requests = s.link.requests ∧ (k.serve p s).state.link.paused = s.link.paused := by
  have h := serve_queued s.link.requests s.link.paused s hk hreset p
  rw [queued_self] at h
  exact ⟨by rw [h]; rfl, by rw [h]; rfl⟩

end Queued

theorem serve_evaluates_iff (k : RequestKind) (p : List Byte) (s : State) (hk : k.broadcast = true)
    (hlen : p.length = k.length) : (k.serve p s).evaluates = true ↔ k = .noticeClear ∧ ofBe p < 262144 := by
  by_cases hclear : k = .noticeClear
  · subst hclear
    match p, hlen with
    | [a, b, c], _ =>
      simp only [RequestKind.serve, serveNoticeClear, true_and]
      split
      next hbad => simpa [turnedAway] using hbad
      next hgood => simpa using hgood
  · have hsetup : k ≠ .noticeSetup := by
      rintro rfl
      exact absurd hk (by decide)
    simp [serve_evaluates hsetup hclear, hclear]

theorem setFlags_zero (s : State) : setFlags 0 s = s := by
  unfold setFlags
  rw [if_pos (by simp)]

theorem hasCopy_iff (s : State) : hasCopy s = true ↔ s.pins.present = true ∧ s.link.hold.length < 2 := by
  simp [hasCopy, Config.holdCap]

/-- A copy is dropped while PRESENT is high and the hold store is full. -/
theorem copyDropped_iff (s : State) :
    (s.pins.present && !hasCopy s) = true ↔ s.pins.present = true ∧ 2 ≤ s.link.hold.length := by
  cases hp : s.pins.present <;> simp [hasCopy, Config.holdCap, hp, Nat.succ_le_iff]

/-- The flags of a broadcast of right length. -/
theorem setFlags_broadcastFlags {k : RequestKind} {f : Frame} (hlen : f.payload.length = k.length) (s t : State) :
    setFlags (broadcastFlags k f s) t =
      if s.pins.present = true ∧ 2 ≤ s.link.hold.length then setFlags (flagBadFrame ||| flagUp) t else t := by
  have hflags : broadcastFlags k f s =
      if s.pins.present = true ∧ 2 ≤ s.link.hold.length then flagBadFrame ||| flagUp else 0 := by
    simp only [broadcastFlags, copyDropped_iff, hlen, ne_eq, not_true, if_false]
    exact BitVec.or_zero
  rw [hflags, apply_ite (fun x => setFlags x t), setFlags_zero]

/-- The flags of a broadcast of wrong length. -/
theorem broadcastFlags_badLength {k : RequestKind} {f : Frame} (hlen : f.payload.length ≠ k.length) (s : State) :
    broadcastFlags k f s = if s.pins.present = true ∧ 2 ≤ s.link.hold.length
      then flagBadFrame ||| flagBadLength ||| flagUp else flagBadLength ||| flagUp := by
  simp only [broadcastFlags, copyDropped_iff, hlen, ne_eq, not_false_eq_true, if_true]
  split
  · rfl
  · rfl

/-- The service of a broadcast kind that is the only request waiting. -/
theorem exec_row_only {s : State} {r : LinkRequest} (hd : s.link.resetDue = false) (hk : r.kind.broadcast = true)
    (hreset : r.kind ≠ .partReset) (hr : r.served = false) :
    exec r.kind.row (s.queued [r] false) = .next
      (if (r.kind.serve r.payload s).evaluates then
        evaluate (replied r (r.kind.serve r.payload s).reply ((r.kind.serve r.payload s).state.queued [r] false))
      else replied r (r.kind.serve r.payload s).reply ((r.kind.serve r.payload s).state.queued [r] false)) := by
  have hserves : Serves (s.queued [r] false) r := ⟨hd, rfl, by simp [State.queued, nextRequest, hr]⟩
  rw [exec_row_serves hserves, serveRequest, serve_queued [r] false s hk hreset]
  rfl

/-- Settles O24. -/
theorem broadcastsAreHandled : Obligations.BroadcastsAreHandled := by
  refine ⟨fun k => by cases k <;> decide, ?_⟩
  intro s f hd hr hf haddress copied dropped
  have hcopied : (if hasCopy s then holdCopy f s else s) = copied := by
    simp only [hasCopy_iff]
    rfl
  have hlinks : copied.link.requests = s.link.requests ∧ copied.link.paused = s.link.paused ∧
      copied.link.resetDue = s.link.resetDue ∧ copied.formatter = s.formatter ∧ copied.engine = s.engine ∧
      copied.position = s.position := by
    rw [← hcopied]
    split <;> exact ⟨rfl, rfl, rfl, rfl, rfl, rfl⟩
  have hbroadcast : exec (.frameReceivedUpstream (wireBytes f)) s = .next (broadcast f s) := by
    rw [exec_upstream_whole hd hr hf, fromUpstream, if_pos ((address_eq_31_iff f).mpr haddress)]
  have hkind {k : RequestKind} (hk : kindOfByte f.kind = some k) (hset : k.broadcast = true) :
      exec (.frameReceivedUpstream (wireBytes f)) s = .next (broadcastFrame k f s) := by
    rw [hbroadcast, broadcast, hk]
    simp only [hset, if_true]
  have hserved {k : RequestKind} (hk : kindOfByte f.kind = some k) (hset : k.broadcast = true) (hreset : k ≠ .partReset)
      (hlen : f.payload.length = k.length) : exec (.frameReceivedUpstream (wireBytes f)) s = .next
        (k.serve f.payload (if dropped then setFlags (flagBadFrame ||| flagUp) copied else copied)).silent := by
    rw [hkind hk hset, broadcastFrame]
    simp only [hlen, ne_eq, not_true, if_false, hreset, hcopied]
    rw [serveBroadcast_eq hset hreset, setFlags_broadcastFlags hlen]
  clear_value copied
  obtain ⟨hrequests, hpaused, hdue, hformatter, hengine, hposition⟩ := hlinks
  refine ⟨fun hnone => ?_, fun hstop hp => ?_, ?_, fun hpartReset hp => ?_, ?_⟩
  · rw [hbroadcast, broadcast]
    split
    next k hk => rw [if_neg (by rw [hnone k hk]; decide)]
    · rfl
  · rw [hserved (k := .recordStop) (by rw [hstop]; rfl) rfl nofun (by rw [hp]; rfl), hp]
    have ht : (if dropped then setFlags (flagBadFrame ||| flagUp) copied else copied).formatter = s.formatter := by
      split <;> simp [hformatter]
    generalize (if dropped then setFlags (flagBadFrame ||| flagUp) copied else copied) = t at ht
    show Host.Outcome.next (t.setFormatter t.formatter.stop) = _
    rw [← ht]
    unfold Formatter.stop
    cases hstate : t.formatter.state <;> simp
  · intro k hk hset hreset hlen t r asked clears
    have ht : t.link.requests = s.link.requests ∧ t.link.paused = s.link.paused ∧ t.link.resetDue = false := by
      show (if dropped then _ else copied).link.requests = _ ∧ (if dropped then _ else copied).link.paused = _ ∧
        (if dropped then _ else copied).link.resetDue = _
      split <;> simp [hrequests, hpaused, hdue, hd]
    have hexec := hserved hk hset hreset hlen
    change _ = Host.Outcome.next (k.serve f.payload t).silent at hexec
    clear_value t
    have hclears : (k.serve f.payload t).evaluates = true ↔ clears := serve_evaluates_iff k f.payload t hset hlen
    obtain ⟨hqueue, hrunning⟩ := serve_link t hset hreset f.payload
    refine ⟨(k.serve f.payload t).reply, (k.serve f.payload t).state.queued [r] false, rfl, ?_, ?_⟩
    · have h := exec_row_only (r := { kind := k, tag := f.tag, payload := f.payload, served := false }) ht.2.2 hset
        hreset rfl
      dsimp only at h
      simp only [hclears] at h
      exact h
    · intro kept
      have hkept : kept = (k.serve f.payload t).state := by
        show State.queued s.link.requests s.link.paused _ = _
        rw [← ht.1, ← ht.2.1, ← hqueue, ← hrunning]
        rfl
      rw [hexec, hkept, Served.silent]
      simp only [hclears]
  · refine ⟨_, hkind (k := .partReset) (by rw [hpartReset]; rfl) rfl, ?_⟩
    have hframe : broadcastFrame .partReset f s = if hasCopy s = true
        then setFlags (broadcastFlags .partReset f s) copied else fallDue (setFlags (broadcastFlags .partReset f s) copied) := by
      unfold broadcastFrame
      simp only [hcopied, hp]
      rfl
    rw [hframe]
    by_cases hcopy : hasCopy s = true
    · rw [if_pos hcopy]
      have ⟨hpresent, hroom⟩ := (hasCopy_iff s).mp hcopy
      simp [hdue, hd, hpresent, hroom, hformatter, hengine, hposition, hrequests]
    · rw [if_neg hcopy]
      have hnone : s.pins.present = false ∨ 2 ≤ s.link.hold.length := by
        rw [hasCopy_iff, not_and_or, Bool.not_eq_true, not_lt] at hcopy
        exact hcopy
      exact ⟨iff_of_true rfl hnone, by simp [fallDue], by simp [fallDue, hformatter], by simp [fallDue, hengine],
        by simp [fallDue, hposition], by simp [fallDue, hrequests]⟩
  · intro k hk hset hlen
    rw [hkind hk hset, broadcastFrame]
    simp only [hlen, ne_eq, not_false_eq_true, if_true, hcopied]
    rw [broadcastFlags_badLength hlen]

end Sys2Proof.Machine
end

section
/-! PROOFS. The port requests at service (O36): SOURCE SELECT with a change of session rate, MONITOR SELECT, INPUT STATUS
READ. -/

namespace Sys2Proof.Machine

/-- A request that comes up for service is served by its kind's rule. -/
theorem exec_serves {s : State} {r : LinkRequest} (h : Serves s r) {k : RequestKind} (hk : r.kind = k) :
    exec k.row s = .next (serveRequest k.serve r s) := by
  subst hk
  exact exec_row_serves h

/-- A request turned away by its rule is answered with the status. -/
theorem exec_turnedAway {s : State} {r : LinkRequest} (h : Serves s r) {k : RequestKind} (hk : r.kind = k) {st : Status}
    (hserve : k.serve r.payload s = turnedAway s st) : exec k.row s = .next (replied r [st.code] s) := by
  rw [exec_serves h hk, serveRequest_turnedAway hserve]

/-- A request served with DONE is answered, and leaves what its rule gives. -/
theorem exec_served {s t : State} {r : LinkRequest} (h : Serves s r) {k : RequestKind} (hk : r.kind = k)
    {content : List Byte} (hserve : k.serve r.payload s = served t content) :
    exec k.row s = .next (replied r (0 :: content) t) := by
  rw [exec_serves h hk, serveRequest_served hserve]

/-! ## The emptied cue list -/

/-- What is HELD behind any of these ids becomes WAITING. -/
def QueryEntry.releaseAll (ids : List Nat) (e : QueryEntry) : QueryEntry :=
  match e.state with
  | .held id => if id ∈ ids then { e with state := .waiting } else e
  | .waiting | .complete _ _ => e

theorem releaseAll_release (id : Nat) (ids : List Nat) (e : QueryEntry) :
    (e.release id).releaseAll ids = e.releaseAll (id :: ids) := by
  obtain ⟨kind, frame, state, passes, wait⟩ := e
  cases state with
  | held held =>
    by_cases h : held = id
    · subst h
      simp [QueryEntry.release, QueryEntry.releaseAll]
    · simp [QueryEntry.release, QueryEntry.releaseAll, h]
  | waiting => rfl
  | complete age outcome => rfl

/-- What is HELD behind an entry of this list becomes WAITING. -/
theorem releaseAll_cues (cues : List CueEntry) (e : QueryEntry) :
    e.releaseAll (cues.map (fun c => c.id)) = match e.state with
      | .held id => if cues.any (fun c => c.id == id) then { e with state := .waiting } else e
      | .waiting | .complete _ _ => e := by
  obtain ⟨kind, frame, state, passes, wait⟩ := e
  cases state with
  | held id => simp [QueryEntry.releaseAll]
  | waiting => rfl
  | complete age outcome => rfl

theorem foldl_removeCue (ids : List Nat) (s : State) : ids.foldl (fun t id => removeCue id t) s =
    (s.setEngine { s.engine with cues := s.engine.cues.filter (fun e => decide (e.id ∉ ids)) }).setQuery
      { s.query with entries := s.query.entries.map (QueryEntry.releaseAll ids) } := by
  induction ids generalizing s with
  | nil =>
    have hnone : QueryEntry.releaseAll [] = id := funext fun e => by
      unfold QueryEntry.releaseAll
      split <;> simp
    simp [hnone]
    rfl
  | cons id ids ih =>
    have hkeep : (fun e : CueEntry => decide (e.id ∉ ids) && e.id != id) = fun e => decide (e.id ∉ id :: ids) := by
      funext e
      rw [Bool.eq_iff_iff]
      simp [and_comm]
    have hrelease : QueryEntry.releaseAll ids ∘ QueryEntry.release id = QueryEntry.releaseAll (id :: ids) :=
      funext fun e => releaseAll_release id ids e
    rw [List.foldl_cons, ih, ← hkeep, ← hrelease, ← List.filter_filter, ← List.map_map]
    rfl

theorem emptyCues_eq (s : State) : emptyCues s = (s.setEngine { s.engine with cues := [] }).setQuery
    { s.query with entries := s.query.entries.map (QueryEntry.releaseAll (s.engine.cues.map (fun e => e.id))) } := by
  rw [emptyCues, foldl_removeCue]
  have hnone : s.engine.cues.filter (fun e => decide (e.id ∉ s.engine.cues.map (fun e => e.id))) = [] := by
    simp only [List.filter_eq_nil_iff, decide_eq_true_eq, not_not]
    exact fun e he => List.mem_map_of_mem he
  rw [hnone]

/-! ## A change of session rate -/

/-- The state at a change of session rate, before the input status is derived again. -/
def rateChanged (rate : Rate) (s : State) : State :=
  let s1 := emptyCues (emptyBuffer s)
  let s2 := (s1.setRing []).setConceal s1.conceal.forget
  (s2.setOutput (s2.output.rateChange rate)).setInput { s2.input with rate := rate }

section RateChanged
variable (rate : Rate) (s : State)

@[simp] theorem rateChanged_input :
    (rateChanged rate s).input = { s.input with rate := rate, gathering := none, closed := [] } := by
  simp [rateChanged, emptyCues_eq, emptyBuffer]

@[simp] theorem rateChanged_lineage : (rateChanged rate s).lineage = { s.lineage with interval := none } := by
  simp [rateChanged, emptyCues_eq, emptyBuffer]

@[simp] theorem rateChanged_engine : (rateChanged rate s).engine = { s.engine with cues := [] } := by
  simp [rateChanged, emptyCues_eq, emptyBuffer]

@[simp] theorem rateChanged_query : (rateChanged rate s).query =
    { s.query with entries := s.query.entries.map (QueryEntry.releaseAll (s.engine.cues.map (fun e => e.id))) } := by
  simp [rateChanged, emptyCues_eq, emptyBuffer]

@[simp] theorem rateChanged_ring : (rateChanged rate s).ring = [] := by simp [rateChanged]

@[simp] theorem rateChanged_conceal : (rateChanged rate s).conceal = s.conceal.forget := by
  simp [rateChanged, emptyCues_eq, emptyBuffer]

@[simp] theorem rateChanged_output : (rateChanged rate s).output = s.output.rateChange rate := by
  simp [rateChanged, emptyCues_eq, emptyBuffer]

/-- The blocks that a change of rate leaves. -/
theorem rateChanged_keeps : (rateChanged rate s).formatter = s.formatter ∧ (rateChanged rate s).decoder = s.decoder ∧
    (rateChanged rate s).gathered = s.gathered ∧ (rateChanged rate s).position = s.position ∧
    (rateChanged rate s).pins = s.pins ∧ (rateChanged rate s).sampleCount = s.sampleCount := by
  simp [rateChanged, emptyCues_eq, emptyBuffer]

end RateChanged

theorem changeRate_eq (rate : Rate) (s : State) : changeRate rate s = rederive (rateChanged rate s) := rfl

theorem classNow_rederive (s : State) : classNow (rederive s) = classNow s := by
  rw [rederive_eq]
  split <;> simp [classNow, follow]

/-! ## Codes -/

theorem sourceOfCode_eq (b : Byte) :
    sourceOfCode b = if b.toNat ≤ 1 then some (if b = 0 then .converter else .digital) else none := by
  simp only [sourceOfCode, ← BitVec.toNat_inj]
  grind

theorem rateOfCode_eq (b : Byte) :
    rateOfCode b = if b.toNat ≤ 1 then some (if b = 0 then .rate48 else .rate44) else none := by
  simp only [rateOfCode, ← BitVec.toNat_inj]
  grind

/-! ## INPUT STATUS READ (R31) -/

theorem sourceCode_byte (x : Source) : be 1 (sourceCode x) = [if x = .converter then 0 else 1] := by cases x <;> rfl

theorem inputStatusField_bytes (l : Lineage) : optField 3 (inputStatusField l) = match l.cls, l.arrival with
    | .absent, _ => [0, 0, 0, 0]
    | _, none => [0, 0, 0, 0]
    | _, some a => [1, if a.format = .pro then 0 else 1, BitVec.ofNat 8 (markCode a.copy),
        BitVec.ofNat 8 (arrivalRateCode a.rate)] := by
  cases harrival : l.arrival with
  | none => cases hcls : l.cls <;> simp [inputStatusField, hcls, harrival, optField]
  | some a =>
    obtain ⟨format, copy, rate⟩ := a
    cases hcls : l.cls <;> simp [inputStatusField, hcls, harrival, optField, be_one] <;>
      cases format <;> rfl

theorem closedField_bytes (closed : List CaptureFrame) :
    optField 6 (closed.head?.map (fun c => frameBytes c.number ++ be 1 (conditionCode c.condition) ++ be 2 c.received)) =
      match closed with
      | [] => [0, 0, 0, 0, 0, 0, 0]
      | c :: _ => 1 :: be 3 c.number.toNat ++ [BitVec.ofNat 8 (conditionCode c.condition)] ++ be 2 c.received := by
  cases closed with
  | nil => rfl
  | cons c closed => simp [optField, be_one, frameBytes]

/-- Settles O36. -/
theorem portRequestsServed : Obligations.PortRequestsServed := by
  refine ⟨?_, ?_, ?_⟩
  · intro s r src rt h hk hp source rate
    have hserve : serveSourceSelect r.payload s = if 1 < src.toNat ∨ 1 < rt.toNat then turnedAway s .badValue
        else if rateBlocked rate s = true then turnedAway s .state
        else served (if rate = s.input.rate then s.setInput { s.input with source := source }
          else changeRate rate (s.setInput { s.input with source := source })) [] := by
      rw [hp]
      simp only [serveSourceSelect, sourceOfCode_eq, rateOfCode_eq]
      by_cases hsrc : src.toNat ≤ 1
      · by_cases hrt : rt.toNat ≤ 1
        · rw [if_pos hsrc, if_pos hrt, if_neg (show ¬ (1 < src.toNat ∨ 1 < rt.toNat) by omega)]
        · rw [if_pos hsrc, if_neg hrt, if_pos (show 1 < src.toNat ∨ 1 < rt.toNat by omega)]
      · rw [if_neg hsrc, if_pos (show 1 < src.toNat ∨ 1 < rt.toNat by omega)]
    have hsource : source = if src = 0 then .converter else .digital := rfl
    have hrate : rate = if rt = 0 then .rate48 else .rate44 := rfl
    clear_value source rate
    split
    next hbad => exact exec_turnedAway (st := .badValue) h hk (by rw [RequestKind.serve, hserve, if_pos hbad])
    next hgood =>
      rw [if_neg hgood] at hserve
      split
      next hsame =>
        exact exec_served h hk (by rw [RequestKind.serve, hserve, if_neg (by simp [rateBlocked, hsame]), if_pos hsame])
      next hnew =>
        have hblocked : rateBlocked rate s = true ↔ s.formatter.state ≠ .idle ∨ s.engine.state ≠ .disarmed := by
          simp [rateBlocked, hnew]
        rw [if_neg hnew] at hserve
        split
        next hbusy => exact exec_turnedAway (st := .state) h hk (by rw [RequestKind.serve, hserve, if_pos (hblocked.mpr hbusy)])
        next hfree =>
          refine ⟨_, exec_served h hk (by rw [RequestKind.serve, hserve, if_neg (hfree ∘ hblocked.mp)]), ?_⟩
          rw [changeRate_eq]
          refine ⟨?_, ?_, ?_, ?_, ?_, ?_, ?_, ?_, ?_, ?_, ?_, ?_, ?_, ?_, ?_, ?_, ?_, ?_, ?_, ?_, ?_⟩
          · simp [rederive_input]
          · simp [rederive_lineage]
          · rw [classNow_rederive, rederive_cls]
          · simp [rederive_lineage]
          · simp [rederive_lineage]
          · simp [rederive_lineage]
          · simp [rederive_lineage]
          · rw [rederive_cls]
            intro hcls
            exact rederive_raises (by simpa using hcls)
          · simp
          · simp
          · simp
          · rw [rederive_query, rateChanged_query]
            exact List.map_congr_left fun e _ => releaseAll_cues _ e
          · simp [Conceal.forget]
          · intro hd
            rw [rederive_conceal, rateChanged_conceal]
            cases hd <;> exact ⟨rfl, rfl⟩
          · rw [rederive_output, rateChanged_output]
            rfl
          all_goals simp [rateChanged_keeps]
  · intro s r m h hk hp
    have hserve : serveMonitorSelect r.payload s = match monitorOfCode m with
        | some monitor => served (s.setOutput { s.output with monitor := monitor }) []
        | none => turnedAway s .badValue := by
      rw [hp]
      rfl
    unfold monitorOfCode at hserve
    split
    next h0 => exact exec_served h hk (by rw [RequestKind.serve, hserve, if_pos h0])
    next h0 =>
      rw [if_neg h0] at hserve
      split
      next h1 => exact exec_served h hk (by rw [RequestKind.serve, hserve, if_pos h1])
      next h1 =>
        rw [if_neg h1] at hserve
        split
        next h2 => exact exec_served h hk (by rw [RequestKind.serve, hserve, if_pos h2])
        next h2 =>
          rw [if_neg h2] at hserve
          split
          next h3 => exact exec_served h hk (by rw [RequestKind.serve, hserve, if_pos h3])
          next h3 =>
            rw [if_neg h3] at hserve
            exact exec_turnedAway (st := .badValue) h hk (by rw [RequestKind.serve, hserve])
  · intro s r h hk hp
    have hserve : serveInputStatusRead r.payload s = served s
        (be 1 (sourceCode s.input.source) ++ be 1 (rateCode s.input.rate) ++ bit s.pins.locked
          ++ optField 3 (inputStatusField s.lineage)
          ++ optField 6 (s.input.closed.head?.map (fun c => frameBytes c.number
            ++ be 1 (conditionCode c.condition) ++ be 2 c.received))) := by
      rw [hp]
      rfl
    refine ⟨_, exec_served h hk hserve, ?_, ?_⟩
    · have hstatus : (optField 3 (inputStatusField s.lineage)).length = 4 := length_optField (by
        unfold inputStatusField
        split
        · exact nofun
        · simp)
      have hclosed : (optField 6 (s.input.closed.head?.map (fun c => frameBytes c.number
          ++ be 1 (conditionCode c.condition) ++ be 2 c.received))).length = 7 := length_optField (by simp [frameBytes])
      simp only [List.length_cons, List.length_append, length_be, length_bit, hstatus, hclosed]
    · have hhead : 0 :: (be 1 (sourceCode s.input.source) ++ be 1 (rateCode s.input.rate) ++ bit s.pins.locked) =
          [0, if s.input.source = .converter then 0 else 1, if s.input.rate = .rate48 then 0 else 1,
            if s.pins.locked then 1 else 0] := by
        rw [sourceCode_byte, be_one (rateCode _), rateCode_byte]
        rfl
      exact congrArg₂ (· ++ ·) (congrArg₂ (· ++ ·) hhead (inputStatusField_bytes _)) (closedField_bytes _)

end Sys2Proof.Machine
end

section
/-! PROOFS. The record formatter's requests at service (O38): RECORD START, RECORD STOP, RECORD STATUS. -/

namespace Sys2Proof.Machine

theorem recordModeOfCode_eq (b : Byte) :
    recordModeOfCode b = if b.toNat ≤ 1 then some (if b = 0 then .continuing else .new) else none := by
  simp only [recordModeOfCode, ← BitVec.toNat_inj]
  grind

/-- Two bytes spell a number that a word holds. -/
theorem word16OfBytes_toNat (a b : Byte) : (word16OfBytes a b).toNat = ofBe [a, b] := by
  have ha := a.isLt
  have hb := b.isLt
  simp only [word16OfBytes, BitVec.toNat_ofNat, ofBe, List.foldl_cons, List.foldl_nil]
  omega

theorem optFrame_eq (o : Option FrameNo) : optFrame o = match o with
    | some n => 1 :: be 3 n.toNat
    | none => [0, 0, 0, 0] := by
  cases o <;> rfl

/-- An emission still in progress belongs to an earlier recording, or to the edit engine. -/
theorem outlive_eq : Emission.outlive = fun e =>
    { e with origin := if e.origin = .splice then .splice else .earlier } := by
  funext ⟨number, blocks, origin⟩
  cases origin <;> rfl

/-- RECORD STATUS reads the recording record. -/
theorem recordMode_bytes (o : Option RecordMode) : optByte (o.map recordModeCode) = match o with
    | none => [0, 0]
    | some .continuing => [1, 0]
    | some .new => [1, 1] := by
  cases o with
  | none => rfl
  | some m => cases m <;> rfl

theorem endReason_bytes (o : Option EndReason) : optByte (o.map endReasonCode) = match o with
    | none => [0, 0]
    | some .stopped => [1, 0]
    | some .transport => [1, 1]
    | some .refused => [1, 2] := by
  cases o with
  | none => rfl
  | some x => cases x <;> rfl

theorem formatterCode_byte (x : FormatterState) : be 1 (formatterCode x) = [match x with
    | .idle => 0
    | .recording => 1
    | .stopping => 2] := by
  cases x <;> rfl

/-- Settles O38. -/
theorem recordRequestsServed : Obligations.RecordRequestsServed := by
  refine ⟨?_, ?_, ?_⟩
  · intro s r m f0 f1 f2 p0 p1 t0 t1 h hk hp program start
    have hserve : serveRecordStart r.payload s =
        if 1 < m.toNat ∨ 999 < ofBe [p0, p1] then turnedAway s .badValue
        else if recordBlocked (if m = 0 then .continuing else .new) s = true then turnedAway s .state
        else served (startRecording (if m = 0 then .continuing else .new) start program (BitVec.ofNat 16 (ofBe [t0, t1])) s)
          (be 1 (formatterCode (startRecording (if m = 0 then .continuing else .new) start program
              (BitVec.ofNat 16 (ofBe [t0, t1])) s).formatter.state)
            ++ frameBytes ((startRecording (if m = 0 then .continuing else .new) start program
              (BitVec.ofNat 16 (ofBe [t0, t1])) s).position.w + 1)) := by
      rw [hp]
      simp only [serveRecordStart, recordModeOfCode_eq, word16OfBytes_toNat]
      by_cases hm : m.toNat ≤ 1
      · rw [if_pos hm]
        by_cases hprogram : 999 < ofBe [p0, p1]
        · rw [if_pos (show 1 < m.toNat ∨ 999 < ofBe [p0, p1] from .inr hprogram)]
          exact if_pos hprogram
        · rw [if_neg (show ¬ (1 < m.toNat ∨ 999 < ofBe [p0, p1]) by omega)]
          exact if_neg hprogram
      · rw [if_neg hm, if_pos (show 1 < m.toNat ∨ 999 < ofBe [p0, p1] by omega)]
    split
    next hbad => exact exec_turnedAway (st := .badValue) h hk (by rw [RequestKind.serve, hserve, if_pos hbad])
    next hgood =>
      rw [if_neg hgood] at hserve
      have hblocked : recordBlocked (if m = 0 then .continuing else .new) s = true ↔ s.formatter.state ≠ .idle ∨
          s.engine.state ≠ .disarmed ∨ s.pins.transport ≠ .play ∨ (m = 0 ∧ s.position.lock ≠ .locked) := by
        by_cases hm : m = 0 <;> simp [recordBlocked, hm, or_assoc]
      split
      next hbusy => exact exec_turnedAway (st := .state) h hk (by rw [RequestKind.serve, hserve, if_pos (hblocked.mpr hbusy)])
      next hfree =>
        rw [if_neg (hfree ∘ hblocked.mp)] at hserve
        intro started
        rw [formatterCode_byte] at hserve
        have hexec := exec_served h hk hserve
        have hstarted (mode : RecordMode) (hmode : mode = if m = 0 then .continuing else .new) :
            s.setFormatter (s.formatter.start mode program (BitVec.ofNat 16 (ofBe [t0, t1]))) = started := by
          rw [hmode, Formatter.start, outlive_eq]
        clear_value started
        split
        next hm =>
          simp only [hm, if_true, startRecording, hstarted .continuing] at hexec
          rw [← hstarted .continuing (by rw [if_pos hm])] at hexec ⊢
          exact hexec
        next hm =>
          intro diff
          simp only [hm, if_false, startRecording, hstarted .new] at hexec
          simp only [newStart, raiseIf_position, raiseIf_formatter] at hexec
          rw [← hstarted .new (by rw [if_neg hm])] at hexec ⊢
          exact hexec
  · intro s r h hk hp last
    have hserve : serveRecordStop r.payload s = served (s.setFormatter s.formatter.stop)
        (be 1 (formatterCode s.formatter.stop.state) ++ optFrame s.formatter.stop.record.last) := by
      rw [hp]
      rfl
    rw [formatterCode_byte] at hserve
    have hexec := exec_served h hk hserve
    have hlast : last = optFrame s.formatter.record.last := (optFrame_eq _).symm
    rw [hlast]
    cases hstate : s.formatter.state with
    | recording =>
      have hstop : s.formatter.stop = { s.formatter with state := .stopping } := by
        unfold Formatter.stop
        simp only [hstate]
      rw [hstop] at hexec
      exact hexec
    | stopping =>
      have hstop : s.formatter.stop = s.formatter := by
        unfold Formatter.stop
        simp only [hstate]
      rw [hstop, hstate] at hexec
      exact hexec
    | idle =>
      have hstop : s.formatter.stop = s.formatter := by
        unfold Formatter.stop
        simp only [hstate]
      rw [hstop, hstate] at hexec
      exact hexec
  · intro s r h hk hp rec' frame
    have hserve : serveRecordStatus r.payload s = served s (be 1 (formatterCode s.formatter.state)
        ++ optByte (rec'.mode.map recordModeCode) ++ be 2 rec'.program.toNat ++ be 2 rec'.take.toNat
        ++ optFrame rec'.first ++ optFrame rec'.last ++ be 4 rec'.framesWritten ++ be 4 rec'.framesSilenced
        ++ optByte (rec'.endReason.map endReasonCode) ++ be 1 s.formatter.written.length
        ++ be 4 s.formatter.unconfirmed) := by
      rw [hp]
      rfl
    refine ⟨_, exec_served h hk hserve, by simp, ?_⟩
    rw [formatterCode_byte, recordMode_bytes, endReason_bytes, optFrame_eq, optFrame_eq, be_one]
    rfl

end Sys2Proof.Machine
end

section
/-! PROOFS. The decoder's and the concealment unit's requests at service (O49). -/

namespace Sys2Proof.Machine

theorem headOfCode_eq (b : Byte) :
    headOfCode b = if b.toNat ≤ 1 then some (if b = 0 then .advance else .confidence) else none := by
  simp only [headOfCode, ← BitVec.toNat_inj]
  grind

theorem headCode_byte (h : Head) : be 1 (headCode h) = [if h = .advance then 0 else 1] := by cases h <;> rfl

theorem subcodeSourceCode_byte (x : SubcodeSource) : be 1 (subcodeSourceCode x) = [match x with
    | .a => 0
    | .b => 1
    | .none => 2] := by
  cases x <;> rfl

/-- The quality record's bytes, field by field (1.7). -/
theorem qualityBytes_eq (q : QualityRecord) : qualityBytes q = (match q.number with
      | some x => 1 :: be 3 x.toNat
      | none => [0, 0, 0, 0])
    ++ [if q.head = .advance then 0 else 1, BitVec.ofNat 8 q.erased, BitVec.ofNat 8 q.recovered, BitVec.ofNat 8 q.lost]
    ++ be 2 q.interpolated ++ be 2 q.held
    ++ [BitVec.ofNat 8 q.lowest, match q.source with
        | .a => 0
        | .b => 1
        | .none => 2,
      BitVec.ofNat 8 q.foreign, if q.mismatch then 1 else 0] := by
  rw [qualityBytes, optFrame_eq, headCode_byte, subcodeSourceCode_byte, be_one, be_one, be_one, be_one, be_one]
  simp only [bit, List.append_assoc, List.cons_append, List.nil_append] <;> rfl

/-- The named state of a channel, with its gain and hold count (R81, R86). -/
theorem channelReport_eq (hlim : Nat) (x : ChannelState) : channelReport hlim x =
    [if x.g = 0 then 4 else if hlim < x.h then 2 else if 1 ≤ x.h then 1 else if x.g < 32 then 3 else 0,
      BitVec.ofNat 8 x.g] ++ be 2 x.h := by
  have hname : be 1 (namedCode (x.named hlim)) =
      [if x.g = 0 then 4 else if hlim < x.h then 2 else if 1 ≤ x.h then 1 else if x.g < 32 then 3 else 0] := by
    unfold ChannelState.named
    simp only [apply_ite namedCode, apply_ite (be 1), apply_ite (fun b : Byte => [b])]
    rfl
  rw [channelReport, hname, be_one]
  rfl

/-- Settles O49. -/
theorem decoderRequestsServed : Obligations.DecoderRequestsServed := by
  refine ⟨rfl, rfl, rfl, rfl, ?_, ?_, ?_, ?_⟩
  · intro s r hd start count h hk hp
    have hserve : serveQualityRead r.payload s =
        if 1 < hd.toNat ∨ 15 < start.toNat ∨ count.toNat < 1 ∨ 14 < count.toNat then turnedAway s .badValue
        else served s (be 1 (s.decoder.history.get (if hd = 0 then .advance else .confidence)).length
          ++ be 4 (s.decoder.totals.get (if hd = 0 then .advance else .confidence)).decoded
          ++ be 1 (((s.decoder.history.get (if hd = 0 then .advance else .confidence)).drop start.toNat).take
              count.toNat).length
          ++ (((s.decoder.history.get (if hd = 0 then .advance else .confidence)).drop start.toNat).take
              count.toNat).flatMap qualityBytes) := by
      rw [hp]
      simp only [serveQualityRead, headOfCode_eq]
      by_cases hhd : hd.toNat ≤ 1
      · rw [if_pos hhd]
        simp only [show ¬ 1 < hd.toNat by omega, false_or]
      · rw [if_neg hhd, if_pos (show 1 < hd.toNat ∨ _ from .inl (by omega))]
    split
    next hbad => exact exec_turnedAway (st := .badValue) h hk (by rw [RequestKind.serve, hserve, if_pos hbad])
    next hgood =>
      rw [if_neg hgood, be_one, be_one] at hserve
      exact ⟨exec_served h hk hserve, fun q => ⟨length_qualityBytes q, qualityBytes_eq q⟩⟩
  · intro s r c h hk hp four reply
    have hserve : serveQualityTotals r.payload s = if 1 < c.toNat then turnedAway s .badValue
        else served (if c = 0 then s else s.setDecoder { s.decoder with totals := ⟨Totals.zero, Totals.zero⟩ })
          (totalsBytes s.decoder.totals.advance ++ totalsBytes s.decoder.totals.confidence) := by
      rw [hp]
      simp only [serveQualityTotals, boolOfCode_eq]
      by_cases hc : c.toNat ≤ 1
      · rw [if_pos hc, if_neg (show ¬ 1 < c.toNat by omega)]
        by_cases hzero : c = 0
        · subst hzero
          rfl
        · have hone : c = 1 := by bv_omega
          subst hone
          rfl
      · rw [if_neg hc, if_pos (show 1 < c.toNat by omega)]
    split
    next hbad => exact exec_turnedAway (st := .badValue) h hk (by rw [RequestKind.serve, hserve, if_pos hbad])
    next hgood =>
      rw [if_neg hgood] at hserve
      split
      next hzero =>
        rw [if_pos hzero] at hserve
        exact exec_served h hk hserve
      next hone =>
        rw [if_neg hone] at hserve
        exact exec_served h hk hserve
  · intro s r d h hk hp
    have hserve : servePrereadSetup r.payload s = if d.toNat < 1 ∨ 4 < d.toNat then turnedAway s .badValue
        else if s.formatter.state ≠ .idle ∨ s.engine.state ≠ .disarmed then turnedAway s .state
        else served (s.setDecoder { s.decoder with preread := d.toNat }) [d] := by
      rw [hp]
      rfl
    split
    next hbad => exact exec_turnedAway (st := .badValue) h hk (by rw [RequestKind.serve, hserve, if_pos hbad])
    next hgood =>
      rw [if_neg hgood] at hserve
      split
      next hbusy => exact exec_turnedAway (st := .state) h hk (by rw [RequestKind.serve, hserve, if_pos hbusy])
      next hfree =>
        rw [if_neg hfree] at hserve
        exact exec_served h hk hserve
  · intro s r apply lim h hk hp report reply
    have hserve : serveConcealSetup r.payload s = if 1 < apply.toNat then turnedAway s .badValue
        else if apply = 0 then served s (concealReport s.conceal)
        else served (s.setConceal { s.conceal with hlim := lim.toNat })
          (concealReport { s.conceal with hlim := lim.toNat }) := by
      rw [hp]
      simp only [serveConcealSetup, boolOfCode_eq]
      by_cases hc : apply.toNat ≤ 1
      · rw [if_pos hc, if_neg (show ¬ 1 < apply.toNat by omega)]
        by_cases hzero : apply = 0
        · subst hzero
          rfl
        · have hone : apply = 1 := by bv_omega
          subst hone
          rfl
      · rw [if_neg hc, if_pos (show 1 < apply.toNat by omega)]
    have hreply (limit : Nat) : 0 :: concealReport { s.conceal with hlim := limit } = reply limit := by
      rw [concealReport, be_one, channelReport_eq, channelReport_eq, channelReport_eq, channelReport_eq]
      rfl
    clear_value reply
    split
    next hbad => exact exec_turnedAway (st := .badValue) h hk (by rw [RequestKind.serve, hserve, if_pos hbad])
    next hgood =>
      rw [if_neg hgood] at hserve
      split
      next hzero =>
        rw [if_pos hzero] at hserve
        rw [← hreply]
        exact exec_served h hk hserve
      next hone =>
        rw [if_neg hone] at hserve
        rw [← hreply]
        exact exec_served h hk hserve

end Sys2Proof.Machine
end

section
/-! PROOFS. The cue list's requests at service (O54): CUE ADD, CUE REMOVE, CUE READ. -/

namespace Sys2Proof.Machine

/-! ## CUE ADD (R105, R106) -/

/-- The next id is the first after the last assigned, counting 1 to 255 and then 1 again, that no entry carries. -/
theorem nextId_first {e : Engine} (h : e.cues.length < 255) : ∃ k, k < 255 ∧
    nextId e = (e.lastId.getD 0 + k) % 255 + 1 ∧
      ∀ j, j < k → ∃ c ∈ e.cues, c.id = (e.lastId.getD 0 + j) % 255 + 1 := by
  obtain ⟨hlow, _, _⟩ := nextId_fresh h
  unfold nextId at hlow ⊢
  generalize e.lastId.getD 0 = l at hlow ⊢
  cases hf : ((List.range 255).map (fun k => (l + k) % 255 + 1)).find? (fun id => !e.cues.any (fun c => c.id == id)) with
  | none => simp [hf] at hlow
  | some id =>
    obtain ⟨_, k, hk, hid, hbefore⟩ := List.find?_eq_some_iff_getElem.mp hf
    simp only [List.length_map, List.length_range] at hk
    simp only [List.getElem_map, List.getElem_range] at hid
    refine ⟨k, hk, hid.symm, fun j hj => ?_⟩
    simpa using hbefore j hj

theorem badCue_iff (n inP outP fade program : Nat) : badCue n inP outP fade program = true ↔
    fade < 16 ∨ 4096 < fade ∨ 999 < program ∨ 16777216 * n ≤ inP ∨ 16777216 * n ≤ outP ∨ outP < inP + fade ∨
      16777216 * n ≤ outP + fade - 1 := by
  simp only [badCue, Bool.or_eq_true, decide_eq_true_eq, or_assoc]
  exact Iff.rfl

theorem beforeCursor_iff (inP : Nat) (s : State) : beforeCursor inP s = true ↔
    s.engine.state ≠ .disarmed ∧ ∀ c, cursorCue s = some c → inP < c.inPoint := by
  unfold beforeCursor
  cases s.engine.state with
  | disarmed => simp
  | armed => cases cursorCue s <;> simp
  | active => cases cursorCue s <;> simp

theorem overlapping_iff (n id inP outP fade : Nat) (program take : Word16) (cues : List CueEntry) :
    cues.any (overlaps n (newCue id inP outP fade program take)) = true ↔
      ∃ c ∈ cues, inP / n ≤ c.lastFrame n ∧ c.startFrame n ≤ (outP + fade - 1) / n := by
  simp only [overlaps, List.any_eq_true, Bool.and_eq_true, decide_eq_true_eq]
  exact Iff.rfl

/-- CUE ADD, each ground for turning it away in its order. -/
theorem addCue_cases (inP outP fade : Nat) (program take : Word16) (s : State) :
    let bad := badCue (spf s.input.rate) inP outP fade program.toNat
    let meets := s.engine.cues.any
      (overlaps (spf s.input.rate) (newCue (nextId s.engine) inP outP fade program take))
    (bad = true → addCue inP outP fade program take s = turnedAway s .badValue) ∧
    (¬ bad = true → 16 ≤ s.engine.cues.length → addCue inP outP fade program take s = turnedAway s .full) ∧
    (¬ bad = true → s.engine.cues.length < 16 → meets = true → addCue inP outP fade program take s = turnedAway s .order) ∧
    (¬ bad = true → s.engine.cues.length < 16 → ¬ meets = true → beforeCursor inP s = true →
      addCue inP outP fade program take s = turnedAway s .state) ∧
    (¬ bad = true → s.engine.cues.length < 16 → ¬ meets = true → ¬ beforeCursor inP s = true →
      addCue inP outP fade program take s = served (s.setEngine { s.engine with
          cues := insertCue (newCue (nextId s.engine) inP outP fade program take) s.engine.cues
          lastId := some (nextId s.engine) })
        [BitVec.ofNat 8 (nextId s.engine),
          BitVec.ofNat 8 (s.engine.cues.takeWhile (fun c => c.inPoint < inP)).length]) := by
  intro bad meets
  refine ⟨fun hbad => ?_, fun hbad hfull => ?_, fun hbad hroom hmeets => ?_, fun hbad hroom hmeets hbefore => ?_,
    fun hbad hroom hmeets hbefore => ?_⟩
  · exact if_pos hbad
  · exact (if_neg hbad).trans (if_pos hfull)
  · exact (if_neg hbad).trans ((if_neg (show ¬ Config.cueCap ≤ _ from Nat.not_le.mpr hroom)).trans (if_pos hmeets))
  · exact (if_neg hbad).trans ((if_neg (show ¬ Config.cueCap ≤ _ from Nat.not_le.mpr hroom)).trans
      ((if_neg hmeets).trans (if_pos hbefore)))
  · refine (if_neg hbad).trans ((if_neg (show ¬ Config.cueCap ≤ _ from Nat.not_le.mpr hroom)).trans
      ((if_neg hmeets).trans ((if_neg hbefore).trans ?_)))
    rw [be_one, be_one]
    rfl

/-! ## CUE REMOVE (R107) -/

section Remove
variable {pre post : List CueEntry} {c : CueEntry}

theorem find_of_split (hpre : ∀ d ∈ pre, d.id ≠ c.id) : (pre ++ c :: post).find? (fun e => e.id == c.id) = some c := by
  rw [List.find?_append, List.find?_eq_none.mpr (by simpa using hpre)]
  simp

theorem dropWhile_of_split (hpre : ∀ d ∈ pre, d.id ≠ c.id) :
    (pre ++ c :: post).dropWhile (fun e => e.id != c.id) = c :: post := by
  rw [List.dropWhile_append_of_pos (by simpa using hpre)]
  simp

theorem follower_of_split (hpre : ∀ d ∈ pre, d.id ≠ c.id) : follower c.id (pre ++ c :: post) = post.head? := by
  rw [follower, dropWhile_of_split hpre]
  rfl

theorem filter_of_split (h : ∀ d ∈ pre ++ post, d.id ≠ c.id) :
    (pre ++ c :: post).filter (fun e => e.id != c.id) = pre ++ post := by
  have hpre : pre.filter (fun e => e.id != c.id) = pre :=
    List.filter_eq_self.mpr fun d hd => by simpa using h d (List.mem_append_left _ hd)
  have hpost : post.filter (fun e => e.id != c.id) = post :=
    List.filter_eq_self.mpr fun d hd => by simpa using h d (List.mem_append_right _ hd)
  simp [hpre, hpost]

theorem findIdx_of_split (hpre : ∀ d ∈ pre, d.id ≠ c.id) :
    (pre ++ c :: post).findIdx? (fun e => e.id == c.id) = some pre.length := by
  rw [List.findIdx?_append, List.findIdx?_eq_none_iff.mpr (by simpa using hpre)]
  simp [List.findIdx?_cons]

end Remove

/-- The ground for turning a CUE REMOVE away, and the entry that leaves. -/
theorem serveCueRemove_eq (b : Byte) (s : State) : serveCueRemove [b] s = match findCue b.toNat s with
    | none => turnedAway s .notFound
    | some e => if e.state = .pending then served (dropCue b.toNat s) [BitVec.ofNat 8 (dropCue b.toNat s).engine.cues.length]
        else turnedAway s .state := by
  rw [serveCueRemove]
  cases findCue b.toNat s with
  | none => rfl
  | some e =>
    rw [← be_one]

@[simp] theorem Engine.pointTo_log (e : Engine) (next : Option CueEntry) : (e.pointTo next).log = e.log := by
  unfold Engine.pointTo Engine.passLast
  split
  · rfl
  · split <;> rfl

@[simp] theorem dropCue_query (id : Nat) (s : State) :
    (dropCue id s).query = { s.query with entries := s.query.entries.map (QueryEntry.release id) } := by
  unfold dropCue
  split <;> rfl

theorem dropCue_engine (id : Nat) (s : State) : (dropCue id s).engine =
    if s.engine.cursor = .entry id then
      Engine.pointTo { s.engine with cues := s.engine.cues.filter (fun e => e.id != id) } (follower id s.engine.cues)
    else { s.engine with cues := s.engine.cues.filter (fun e => e.id != id) } := by
  unfold dropCue
  split
  · rfl
  · rfl

theorem dropCue_shape (id : Nat) (s : State) : dropCue id s = (s.setEngine (dropCue id s).engine).setQuery (dropCue id s).query := by
  unfold dropCue
  split
  · rfl
  · rfl

/-! ## CUE READ (R108) -/

theorem cueBytes_eq (c : CueEntry) : cueBytes c = [BitVec.ofNat 8 c.id] ++ be 5 c.inPoint ++ be 5 c.outPoint ++ be 2 c.fade
    ++ be 2 c.program.toNat ++ be 2 c.take.toNat
    ++ [match c.state with
      | .pending => (0 : Byte)
      | .active .fadeIn => 1
      | .active .insert => 2
      | .active .fadeOut => 3] := by
  obtain ⟨id, inPoint, outPoint, fade, program, take, state, degraded⟩ := c
  have hstate : be 1 (cueStateCode state) = [match state with
      | .pending => (0 : Byte)
      | .active .fadeIn => 1
      | .active .insert => 2
      | .active .fadeOut => 3] := by
    cases state with
    | pending => rfl
    | active phase => cases phase <;> rfl
  rw [cueBytes, hstate, be_one]
  rfl

theorem engineCode_byte (x : EngineState) : be 1 (engineCode x) = [match x with
    | .disarmed => 0
    | .armed => 1
    | .active => 2] := by
  cases x <;> rfl

theorem modeCode_byte (x : EngineMode) : be 1 (modeCode x) = [if x = .execute then 0 else 1] := by cases x <;> rfl

/-- Settles O54. -/
theorem cueRequestsServed : Obligations.CueRequestsServed := by
  refine ⟨?_, ?_, ?_⟩
  · intro s r i0 i1 i2 i3 i4 o0 o1 o2 o3 o4 f0 f1 p0 p1 t0 t1 h hk hp n inP outP fade bad meets behind
    have hserve : RequestKind.cueAdd.serve r.payload s =
        addCue inP outP fade (word16OfBytes p0 p1) (word16OfBytes t0 t1) s := by
      rw [hp]
      rfl
    have hbad : bad ↔ badCue (spf s.input.rate) inP outP fade (word16OfBytes p0 p1).toNat = true := by
      rw [badCue_iff, word16OfBytes_toNat]
    have hmeets := overlapping_iff n (nextId s.engine) inP outP fade (word16OfBytes p0 p1) (word16OfBytes t0 t1)
      s.engine.cues
    have hbehind := beforeCursor_iff inP s
    obtain ⟨hvalue, hfull, horder, hstate, htaken⟩ :=
      addCue_cases inP outP fade (word16OfBytes p0 p1) (word16OfBytes t0 t1) s
    rw [← hbad] at hvalue hfull horder hstate htaken
    rw [hmeets] at horder hstate htaken
    rw [hbehind] at hstate htaken
    refine ⟨fun h1 => exec_turnedAway (st := .badValue) h hk (hserve.trans (hvalue h1)),
      fun h1 h2 => exec_turnedAway (st := .full) h hk (hserve.trans (hfull h1 h2)),
      fun h1 h2 h3 => exec_turnedAway (st := .order) h hk (hserve.trans (horder h1 h2 h3)),
      fun h1 h2 h3 h4 => exec_turnedAway (st := .state) h hk (hserve.trans (hstate h1 h2 h3 h4)), fun h1 h2 h3 h4 => ?_⟩
    have hexec := exec_served h hk (hserve.trans (htaken h1 h2 h3 h4))
    obtain ⟨hlow, hhigh, hfresh⟩ := nextId_fresh (e := s.engine) (by omega)
    obtain ⟨k, hk255, hid, hearlier⟩ := nextId_first (e := s.engine) (by omega)
    refine ⟨nextId s.engine, s.engine.cues.takeWhile (fun c => c.inPoint < inP),
      s.engine.cues.dropWhile (fun c => c.inPoint < inP), (List.takeWhile_append_dropWhile).symm, hlow, hhigh, hfresh,
      fun l hl hl255 hfree => ?_, fun hl hfree => ?_, ⟨k, hk255, hid, hearlier⟩, fun c hc => ?_, fun c hc => ?_, hexec⟩
    · cases k with
      | zero =>
        rw [hid, hl, Option.getD_some]
        omega
      | succ k =>
        obtain ⟨c, hc, hcid⟩ := hearlier 0 (Nat.succ_pos k)
        rw [hl, Option.getD_some] at hcid
        exact absurd (by omega) (hfree c hc)
    · cases k with
      | zero =>
        rw [hid, hl]
        rfl
      | succ k =>
        obtain ⟨c, hc, hcid⟩ := hearlier 0 (Nat.succ_pos k)
        rw [hl] at hcid
        exact absurd hcid (hfree c hc)
    · simpa using List.mem_takeWhile_imp hc
    · have hhead := List.head?_dropWhile_not (fun c : CueEntry => decide (c.inPoint < inP)) s.engine.cues
      rw [hc] at hhead
      simpa using hhead
  · intro s r b h hk hp
    have hserve : RequestKind.cueRemove.serve r.payload s = serveCueRemove [b] s := by
      rw [hp]
      rfl
    rw [serveCueRemove_eq] at hserve
    refine ⟨fun hnone => ?_, fun pre post c hcues hid hother => ?_⟩
    · have hfind : findCue b.toNat s = none := List.find?_eq_none.mpr (by simpa using hnone)
      rw [hfind] at hserve
      exact exec_turnedAway (st := .notFound) h hk hserve
    · rw [← hid] at hserve hother
      have hpre : ∀ d ∈ pre, d.id ≠ c.id := fun d hd => hother d (List.mem_append_left _ hd)
      have hfind : findCue c.id s = some c := by rw [findCue, hcues, find_of_split hpre]
      simp only [hfind] at hserve
      have hfilter : s.engine.cues.filter (fun e => e.id != c.id) = pre ++ post := by rw [hcues, filter_of_split hother]
      have hfollower : follower c.id s.engine.cues = post.head? := by rw [hcues, follower_of_split hpre]
      have hengine := dropCue_engine c.id s
      rw [hfilter, hfollower] at hengine
      refine ⟨fun hactive => ?_, fun hpending => ?_⟩
      · rw [if_neg hactive] at hserve
        exact exec_turnedAway (st := .state) h hk hserve
      · rw [if_pos hpending] at hserve
        have hleft : (dropCue c.id s).engine.cues = pre ++ post ∧ (dropCue c.id s).engine.log = s.engine.log ∧
            (dropCue c.id s).engine.arm = s.engine.arm := by
          rw [hengine]
          split
          · exact ⟨Engine.pointTo_cues _ _, Engine.pointTo_log _ _, Engine.pointTo_arm _ _⟩
          · exact ⟨rfl, rfl, rfl⟩
        rw [hleft.1] at hserve
        refine ⟨_, exec_served h hk hserve, ⟨_, _, dropCue_shape c.id s⟩, hleft.1, hleft.2.1, hleft.2.2,
          by rw [dropCue_query]; rfl, fun hcursor => ?_, fun hcursor d hd => ?_, fun hcursor hlast => ?_⟩
        · rw [hengine, if_neg hcursor]
          exact ⟨rfl, rfl⟩
        · rw [hengine, if_pos hcursor, hd]
          exact ⟨rfl, rfl⟩
        · rw [hengine, if_pos hcursor, hlast, List.head?_nil, Engine.pointTo]
          unfold Engine.passLast
          split
          next => simp
          next => simp
  · intro s r start count h hk hp entries
    have hserve : serveCueRead r.payload s =
        if 15 < start.toNat ∨ count.toNat < 1 ∨ 12 < count.toNat then turnedAway s .badValue
        else served s (be 1 s.engine.cues.length ++ be 1 (engineCode s.engine.state)
          ++ be 1 (modeCode s.engine.arm.mode) ++ bit s.engine.arm.loop
          ++ optByte (cursorIndex s) ++ be 4 (activeDegraded s) ++ be 1 entries.length
          ++ entries.flatMap cueBytes) := by
      rw [hp]
      rfl
    split
    next hbad => exact exec_turnedAway (st := .badValue) h hk (by rw [RequestKind.serve, hserve, if_pos hbad])
    next hgood =>
      rw [if_neg hgood, be_one, engineCode_byte, modeCode_byte, be_one entries.length] at hserve
      obtain ⟨x, y, hindex⟩ := List.length_eq_two.mp (length_optByte (cursorIndex s))
      obtain ⟨d0, d1, d2, d3, hdegraded⟩ : ∃ d0 d1 d2 d3, be 4 (activeDegraded s) = [d0, d1, d2, d3] := ⟨_, _, _, _, rfl⟩
      have hexec := exec_served h hk hserve
      have hcursor : ([x, y, d0, d1, d2, d3] : List Byte) = optByte (cursorIndex s) ++ be 4 (activeDegraded s) := by
        rw [hindex, hdegraded]
        rfl
      rw [hindex, hdegraded] at hexec
      refine ⟨[0, BitVec.ofNat 8 s.engine.cues.length, match s.engine.state with
          | .disarmed => 0
          | .armed => 1
          | .active => 2, if s.engine.arm.mode = .execute then 0 else 1, if s.engine.arm.loop then 1 else 0, x, y, d0, d1, d2,
          d3, BitVec.ofNat 8 entries.length], ?_, rfl, rfl, rfl, rfl, fun hnone => ?_, fun c pre post hcues hpre hc => ?_,
        fun c => ⟨length_cueBytes c, cueBytes_eq c⟩⟩
      · exact hexec
      · show [x, y, d0, d1, d2, d3] = _
        rw [hcursor]
        have hidx : cursorIndex s = none := by
          unfold cursorIndex
          split
          next id hid => exact absurd hid (hnone id)
          · rfl
          · rfl
        have hcue : cursorCue s = none := by
          unfold cursorCue
          split
          next id hid => exact absurd hid (hnone id)
          · rfl
          · rfl
        have hzero : activeDegraded s = 0 := by
          unfold activeDegraded
          split
          · rw [hcue]; rfl
          · rfl
          · rfl
        rw [hidx, hzero]
        rfl
      · show [x, y, d0, d1, d2, d3] = _
        have hidx : cursorIndex s = some pre.length := by
          simp only [cursorIndex, hc, hcues]
          exact findIdx_of_split hpre
        have hcue : cursorCue s = some c := by
          simp only [cursorCue, hc, findCue, hcues]
          exact find_of_split hpre
        have hdeg : activeDegraded s = if s.engine.state = .active then c.degraded else 0 := by
          unfold activeDegraded
          cases s.engine.state <;> simp [hcue]
        rw [hcursor, hidx, hdeg, optByte_some]

end Sys2Proof.Machine
end

section
/-! PROOFS. The edit engine's requests at service (O55), and what arming leaves (R110, R111). -/

namespace Sys2Proof.Machine

/-! ## The entries passed over at arming (R111) -/

/-- The record of an entry passed over in this mode. -/
def passedRecord (mode : EngineMode) (c : CueEntry) : SpliceRecord :=
  { id := c.id, mode := mode, outcome := .missed, reason := some .passed, first := none, last := none,
    framesWritten := 0, degraded := 0, openEnded := false }

theorem passOver_engine (s : State) (e : CueEntry) : (passOver s e).engine = { s.engine with
    cues := s.engine.cues.filter (fun c => c.id != e.id)
    log := (passedRecord s.engine.arm.mode e :: s.engine.log).take 16
    recordsMade := min (s.engine.recordsMade + 1) 4294967295 } := by
  unfold passOver
  rw [removeCue_engine, raise_engine]
  rfl

theorem passOver_query (s : State) (e : CueEntry) :
    (passOver s e).query = { s.query with entries := s.query.entries.map (QueryEntry.release e.id) } := by
  unfold passOver removeCue releaseQueries
  simp [logRecord]

/-- What passing over leaves of the engine: the entries gone from the list, their records newest in the log. -/
theorem foldl_passOver_engine_eq (es : List CueEntry) (s : State) (h : s.engine.recordsMade ≤ 4294967295) :
    (es.foldl passOver s).engine = { s.engine with
      cues := s.engine.cues.filter (fun c => decide (c.id ∉ es.map (fun x => x.id)))
      log := ((es.map (passedRecord s.engine.arm.mode)).reverse ++ s.engine.log).take
        (if es = [] then s.engine.log.length else 16)
      recordsMade := min (s.engine.recordsMade + es.length) 4294967295 } := by
  induction es generalizing s with
  | nil => simp [Nat.min_eq_left h]
  | cons x es ih =>
    have hcues : (s.engine.cues.filter (fun c => c.id != x.id)).filter (fun c => decide (c.id ∉ es.map (fun y => y.id))) =
        s.engine.cues.filter (fun c => decide (c.id ∉ (x :: es).map (fun y => y.id))) := by
      rw [List.filter_filter]
      congr 1
      funext c
      rw [Bool.eq_iff_iff]
      simp [and_comm]
    have hlog (L : List SpliceRecord) (r : SpliceRecord) :
        ((es.map (passedRecord s.engine.arm.mode)).reverse ++ (r :: L).take 16).take
          (if es = [] then ((r :: L).take 16).length else 16) =
        ((es.map (passedRecord s.engine.arm.mode)).reverse ++ r :: L).take 16 := by
      cases es with
      | nil => simp
      | cons y es =>
        rw [if_neg (List.cons_ne_nil y es), List.take_append, List.take_append, List.take_take,
          Nat.min_eq_left (Nat.sub_le _ _)]
    have hmade : min (min (s.engine.recordsMade + 1) 4294967295 + es.length) 4294967295 =
        min (s.engine.recordsMade + (x :: es).length) 4294967295 := by
      rw [List.length_cons]
      omega
    rw [List.foldl_cons, ih _ (by rw [passOver_engine]; exact Nat.min_le_right _ _), passOver_engine]
    dsimp only
    rw [hcues, hlog, hmade, if_neg (List.cons_ne_nil x es)]
    simp

theorem foldl_passOver_query (es : List CueEntry) (s : State) : (es.foldl passOver s).query =
    { s.query with entries := s.query.entries.map (QueryEntry.releaseAll (es.map (fun x => x.id))) } := by
  induction es generalizing s with
  | nil =>
    have hnone : QueryEntry.releaseAll [] = id := funext fun e => by
      unfold QueryEntry.releaseAll
      split <;> simp
    simp [hnone]
  | cons x es ih =>
    have hrelease : QueryEntry.releaseAll (es.map (fun y => y.id)) ∘ QueryEntry.release x.id =
        QueryEntry.releaseAll ((x :: es).map (fun y => y.id)) := funext fun e => releaseAll_release x.id _ e
    rw [List.foldl_cons, ih, passOver_query, ← hrelease, ← List.map_map]

theorem passOver_hasCause (s : State) (e : CueEntry) : hasCause (passOver s e).notice.pending .editMissed = true :=
  raise_hasCause_self .editMissed _

theorem foldl_passOver_hasCause {es : List CueEntry} (h : es ≠ []) (s : State) :
    hasCause (es.foldl passOver s).notice.pending .editMissed = true := by
  have hkept (es : List CueEntry) (u : State) (hu : hasCause u.notice.pending .editMissed = true) :
      hasCause (es.foldl passOver u).notice.pending .editMissed = true := by
    induction es generalizing u with
    | nil => exact hu
    | cons x es ih => exact ih _ (passOver_hasCause u x)
  cases es with
  | nil => exact absurd rfl h
  | cons x es => exact hkept es _ (passOver_hasCause s x)

@[simp] theorem foldl_passOver_lineage (es : List CueEntry) (s : State) : (es.foldl passOver s).lineage = s.lineage := by
  induction es generalizing s with
  | nil => rfl
  | cons x es ih =>
    rw [List.foldl_cons, ih]
    exact raise_lineage .editMissed _

@[simp] theorem foldl_passOver_position (es : List CueEntry) (s : State) : (es.foldl passOver s).position = s.position :=
  ((Work.refl s).foldl_passOver es).leaves.position

/-! ## Arming (R110, R111) -/

/-- The engine as arming leaves it, the cursor on the first entry of these, or past the last. -/
def Engine.placed (e : Engine) (armed : ArmMode) (ahead : List CueEntry) : Engine :=
  { e with
    arm := armed
    pendingAbort := false
    run := EntryRun.empty
    state := if ahead = [] ∧ armed.loop = false then .disarmed else .armed
    cursor := match ahead with
      | c :: _ => .entry c.id
      | [] => if armed.loop then .passed else .absent }

/-- Placing the cursor of an engine that took a mode. -/
theorem takeArm_pointTo (e : Engine) (m : ArmMode) (ahead : List CueEntry) :
    (e.takeArm m).pointTo ahead.head? = e.placed { mode := m.mode, loop := m.loop && m.mode == .rehearse } ahead := by
  obtain ⟨mode, loop⟩ := m
  cases ahead with
  | cons c ahead => rfl
  | nil => cases mode <;> cases loop <;> rfl

/-- Arming in REHEARSE passes the entries over silently. -/
theorem armEngine_rehearse {m : ArmMode} (hm : m.mode = .rehearse) (s : State) : armEngine m s =
    s.setEngine (s.engine.placed { mode := .rehearse, loop := m.loop } (s.engine.cues.dropWhile (isPassed s))) := by
  have h := takeArm_pointTo s.engine m (s.engine.cues.dropWhile (isPassed s))
  rw [hm, show (m.loop && EngineMode.rehearse == EngineMode.rehearse) = m.loop by simp] at h
  rw [← h]
  simp [armEngine, hm, placedCue]

theorem pointTo_with (e : Engine) (cues : List CueEntry) (log : List SpliceRecord) (made : Nat) (next : Option CueEntry) :
    Engine.pointTo { e with cues := cues, log := log, recordsMade := made } next =
      { e.pointTo next with cues := cues, log := log, recordsMade := made } := by
  cases next with
  | some c => rfl
  | none =>
    unfold Engine.pointTo Engine.passLast
    dsimp only
    split <;> rfl

/-- The list without the entries passed over is what follows them. -/
theorem filter_passed {s : State} (hids : s.engine.cues.Pairwise (fun a b => a.id ≠ b.id)) :
    s.engine.cues.filter (fun c => decide (c.id ∉ (passedCues s).map (fun x => x.id))) =
      s.engine.cues.dropWhile (isPassed s) := by
  have hpassed : (passedCues s).filter (fun c => decide (c.id ∉ (passedCues s).map (fun x => x.id))) = [] :=
    List.filter_eq_nil_iff.mpr fun c hc => by
      rw [decide_eq_true_eq, not_not]
      exact List.mem_map_of_mem hc
  have hahead : (s.engine.cues.dropWhile (isPassed s)).filter
      (fun c => decide (c.id ∉ (passedCues s).map (fun x => x.id))) = s.engine.cues.dropWhile (isPassed s) :=
    List.filter_eq_self.mpr fun c hc => by
      rw [decide_eq_true_eq, List.mem_map]
      exact fun ⟨a, ha, hid⟩ => passed_id_ne hids ha hc hid
  calc s.engine.cues.filter (fun c => decide (c.id ∉ (passedCues s).map (fun x => x.id)))
      = (passedCues s ++ s.engine.cues.dropWhile (isPassed s)).filter
          (fun c => decide (c.id ∉ (passedCues s).map (fun x => x.id))) := by
        rw [passedCues, List.takeWhile_append_dropWhile]
    _ = s.engine.cues.dropWhile (isPassed s) := by rw [List.filter_append, hpassed, hahead, List.nil_append]

/-- Arming in EXECUTE: the entries passed over are gone, each with its record. -/
theorem armEngine_execute {m : ArmMode} (hm : m.mode = .execute) {s : State}
    (hids : s.engine.cues.Pairwise (fun a b => a.id ≠ b.id)) (hmade : s.engine.recordsMade ≤ 4294967295) :
    (armEngine m s).engine = { s.engine.placed { mode := .execute, loop := false } (s.engine.cues.dropWhile (isPassed s)) with
      cues := s.engine.cues.dropWhile (isPassed s)
      log := (((passedCues s).map (passedRecord .execute)).reverse ++ s.engine.log).take
        (if passedCues s = [] then s.engine.log.length else 16)
      recordsMade := min (s.engine.recordsMade + (passedCues s).length) 4294967295 } := by
  have hplaced := takeArm_pointTo s.engine m (s.engine.cues.dropWhile (isPassed s))
  rw [hm, show (m.loop && EngineMode.execute == EngineMode.rehearse) = false by simp] at hplaced
  have hfold := foldl_passOver_engine_eq (passedCues s) (s.setEngine (s.engine.takeArm m)) hmade
  have hpoint := congrArg (fun e : Engine => e.pointTo (placedCue s)) hfold
  have harm : armEngine m s = ((passedCues s).foldl passOver (s.setEngine (s.engine.takeArm m))).setEngine
      (((passedCues s).foldl passOver (s.setEngine (s.engine.takeArm m))).engine.pointTo (placedCue s)) := by
    simp [armEngine, hm]
  rw [harm]
  refine hpoint.trans ?_
  dsimp only
  rw [pointTo_with]
  show ({ (s.engine.takeArm m).pointTo (s.engine.cues.dropWhile (isPassed s)).head? with
      cues := s.engine.cues.filter (fun c => decide (c.id ∉ (passedCues s).map (fun x => x.id)))
      log := (((passedCues s).map (passedRecord m.mode)).reverse ++ s.engine.log).take
        (if passedCues s = [] then s.engine.log.length else 16)
      recordsMade := min (s.engine.recordsMade + (passedCues s).length) 4294967295 } : Engine) = _
  rw [hplaced, filter_passed hids, hm]

/-- The other blocks as arming in EXECUTE leaves them. -/
theorem armEngine_execute_keeps {m : ArmMode} (hm : m.mode = .execute) (s : State) :
    (armEngine m s).query = { s.query with
      entries := s.query.entries.map (QueryEntry.releaseAll ((passedCues s).map (fun x => x.id))) } ∧
    (passedCues s ≠ [] → hasCause (armEngine m s).notice.pending .editMissed = true) ∧
    (armEngine m s).lineage = s.lineage ∧ (armEngine m s).position = s.position ∧
    (armEngine m s).formatter = s.formatter := by
  have harm : armEngine m s = ((passedCues s).foldl passOver (s.setEngine (s.engine.takeArm m))).setEngine
      (((passedCues s).foldl passOver (s.setEngine (s.engine.takeArm m))).engine.pointTo (placedCue s)) := by
    simp [armEngine, hm]
  refine ⟨?_, fun hne => ?_, ?_, ((Work.refl s).armEngine m).leaves.position, armEngine_formatter m s⟩
  · rw [harm]
    exact foldl_passOver_query _ _
  · rw [harm]
    exact foldl_passOver_hasCause hne _
  · rw [harm]
    exact foldl_passOver_lineage _ _

theorem rule_eq_refuse_iff (source : Source) (status origin : Mark) :
    rule source status origin = .refuse ↔ source = .digital ∧ status = .never := by
  cases source <;> cases status <;> simp [rule]

theorem effective_eq_never_iff (cls : InputClass) : effective cls = .never ↔ cls = .consumer .never := by
  cases cls <;> simp [effective]

/-- Arming is refused while the current ruling is REFUSE for a DIGITAL source. -/
theorem armRefused_iff (m : ArmMode) (s : State) : armRefused m s = true ↔
    m.mode = .execute ∧ s.input.source = .digital ∧ s.lineage.cls = .consumer .never := by
  rw [armRefused, Bool.and_eq_true, Bool.and_eq_true, beq_iff_eq, beq_iff_eq, beq_iff_eq, currentRuling, rule_eq_refuse_iff,
    effective_eq_never_iff, and_assoc]
  exact ⟨fun ⟨hm, hd, _, hn⟩ => ⟨hm, hd, hn⟩, fun ⟨hm, hd, hn⟩ => ⟨hm, hd, hd, hn⟩⟩

theorem armBlocked_iff (s : State) : armBlocked s = true ↔
    s.engine.state ≠ .disarmed ∨ s.formatter.state ≠ .idle ∨ s.engine.cues = [] := by
  simp [armBlocked, or_assoc]

theorem modeOfCode_eq (b : Byte) :
    modeOfCode b = if b.toNat ≤ 1 then some (if b = 0 then .execute else .rehearse) else none := by
  simp only [modeOfCode, ← BitVec.toNat_inj]
  grind

/-! ## The splice log record (R132) -/

theorem spliceRecordBytes_eq (x : SpliceRecord) : spliceRecordBytes x =
    [BitVec.ofNat 8 x.id, if x.mode = .execute then 0 else 1, match x.outcome with
      | .completed => (0 : Byte)
      | .rehearsed => 1
      | .missed => 2
      | .refused => 3
      | .aborted => 4]
    ++ (match x.reason with
      | none => ([0, 0] : List Byte)
      | some .passed => [1, 0]
      | some .noLock => [1, 1]
      | some .lostLock => [1, 2]
      | some .transport => [1, 3]
      | some .refused => [1, 4]
      | some .requested => [1, 5])
    ++ (match x.first with
      | some n => 1 :: be 3 n.toNat
      | none => [0, 0, 0, 0])
    ++ (match x.last with
      | some n => 1 :: be 3 n.toNat
      | none => [0, 0, 0, 0])
    ++ be 4 x.framesWritten ++ be 4 x.degraded ++ [if x.openEnded then 1 else 0] := by
  have hhead : be 1 x.id ++ be 1 (modeCode x.mode) ++ be 1 (outcomeCode x.outcome) =
      [BitVec.ofNat 8 x.id, if x.mode = .execute then 0 else 1, match x.outcome with
        | .completed => (0 : Byte)
        | .rehearsed => 1
        | .missed => 2
        | .refused => 3
        | .aborted => 4] := by
    rw [modeCode_byte, be_one x.id]
    cases x.outcome <;> rfl
  have hreason : optByte (x.reason.map reasonCode) = match x.reason with
      | none => ([0, 0] : List Byte)
      | some .passed => [1, 0]
      | some .noLock => [1, 1]
      | some .lostLock => [1, 2]
      | some .transport => [1, 3]
      | some .refused => [1, 4]
      | some .requested => [1, 5] := by
    cases x.reason with
    | none => rfl
    | some reason => cases reason <;> rfl
  rw [spliceRecordBytes, hhead, hreason, optFrame_eq, optFrame_eq]
  rfl

theorem releaseAll_eq_any (cues : List CueEntry) (q : QueryEntry) : q.releaseAll (cues.map (fun c => c.id)) =
    if cues.any (fun c => q.state == .held c.id) then { q with state := .waiting } else q := by
  rw [releaseAll_cues]
  obtain ⟨kind, frame, state, passes, wait⟩ := q
  cases state with
  | held id =>
    have hany : cues.any (fun c => QueryState.held id == .held c.id) = cues.any (fun c => c.id == id) := by
      congr 1
      funext c
      rw [Bool.eq_iff_iff, beq_iff_eq, beq_iff_eq, QueryState.held.injEq, eq_comm]
    dsimp only
    rw [hany]
  | waiting => simp
  | complete age outcome => simp

/-- EDIT ARM, each ground for turning it away in its order. -/
theorem serveEditArm_eq (m l : Byte) (s : State) : serveEditArm [m, l] s =
    if 1 < m.toNat ∨ 1 < l.toNat then turnedAway s .badValue
    else if armBlocked s = true then turnedAway s .state
    else if armRefused { mode := if m = 0 then .execute else .rehearse, loop := l == 1 } s = true then turnedAway s .refused
    else served (armEngine { mode := if m = 0 then .execute else .rehearse, loop := l == 1 } s)
      (be 1 (engineCode (armEngine { mode := if m = 0 then .execute else .rehearse, loop := l == 1 } s).engine.state)
        ++ optByte (cursorId (armEngine { mode := if m = 0 then .execute else .rehearse, loop := l == 1 } s))
        ++ be 1 (missedAtArming { mode := if m = 0 then .execute else .rehearse, loop := l == 1 } s)) := by
  simp only [serveEditArm, modeOfCode_eq, boolOfCode_eq]
  by_cases hm : m.toNat ≤ 1
  · by_cases hl : l.toNat ≤ 1
    · rw [if_pos hm, if_pos hl, if_neg (show ¬ (1 < m.toNat ∨ 1 < l.toNat) by omega)]
    · rw [if_pos hm, if_neg hl, if_pos (show 1 < m.toNat ∨ 1 < l.toNat by omega)]
  · rw [if_neg hm, if_pos (show 1 < m.toNat ∨ 1 < l.toNat by omega)]

/-- The reply's first fields, from the engine as arming left it. -/
theorem armedReply (t : State) (e : Engine) (armed : ArmMode) (ahead : List CueEntry)
    (hstate : t.engine.state = (e.placed armed ahead).state) (hcursor : t.engine.cursor = (e.placed armed ahead).cursor) :
    be 1 (engineCode t.engine.state) ++ optByte (cursorId t) =
      (if ahead = [] ∧ armed.loop = false then 0 else 1) :: (match ahead with
        | c :: _ => [1, BitVec.ofNat 8 c.id]
        | [] => [0, 0]) := by
  rw [cursorId, hstate, hcursor, engineCode_byte]
  cases ahead with
  | cons c ahead => simp [Engine.placed, optByte_some]
  | nil =>
    cases hloop : armed.loop with
    | true => simp [Engine.placed, hloop, optByte_none]
    | false => simp [Engine.placed, hloop, optByte_none]

/-- Settles O55. -/
theorem editRequestsServed : Obligations.EditRequestsServed := by
  refine ⟨?_, ?_, ?_, ?_, ?_⟩
  · intro s r m l h hk hp hlist hmade limit passed ahead armed placed answer record wrong busy refused
    have hserve : RequestKind.editArm.serve r.payload s = serveEditArm [m, l] s := by
      rw [hp]
      rfl
    rw [serveEditArm_eq] at hserve
    have hbusy : armBlocked s = true ↔ busy := armBlocked_iff s
    refine ⟨fun hwrong => ?_, fun hright hblocked => ?_, fun hright hfree hrefused => ?_, fun hright hfree hm => ?_,
      fun hright hfree hpermitted hm => ?_⟩
    · rw [if_pos hwrong] at hserve
      exact exec_turnedAway (st := .badValue) h hk hserve
    · rw [if_neg hright, if_pos (hbusy.mpr hblocked)] at hserve
      exact exec_turnedAway (st := .state) h hk hserve
    · rw [if_neg hright, if_neg (hfree ∘ hbusy.mp), if_pos ((armRefused_iff _ s).mpr
        ⟨if_pos hrefused.1, hrefused.2⟩)] at hserve
      exact exec_turnedAway (st := .refused) h hk hserve
    · have hmode : (if m = 0 then .execute else .rehearse : EngineMode) = .rehearse := by rw [hm]; rfl
      have harmed : armed = { mode := .rehearse, loop := l == 1 } := by
        show ArmMode.mk (if m = 0 then .execute else .rehearse) (m == 1 && l == 1) = _
        rw [hm]
        simp
      have hpermitted : ¬ armRefused { mode := if m = 0 then .execute else .rehearse, loop := l == 1 } s = true := fun hr => by
        have hexecute : (if m = 0 then .execute else .rehearse : EngineMode) = .execute := ((armRefused_iff _ s).mp hr).1
        rw [hmode] at hexecute
        cases hexecute
      rw [if_neg hright, if_neg (hfree ∘ hbusy.mp), if_neg hpermitted,
        armEngine_rehearse hmode, missedAtArming,
        if_neg (show ¬ (if m = 0 then .execute else .rehearse : EngineMode) = .execute by rw [hmode]; nofun)] at hserve
      have hreply := armedReply (s.setEngine (s.engine.placed armed ahead)) s.engine armed ahead rfl rfl
      dsimp only at hserve
      rw [← harmed] at hserve
      exact exec_served h hk (hserve.trans (congrArg (fun x => served _ (x ++ be 1 0)) hreply))
    · have hmode : (if m = 0 then .execute else .rehearse : EngineMode) = .execute := if_pos hm
      have harmed : armed = { mode := .execute, loop := false } := by
        show ArmMode.mk (if m = 0 then .execute else .rehearse) (m == 1 && l == 1) = _
        rw [hm]
        simp
      have hengine := armEngine_execute (m := { mode := if m = 0 then .execute else .rehearse, loop := l == 1 }) hmode
        hlist.ids hmade
      obtain ⟨hquery, hcause, hlineage, hposition, hformatter⟩ :=
        armEngine_execute_keeps (m := { mode := if m = 0 then .execute else .rehearse, loop := l == 1 }) hmode s
      rw [if_neg hright, if_neg (hfree ∘ hbusy.mp), if_neg (fun hr => hpermitted ⟨hm, ((armRefused_iff _ s).mp hr).2⟩),
        missedAtArming, if_pos hmode] at hserve
      generalize armEngine { mode := if m = 0 then .execute else .rehearse, loop := l == 1 } s = t
        at hserve hengine hquery hcause hlineage hposition hformatter
      rw [← harmed] at hengine
      have hreply := armedReply t s.engine armed ahead (by rw [hengine]; rfl) (by rw [hengine]; rfl)
      rw [hreply, be_one] at hserve
      refine ⟨t, exec_served h hk hserve, hengine, hcause, ?_, hposition, hformatter, hlineage⟩
      rw [hquery]
      exact List.map_congr_left fun q _ => releaseAll_eq_any _ q
  · intro s r h hk hp
    have hserve : serveEditDisarm r.payload s =
        if s.engine.state = .active then turnedAway s .state else served (disarm s) [] := by
      rw [hp]
      rfl
    split
    next hactive =>
      rw [if_pos hactive] at hserve
      exact exec_turnedAway (st := .state) h hk hserve
    next hidle =>
      rw [if_neg hidle] at hserve
      exact exec_served h hk hserve
  · intro s r h hk hp
    have hserve : serveEditAbort r.payload s = if s.engine.state = .active then
        served (s.setEngine { s.engine with pendingAbort := true }) (be 1 ((cursorId s).getD 0))
        else turnedAway s .state := by
      rw [hp]
      rfl
    refine ⟨fun hidle => ?_, fun id hactive hcursor => ?_⟩
    · rw [if_neg hidle] at hserve
      exact exec_turnedAway (st := .state) h hk hserve
    · have hid : cursorId s = some id := by simp only [cursorId, hcursor]
      rw [if_pos hactive, hid, Option.getD_some, be_one] at hserve
      exact exec_served h hk hserve
  · intro s r l h hk hp
    have hserve : serveEditSetup r.payload s = if l.toNat < 2 then turnedAway s .badValue
        else if s.engine.state = .disarmed then served (s.setEngine { s.engine with lockAgeReq := l.toNat }) [l]
        else turnedAway s .state := by
      rw [hp]
      rfl
    split
    next hbad => exact exec_turnedAway (st := .badValue) h hk (by rw [RequestKind.serve, hserve, if_pos hbad])
    next hgood =>
      rw [if_neg hgood] at hserve
      split
      next hbusy =>
        rw [if_neg hbusy] at hserve
        exact exec_turnedAway (st := .state) h hk hserve
      next hfree =>
        rw [if_pos (not_not.mp hfree)] at hserve
        exact exec_served h hk hserve
  · intro s r start count h hk hp records
    have hserve : serveSpliceLogRead r.payload s =
        if 15 < start.toNat ∨ count.toNat < 1 ∨ 10 < count.toNat then turnedAway s .badValue
        else served s (be 1 s.engine.log.length ++ be 4 s.engine.recordsMade ++ be 1 records.length
          ++ records.flatMap spliceRecordBytes) := by
      rw [hp]
      rfl
    refine ⟨?_, fun x => ⟨length_spliceRecordBytes x, spliceRecordBytes_eq x⟩⟩
    split
    next hbad => exact exec_turnedAway (st := .badValue) h hk (by rw [RequestKind.serve, hserve, if_pos hbad])
    next hgood =>
      rw [if_neg hgood, be_one, be_one records.length] at hserve
      exact exec_served h hk hserve

end Sys2Proof.Machine
end

section
/-! PROOFS. Concealment, sample by sample and over runs (O50). -/

namespace Sys2Proof.Machine

/-! ## Samples -/

/-- A sample holds every value of its range. -/
theorem toInt_sampleOf {x : Int} (hlow : -8388608 ≤ x) (hhigh : x < 8388608) : (sampleOf x).toInt = x := by
  rw [sampleOf, BitVec.toInt_ofInt]
  exact Int.bmod_eq_of_le (by omega) (by omega)

theorem sample_range (x : Sample) : -8388608 ≤ x.toInt ∧ x.toInt < 8388608 := by
  have := x.le_toInt
  have := x.toInt_lt
  omega

theorem toInt_mean (a c : Sample) : (sampleOf ((a.toInt + c.toInt) / 2)).toInt = (a.toInt + c.toInt).fdiv 2 := by
  obtain ⟨ha, ha'⟩ := sample_range a
  obtain ⟨hc, hc'⟩ := sample_range c
  rw [Int.fdiv_eq_ediv_of_nonneg _ (by omega), toInt_sampleOf (by omega) (by omega)]

/-- A base scaled by a gain is not of the other sign. -/
theorem scaled_sign (b : Int) (g : Nat) : (0 ≤ b → 0 ≤ (b * g).tdiv 32) ∧ (b ≤ 0 → (b * g).tdiv 32 ≤ 0) := by
  refine ⟨fun hb => Int.tdiv_nonneg (Int.mul_nonneg hb (Int.natCast_nonneg g)) (by decide), fun hb => ?_⟩
  have h : 0 ≤ (-b * g).tdiv 32 :=
    Int.tdiv_nonneg (Int.mul_nonneg (by omega) (Int.natCast_nonneg g)) (by decide)
  rw [Int.neg_mul, Int.neg_tdiv] at h
  omega

/-- A base scaled by a gain is no greater in magnitude. -/
theorem natAbs_scaled_le (b : Int) {g : Nat} (hg : g ≤ 32) : ((b * g).tdiv 32).natAbs ≤ b.natAbs := by
  rw [Int.natAbs_tdiv, Int.natAbs_mul, Int.natAbs_natCast]
  exact Nat.div_le_of_le_mul (by
    rw [Nat.mul_comm]
    exact Nat.mul_le_mul_right _ hg)

/-- The output of a base at a gain. -/
theorem toInt_outputAt (base : Sample) {g : Nat} (hg : g ≤ 32) : (outputAt base g).toInt = (base.toInt * g).tdiv 32 := by
  have hsize := natAbs_scaled_le base.toInt hg
  obtain ⟨hpos, hneg⟩ := scaled_sign base.toInt g
  obtain ⟨hlow, hhigh⟩ := sample_range base
  exact toInt_sampleOf (by omega) (by omega)

/-- At full gain a base goes out as it is. -/
theorem outputAt_full (base : Sample) : outputAt base 32 = base := by
  have hfull : (base.toInt * ((32 : Nat) : Int)).tdiv 32 = base.toInt := Int.mul_tdiv_cancel base.toInt (by decide)
  rw [outputAt, hfull, sampleOf, BitVec.ofInt_toInt]

/-! ## The states that a run of samples leaves -/

/-- The state after each sample of a channel. -/
def concealStates (hlim : Nat) (st : ChannelState) (before : Option Sample) : List (Option Sample) → List ChannelState
  | [] => []
  | x :: rest =>
    let bk := chooseBase st.b before x rest.head?.join
    let st' := st.advance hlim bk.1 bk.2
    st' :: concealStates hlim st' x rest

/-- The sample at an index, where originally valid. -/
def validAt (xs : List (Option Sample)) (i : Nat) : Option Sample := (xs[i]?).join

/-- The sample before an index. -/
def priorAt (before : Option Sample) (xs : List (Option Sample)) (i : Nat) : Option Sample :=
  if i = 0 then before else validAt xs (i - 1)

/-- Both neighbours of an index are originally valid. -/
def meanAt (before : Option Sample) (xs : List (Option Sample)) (i : Nat) : Bool :=
  (priorAt before xs i).isSome && (validAt xs (i + 1)).isSome

theorem validAt_cons_succ (x : Option Sample) (xs : List (Option Sample)) (i : Nat) :
    validAt (x :: xs) (i + 1) = validAt xs i := rfl

theorem validAt_one (x : Option Sample) (xs : List (Option Sample)) : validAt (x :: xs) 1 = xs.head?.join := by
  cases xs <;> rfl

theorem priorAt_cons_succ (before x : Option Sample) (xs : List (Option Sample)) (i : Nat) :
    priorAt before (x :: xs) (i + 1) = priorAt x xs i := by
  cases i <;> rfl

theorem meanAt_cons_succ (before x : Option Sample) (xs : List (Option Sample)) (i : Nat) :
    meanAt before (x :: xs) (i + 1) = meanAt x xs i := by
  rw [meanAt, priorAt_cons_succ, validAt_cons_succ, meanAt]

theorem meanAt_zero (before x : Option Sample) (xs : List (Option Sample)) :
    meanAt before (x :: xs) 0 = (before.isSome && xs.head?.join.isSome) := by
  rw [meanAt, validAt_one]
  rfl

/-- The kind of the base at an index. -/
theorem chooseBase_kind (b : Sample) (before x after : Option Sample) : (chooseBase b before x after).2 =
    if x.isSome then .valid else if before.isSome && after.isSome then .interpolated else .held := by
  cases x <;> cases before <;> cases after <;> rfl

/-- What one sample makes of a channel state. -/
structure Follows (hlim : Nat) (before x after : Option Sample) (p y : ChannelState) : Prop where
  valid : ∀ v, x = some v → y.b = v
  mean : ∀ a c, x = none → before = some a → after = some c → y.b.toInt = (a.toInt + c.toInt).fdiv 2
  base : x = none → (before.isSome && after.isSome) = false → y.b = p.b
  prev : y.prev = p.prev
  hold : y.h = if x.isSome || (before.isSome && after.isSome) then 0 else min (p.h + 1) 65535
  gain : y.g = if x.isSome || (before.isSome && after.isSome) then min (p.g + 1) 32
    else if hlim < y.h then p.g - 1 else p.g

theorem advance_follows (hlim : Nat) (st : ChannelState) (before x after : Option Sample) :
    Follows hlim before x after st
      (st.advance hlim (chooseBase st.b before x after).1 (chooseBase st.b before x after).2) := by
  cases x with
  | some v => exact ⟨fun _ hv => Option.some.inj hv, nofun, nofun, rfl, rfl, rfl⟩
  | none =>
    cases before with
    | none => exact ⟨nofun, nofun, fun _ _ => rfl, rfl, rfl, rfl⟩
    | some a =>
      cases after with
      | none => exact ⟨nofun, nofun, fun _ _ => rfl, rfl, rfl, rfl⟩
      | some c =>
        refine ⟨nofun, fun a' c' _ ha hc => ?_, nofun, rfl, rfl, rfl⟩
        obtain rfl := Option.some.inj ha
        obtain rfl := Option.some.inj hc
        exact toInt_mean a c

section States
variable (hlim : Nat) (st : ChannelState) (before : Option Sample) (xs : List (Option Sample))

theorem length_concealStates : (concealStates hlim st before xs).length = xs.length := by
  induction xs generalizing st before with
  | nil => rfl
  | cons x xs ih => exact congrArg (· + 1) (ih _ _)

theorem concealStates_follow (i : Nat) (p y : ChannelState) (hp : (st :: concealStates hlim st before xs)[i]? = some p)
    (hy : (concealStates hlim st before xs)[i]? = some y) :
    Follows hlim (priorAt before xs i) (validAt xs i) (validAt xs (i + 1)) p y := by
  induction xs generalizing st before i with
  | nil => cases hy
  | cons x xs ih =>
    cases i with
    | zero =>
      obtain rfl := Option.some.inj hp
      obtain rfl := Option.some.inj hy
      rw [validAt_one]
      exact advance_follows hlim st before x xs.head?.join
    | succ i =>
      rw [priorAt_cons_succ]
      exact ih _ _ _ hp hy

theorem concealRun_eq : let left := concealStates hlim st before xs
    let run := concealRun hlim st before xs
    run.state = left.getLastD st ∧ run.outs = left.map (fun y => outputAt y.b y.g) ∧
      run.flags = left.map (fun y => decide (y.g < 32)) ∧
      run.lowest = (left.map (fun y => y.g)).foldr min 32 ∧
      run.mutes = ((st :: left).zip left).countP (fun x => x.2.g == 0 && x.1.g != 0) := by
  induction xs generalizing st before with
  | nil => exact ⟨rfl, rfl, rfl, rfl, rfl⟩
  | cons x xs ih =>
    obtain ⟨hstate, houts, hflags, hlowest, hmutes⟩ :=
      ih (st.advance hlim (chooseBase st.b before x xs.head?.join).1 (chooseBase st.b before x xs.head?.join).2) x
    refine ⟨?_, congrArg _ houts, congrArg _ hflags, congrArg (min _) hlowest, ?_⟩
    · exact hstate.trans (by rw [concealStates, List.getLastD_cons])
    · rw [concealStates, List.zip_cons_cons, List.countP_cons, ← hmutes, Nat.add_comm]
      simp only [concealRun, Bool.and_eq_true, beq_iff_eq, bne_iff_ne]

/-- The interpolated and the held samples of a run. -/
theorem concealRun_counts :
    (concealRun hlim st before xs).interpolated =
      (List.range xs.length).countP (fun i => (validAt xs i).isNone && meanAt before xs i) ∧
    (concealRun hlim st before xs).held =
      (List.range xs.length).countP (fun i => (validAt xs i).isNone && !meanAt before xs i) := by
  induction xs generalizing st before with
  | nil => exact ⟨rfl, rfl⟩
  | cons x xs ih =>
    obtain ⟨hinterpolated, hheld⟩ :=
      ih (st.advance hlim (chooseBase st.b before x xs.head?.join).1 (chooseBase st.b before x xs.head?.join).2) x
    have htail (f : Bool → Bool) : (List.map Nat.succ (List.range xs.length)).countP
        (fun i => (validAt (x :: xs) i).isNone && f (meanAt before (x :: xs) i)) =
        (List.range xs.length).countP (fun i => (validAt xs i).isNone && f (meanAt x xs i)) := by
      rw [List.countP_map]
      congr 1
      funext i
      simp only [Function.comp, Nat.succ_eq_add_one, validAt_cons_succ, meanAt_cons_succ]
    have hkind := chooseBase_kind st.b before x xs.head?.join
    rw [List.length_cons, List.range_succ_eq_map, List.countP_cons, List.countP_cons, htail fun b => b, htail not, meanAt_zero]
    simp only [concealRun, ← hinterpolated, ← hheld, hkind]
    constructor
    · rw [Nat.add_comm]
      congr 1
      cases x <;> cases before <;> cases xs.head?.join <;> rfl
    · rw [Nat.add_comm]
      congr 1
      cases x <;> cases before <;> cases xs.head?.join <;> rfl

end States

/-! ## Runs of good samples, and of held ones -/

/-- The state after a valid sample. -/
theorem concealRun_valid_cons (hlim : Nat) (st : ChannelState) (before : Option Sample) (v : Sample)
    (xs : List (Option Sample)) : concealRun hlim st before (some v :: xs) =
      let st' := st.advance hlim v .valid
      let run := concealRun hlim st' (some v) xs
      { state := run.state, outs := outputAt v st'.g :: run.outs, flags := decide (st'.g < 32) :: run.flags,
        interpolated := run.interpolated, held := run.held, lowest := min st'.g run.lowest,
        mutes := (if st'.g = 0 ∧ st.g ≠ 0 then 1 else 0) + run.mutes } := by
  rw [concealRun]
  simp only [chooseBase, reduceCtorEq, if_false, Nat.zero_add]
  rfl

/-- A run of valid samples: the gain rises to 32, and nothing is concealed. -/
theorem concealRun_valid (hlim : Nat) (st : ChannelState) (before : Option Sample) (vs : List Sample) (hg : st.g ≤ 32) :
    let run := concealRun hlim st before (vs.map some)
    run.state.g = min 32 (st.g + vs.length) ∧ run.held = 0 ∧ run.interpolated = 0 ∧ run.mutes = 0 ∧
      run.state.h = (if vs = [] then st.h else 0) ∧ run.state.b = vs.getLastD st.b := by
  induction vs generalizing st before with
  | nil => exact ⟨by simpa [concealRun] using hg, rfl, rfl, rfl, rfl, rfl⟩
  | cons v vs ih =>
    have hrise : (st.advance hlim v .valid).g = min (st.g + 1) 32 := rfl
    obtain ⟨hgain, hheld, hinterpolated, hmutes, hhold, hbase⟩ :=
      ih (st.advance hlim v .valid) (some v) (by rw [hrise]; exact Nat.min_le_right _ _)
    rw [List.map_cons, concealRun_valid_cons]
    refine ⟨?_, hheld, hinterpolated, ?_, ?_, hbase.trans (by rw [List.getLastD_cons]; rfl)⟩
    · rw [List.length_cons]
      refine hgain.trans ?_
      rw [hrise]
      omega
    · dsimp only
      rw [hmutes, if_neg (by rw [hrise]; omega)]
    · exact hhold.trans (by rw [if_neg (List.cons_ne_nil v vs)]; split <;> rfl)

/-- The state after a held sample. -/
theorem concealRun_held_cons (hlim : Nat) (st : ChannelState) (before : Option Sample) (k : Nat) :
    concealRun hlim st before (List.replicate (k + 1) none) =
      let st' := st.advance hlim st.b .held
      let run := concealRun hlim st' none (List.replicate k none)
      { state := run.state, outs := outputAt st.b st'.g :: run.outs, flags := decide (st'.g < 32) :: run.flags,
        interpolated := run.interpolated, held := 1 + run.held, lowest := min st'.g run.lowest,
        mutes := (if st'.g = 0 ∧ st.g ≠ 0 then 1 else 0) + run.mutes } := by
  have hbase : chooseBase st.b before none (List.replicate k (none : Option Sample)).head?.join = (st.b, .held) := by
    cases k <;> cases before <;> rfl
  rw [List.replicate_succ, concealRun, hbase]
  simp

/-- A run of held samples: each beyond Hlim lowers the gain by one. -/
theorem concealRun_held (hlim : Nat) (st : ChannelState) (before : Option Sample) (k : Nat) (hcount : st.h + k ≤ 65535) :
    let run := concealRun hlim st before (List.replicate k none)
    run.state.h = st.h + k ∧ run.state.b = st.b ∧ run.held = k ∧ run.interpolated = 0 ∧
      run.state.g = st.g - min k (st.h + k - hlim) ∧
      run.mutes = (if 0 < st.g ∧ run.state.g = 0 then 1 else 0) := by
  induction k generalizing st before with
  | zero =>
    refine ⟨rfl, rfl, rfl, rfl, by simp [concealRun], ?_⟩
    show 0 = _
    rw [if_neg (by simp [concealRun]; omega)]
  | succ k ih =>
    have hhold : (st.advance hlim st.b .held).h = st.h + 1 := by
      show min (st.h + 1) 65535 = _
      omega
    have hgain : (st.advance hlim st.b .held).g = if hlim < st.h + 1 then st.g - 1 else st.g := by
      rw [← hhold]
      rfl
    obtain ⟨hh, hb, hheld, hinterpolated, hg, hmutes⟩ := ih (st.advance hlim st.b .held) none (by omega)
    rw [concealRun_held_cons]
    dsimp only
    rw [hmutes, hg, hh, hhold, hgain]
    refine ⟨by omega, hb, by omega, hinterpolated, by split <;> omega, ?_⟩
    by_cases hbeyond : hlim < st.h + 1
    · rw [if_pos hbeyond]
      split_ifs <;> omega
    · rw [if_neg hbeyond]
      split_ifs <;> omega

/-- The floor of a mean lies between the two. -/
theorem mean_between (u v : Int) : min u v ≤ (u + v).fdiv 2 ∧ (u + v).fdiv 2 ≤ max u v := by
  rw [Int.fdiv_eq_ediv_of_nonneg _ (by omega)]
  omega

/-- A run that ends on a valid sample holds it as the base. -/
theorem concealRun_last (hlim : Nat) (st : ChannelState) (before : Option Sample) (xs : List (Option Sample)) {v : Sample}
    (h : xs.getLast? = some (some v)) : (concealRun hlim st before xs).state.b = v := by
  induction xs generalizing st before with
  | nil => cases h
  | cons x xs ih =>
    cases xs with
    | nil =>
      obtain rfl : x = some v := Option.some.inj h
      rfl
    | cons y ys => exact ih _ _ (by rwa [List.getLast?_cons_cons] at h)

theorem map_zipWith_left {α β γ : Type} (f : α → β → γ) (g : γ → α) (hg : ∀ a b, g (f a b) = a) (l : List α) (r : List β)
    (hlen : l.length = r.length) : (List.zipWith f l r).map g = l := by
  induction l generalizing r with
  | nil => rfl
  | cons a l ih =>
    cases r with
    | nil => cases hlen
    | cons b r => rw [List.zipWith_cons_cons, List.map_cons, hg, ih r (Nat.succ.inj hlen)]

theorem map_zipWith_right {α β γ : Type} (f : α → β → γ) (g : γ → β) (hg : ∀ a b, g (f a b) = b) (l : List α) (r : List β)
    (hlen : l.length = r.length) : (List.zipWith f l r).map g = r := by
  rw [List.zipWith_comm]
  exact map_zipWith_left (fun b a => f a b) g (fun b a => hg a b) r l hlen.symm

/-- Settles O50. -/
theorem concealmentFollowsItsRuns : Obligations.ConcealmentFollowsItsRuns := by
  refine ⟨?_, ?_, ?_, ?_, ?_, ?_, ?_, ?_, ?_⟩
  · intro hlim st before xs
    obtain ⟨_, houts, hflags, _, _⟩ := concealRun_eq hlim st before xs
    refine ⟨?_, ?_, fun h => h.concealRun hlim before xs⟩
    · rw [houts, List.length_map, length_concealStates]
    · rw [hflags, List.length_map, length_concealStates]
  · intro hlim st before xs valid prior mean run
    obtain ⟨hstate, houts, hflags, hlowest, hmutes⟩ := concealRun_eq hlim st before xs
    obtain ⟨hinterpolated, hheld⟩ := concealRun_counts hlim st before xs
    refine ⟨concealStates hlim st before xs, length_concealStates hlim st before xs, fun i p y hp hy => ?_, hstate, houts,
      hflags, hlowest, hinterpolated, hheld, hmutes⟩
    obtain ⟨hvalid, hmean, hbase, hprev, hhold, hgain⟩ := concealStates_follow hlim st before xs i p y hp hy
    exact ⟨hvalid, hmean, hbase, hprev, hhold, hgain⟩
  · intro base g hg
    obtain ⟨hpos, hneg⟩ := scaled_sign base.toInt g
    rw [toInt_outputAt base hg]
    refine ⟨natAbs_scaled_le base.toInt hg, hpos, hneg, ?_, ?_⟩
    · exact outputAt_full base
    · simp [outputAt, sampleOf]
  · intro hlim st before vs hg hne run
    obtain ⟨hgain, hheld, hinterpolated, hmutes, hhold, hbase⟩ := concealRun_valid hlim st before vs hg
    rw [if_neg hne] at hhold
    refine ⟨hhold, hgain, hheld, hinterpolated, hmutes, fun hlen => hgain.trans (by omega), ?_⟩
    rw [show run.state.b = _ from hbase, List.getLast?_eq_some_getLast hne, List.getLastD_eq_getLast?, List.getLast?_eq_some_getLast hne]
    rfl
  · intro hlim st before k hlimit hcount run
    obtain ⟨hh, hb, hheld, hinterpolated, hg, hmutes⟩ := concealRun_held hlim st before k hcount
    refine ⟨hh, hb, hheld, hinterpolated, hg, hmutes, fun h0 h32 => ?_⟩
    rw [show run.state.g = _ from hg, h0, h32]
    omega
  · intro b u v x
    have hx : x.toInt = (u.toInt + v.toInt).fdiv 2 := toInt_mean u v
    rw [hx]
    exact ⟨rfl, (mean_between _ _).1, (mean_between _ _).2, rfl, rfl⟩
  · intro hlim number st xs x hx run
    have hlast : xs.getLast?.join = x := by
      rw [hx]
      rfl
    show PrevSample.mk (concealRun hlim st (recordNeighbour st.prev number) xs).state.b xs.getLast?.join.isSome number =
      PrevSample.mk (x.getD (concealRun hlim st (recordNeighbour st.prev number) xs).state.b) x.isSome number
    rw [hlast]
    cases x with
    | none => rfl
    | some v => rw [concealRun_last hlim st _ xs hx, Option.getD_some]
  · intro hlim number st v rest follows run
    have hneighbour : recordNeighbour st.prev number = if follows then some st.prev.value else none := by
      show _ = if (match number, st.prev.number with
        | some n, some m => m + 1 == n && st.prev.valid
        | some _, none => false
        | none, _ => false) then _ else _
      unfold recordNeighbour
      cases number with
      | none => rfl
      | some n =>
        cases st.prev.number with
        | none => rfl
        | some m => simp only [Bool.and_eq_true, beq_iff_eq]
    split
    next hfollows =>
      rw [if_pos hfollows] at hneighbour
      refine ⟨sampleOf ((st.prev.value.toInt + v.toInt) / 2), toInt_mean _ _, ?_⟩
      show (concealRun hlim st (recordNeighbour st.prev number) (none :: some v :: rest)).outs.head? = _
      rw [hneighbour]
      rfl
    next hfollows =>
      rw [if_neg hfollows] at hneighbour
      show (concealRun hlim st (recordNeighbour st.prev number) (none :: some v :: rest)).outs.head? = _
      rw [hneighbour]
      rfl
  · intro c h number ls rs hlen out l r
    have houts (st : ChannelState) (xs : List (Option Sample)) : (concealChannel c.hlim number st xs).outs.length = xs.length ∧
        (concealChannel c.hlim number st xs).flags.length = xs.length := by
      obtain ⟨_, houts, hflags, _, _⟩ := concealRun_eq c.hlim st (recordNeighbour st.prev number) xs
      simp only [concealChannel, houts, hflags, List.length_map, length_concealStates, and_self]
    have hlo : l.outs.length = r.outs.length := by rw [(houts _ ls).1, (houts _ rs).1, hlen]
    have hlf : l.flags.length = r.flags.length := by rw [(houts _ ls).2, (houts _ rs).2, hlen]
    exact ⟨rfl, PerHead.get_set_self _ _ _, fun g hg => PerHead.get_set_other _ _ hg,
      map_zipWith_left _ _ (fun _ _ => rfl) _ _ hlo, map_zipWith_right _ _ (fun _ _ => rfl) _ _ hlo,
      map_zipWith_left _ _ (fun _ _ => rfl) _ _ hlf, map_zipWith_right _ _ (fun _ _ => rfl) _ _ hlf, rfl, rfl, rfl, rfl⟩

end Sys2Proof.Machine
end

section
/-! PROOFS. Blocks as read (O43, O45): a coded frame read back, and the block CRC, which finds any one changed byte. -/

namespace Sys2Proof.Machine

/-! ## A whole coded frame read back (O43) -/

theorem mem_spared_zero {n : Nat} (hn : n < 102) : n ∈ spared 0 0 := mem_spared.mpr ⟨hn, .inr (Nat.zero_le n)⟩

/-- With every block held, nothing is erased. -/
theorem erasedCount_assemblyOf {pairs : List Pair} {r : Subcode} (hprogram : r.program.toNat ≤ 999) :
    erasedCount (assemblyOf pairs r (spared 0 0)) = 0 := by
  have hplace (t : Track) {p : Nat} (hp : p < 51) :
      placeOf (assemblyOf pairs r (spared 0 0)) t p = some (payloadAt t pairs r p) := by
    rw [placeOf_assemblyOf spared_lt hp, if_pos (mem_spared_zero (writeIndex_lt t hp))]
  have hnone (t : Track) : (List.range 51).countP (isErased (assemblyOf pairs r (spared 0 0)) t) = 0 := by
    rw [List.countP_eq_zero]
    intro p hp
    have hp : p < 51 := List.mem_range.mp hp
    have hsubcode : goodSubcode (assemblyOf pairs r (spared 0 0)) t = some r := by
      rw [goodSubcode, hplace t (by decide)]
      exact parseSubcode_subcodePayload hprogram
    simp [isErased, hplace t hp, hsubcode]
  simp [erasedCount, Config.positions, hnone]

/-- Settles O43. -/
theorem writtenFrameIsReadBack : Obligations.WrittenFrameIsReadBack := by
  intro s h pairs r hd hempty hlen hprogram
  obtain ⟨hcount, hblocks⟩ := codeFrame_lengths pairs r
  obtain ⟨t, hrun, hasm⟩ := runCommands_spared hd hempty pairs r 0 0
  rw [List.take_zero, List.nil_append, Nat.add_zero, List.drop_zero] at hrun
  have hdata := dataBlock_after_ten (pairs := pairs) (r := r) (i := 0) (k := 0) (Nat.zero_le 10)
  have hqualifying : qualifying (assemblyOf pairs r (spared 0 0)) .a = some r := by
    rw [qualifying_assemblyOf spared_lt hprogram, if_pos (mem_spared_zero (by decide))]
  refine ⟨hcount, hblocks, t, hrun, ?_⟩
  simp only [hasm, ← hlen]
  refine ⟨?_, erasedCount_assemblyOf hprogram, lostCount_eq_zero hdata, rfl, frameSamples_eq hdata (hlen ▸ spf_le _)⟩
  simp only [chooseSubcode, hqualifying]

/-! ## The block CRC (R3) -/

/-- A shift of the register loses nothing: its lowest bit after the shift tells the bit that left. -/
theorem crc16Shift_injective : Function.Injective crc16Shift := by
  intro x y h
  have hlow (r : BitVec 16) : (crc16Shift r).getLsbD 0 = r.msb := by
    unfold crc16Shift
    cases hr : r.msb <;> simp
  have hmsb : x.msb = y.msb := by rw [← hlow, h, hlow]
  have hshift : x <<< 1 = y <<< 1 := by
    unfold crc16Shift at h
    rw [hmsb] at h
    cases hy : y.msb with
    | true => simpa [hy, BitVec.xor_left_inj] using h
    | false => simpa [hy] using h
  refine BitVec.eq_of_getLsbD_eq fun i hi => ?_
  by_cases hlast : i = 15
  · subst hlast
    exact hmsb
  · have hbit := congrArg (·.getLsbD (i + 1)) hshift
    simpa [show i + 1 < 16 by omega, BitVec.getLsbD_eq_getElem hi] using hbit

theorem foldl_injective {α β : Type} {f : α → β → α} (hf : ∀ b, Function.Injective (f · b)) (bs : List β) :
    Function.Injective (bs.foldl f) := by
  induction bs with
  | nil => exact Function.injective_id
  | cons b bs ih => exact ih.comp (hf b)

theorem crc16Byte_injective (b : Byte) : Function.Injective (crc16Byte · b) :=
  (foldl_injective (fun _ => crc16Shift_injective) (List.range 8)).comp fun x y h => by simpa using h

theorem crc16Byte_injective_right (r : BitVec 16) : Function.Injective (crc16Byte r) :=
  (foldl_injective (fun _ => crc16Shift_injective) (List.range 8)).comp fun x y h => by
    have hshift : x.setWidth 16 <<< 8 = y.setWidth 16 <<< 8 := by simpa using h
    bv_omega

/-- The CRC finds any one changed byte. -/
theorem crc16_set {bs : List Byte} {i : Nat} {x : Byte} (hi : i < bs.length) (hx : bs[i] ≠ x) :
    crc16 (bs.set i x) ≠ crc16 bs := by
  have hsplit : bs = bs.take i ++ bs[i] :: bs.drop (i + 1) := by simp
  have hset : bs.set i x = bs.take i ++ x :: bs.drop (i + 1) := List.set_eq_take_append_cons_drop.trans (if_pos hi)
  intro h
  unfold crc16 at h
  rw [hset] at h
  conv at h => rhs; rw [hsplit]
  rw [List.foldl_append, List.foldl_append, List.foldl_cons, List.foldl_cons] at h
  exact hx (crc16Byte_injective_right _ (foldl_injective crc16Byte_injective _ h)).symm

theorem be_two_injective {x y : Word16} (h : be 2 x.toNat = be 2 y.toNat) : x = y := by
  rw [← ofNat_ofBe_be_two x, h, ofNat_ofBe_be_two]

/-! ## Usable blocks (R3, R4, R53, R54) -/

/-- A block with a wrong CRC is not usable. -/
theorem parseBlock_badCrc {bytes : List Byte} (h : be 2 (crc16 (bytes.take 124)).toNat ≠ bytes.drop 124) :
    parseBlock bytes = none := if_neg fun hgood => h hgood.2

/-- What makes a block unusable (R4). -/
theorem parseBlock_unusable {bytes : List Byte} (h : bytes.length ≠ 126 ∨
    be 2 (crc16 (bytes.take 124)).toNat ≠ bytes.drop 124 ∨ 1 < (bytes.getD 0 0).toNat ∨ 50 < (bytes.getD 1 0).toNat) :
    parseBlock bytes = none := by
  by_cases hlen : bytes.length = 126
  · obtain hne | hcrc | hfields := h
    · exact absurd hlen hne
    · exact parseBlock_badCrc hcrc
    · match bytes, hlen with
      | t :: p :: g0 :: g1 :: payload, _ =>
        have hfields : 1 < t.toNat ∨ 50 < p.toNat := hfields
        have htake : (t :: p :: g0 :: g1 :: payload).take 124 = t :: p :: g0 :: g1 :: payload.take 120 := rfl
        unfold parseBlock
        rw [htake]
        split
        · dsimp only
          split
          next track htrack =>
            refine if_neg fun hp => ?_
            have hp : p.toNat < 51 := hp
            have ht : t.toNat ≤ 1 := by
              unfold trackOfCode at htrack
              split_ifs at htrack with h0 h1
              · rw [h0]
                decide
              · rw [h1]
                decide
            omega
          · rfl
        · rfl
  · exact if_neg fun hgood => hlen hgood.1

/-- A usable block with any one byte changed is not usable. -/
theorem parseBlock_changed {track : Track} {position : Nat} {tag : Word16} {payload : List Byte}
    (hpayload : payload.length = 120) {i : Nat} {x : Byte} (hi : i < 126)
    (hx : (blockBytes track position tag payload).getD i 0 ≠ x) :
    parseBlock ((blockBytes track position tag payload).set i x) = none := by
  obtain ⟨covered, hcovered, hlen⟩ : ∃ covered, blockBytes track position tag payload =
      covered ++ be 2 (crc16 covered).toNat ∧ covered.length = 124 :=
    ⟨_, rfl, by simp [hpayload]⟩
  rw [hcovered] at hx ⊢
  apply parseBlock_badCrc
  rw [List.take_set, List.drop_set, List.take_left' hlen, List.drop_left' hlen]
  split
  next hdata =>
    have hchanged : covered[i] ≠ x := by
      rw [List.getD_append _ _ _ _ (by omega), List.getD_eq_getElem _ _ (by omega)] at hx
      exact hx
    exact fun h => crc16_set (by omega) hchanged (be_two_injective h)
  next hcrc =>
    rw [List.set_eq_of_length_le (by omega)]
    intro h
    have hlast : (be 2 (crc16 covered).toNat).getD (i - 124) 0 = x := by
      rw [h, List.getD_eq_getElem _ _ (by simp; omega)]
      exact List.getElem_set_self _
    rw [List.getD_append_right _ _ _ _ (by omega), hlen] at hx
    exact hx hlast

/-- A usable block is placed, counted as foreign, or discarded as a duplicate. -/
theorem judgeBlock_usable (a : Assembly) {bytes : List Byte} {b : Block} (h : parseBlock bytes = some b) :
    judgeBlock a bytes = match a.tag with
      | none => { a with
          tag := some b.tag
          places := a.places ++ [{ track := b.track, position := b.position, payload := b.payload }] }
      | some x =>
        if x ≠ b.tag then { a with foreign := min (a.foreign + 1) 255 }
        else if a.places.any (fun p => p.track == b.track && p.position == b.position) then a
        else { a with places := a.places ++ [{ track := b.track, position := b.position, payload := b.payload }] } := by
  obtain ⟨tag, places, foreign⟩ := a
  have hfilled : (placeOf ⟨tag, places, foreign⟩ b.track b.position).isSome =
      places.any (fun p => p.track == b.track && p.position == b.position) := by
    rw [Bool.eq_iff_iff, placeOf, Option.isSome_map, List.find?_isSome, List.any_eq_true]
  rw [judgeBlock, h]
  cases tag with
  | none => rfl
  | some x =>
    dsimp only
    by_cases hx : x = b.tag
    · subst hx
      rw [if_neg (not_not.mpr rfl), if_neg (not_not.mpr rfl), hfilled]
      rfl
    · rw [if_pos hx, if_pos hx]
      rfl

/-- Settles O45. -/
theorem blockArrivalIsJudged : Obligations.BlockArrivalIsJudged := by
  intro s h hd a gathered
  have hkept (bytes : List Byte) (hnone : parseBlock bytes = none) : exec (.blockArrival h bytes) s = .next (gathered bytes) := by
    rw [exec_blockArrival hd, blockArrival, judgeBlock, hnone]
    simp only [PerHead.set_get_self]
    rfl
  refine ⟨fun bytes hbad => hkept bytes (parseBlock_unusable hbad), fun track position tag payload hposition hpayload => ?_⟩
  intro bytes places
  refine ⟨?_, fun i x hi hx => hkept _ (parseBlock_changed hpayload hi hx)⟩
  have hexec : exec (.blockArrival h bytes) s = .next ((gathered bytes).setDecoder { s.decoder with
      assembly := s.decoder.assembly.set h (judgeBlock a bytes) }) := exec_blockArrival hd h bytes
  exact hexec.trans (congrArg (fun x => Host.Outcome.next ((gathered bytes).setDecoder { s.decoder with
    assembly := s.decoder.assembly.set h x })) (judgeBlock_usable a (parseBlock_blockBytes (by omega) hpayload)))

end Sys2Proof.Machine
end

section
/-! PROOFS. A closed frame (O46 to O48): its record, its hand-offs, the queries it answers, and the judgement of an
ADVANCE subcode. -/

namespace Sys2Proof.Machine

/-! ## Causes -/

/-- A raised cause joins the pending set, and no other does. -/
theorem hasCause_raise (c d : Cause) (s : State) :
    hasCause (raise d s).notice.pending c = (hasCause s.notice.pending c || decide (d = c)) := by
  unfold raise
  split
  next hd =>
    by_cases h : d = c
    · subst h
      simp [hd]
    · simp [h]
  · rw [evaluate_notice_pending]
    exact (hasCause_or _ _ _).trans (by rw [hasCause_causeBit])

@[simp] theorem hasCause_raiseIf (b : Bool) (c d : Cause) (s : State) :
    hasCause (raiseIf b d s).notice.pending c = (hasCause s.notice.pending c || (b && decide (d = c))) := by
  cases b with
  | true => rw [raiseIf_true, hasCause_raise, Bool.true_and]
  | false => simp

/-! ## The stages of a close -/

/-- The formatter once a numbered CONFIDENCE frame is struck off the written-frame list. -/
def confirmedBy (h : Head) (number : Option FrameNo) (f : Formatter) : Formatter :=
  match h, number with
  | .confidence, some n => { f with written := f.written.filter (fun x => x != n) }
  | .confidence, none => f
  | .advance, _ => f

/-- A numbered CONFIDENCE frame of the list has lost blocks. -/
def confirmFault (h : Head) (number : Option FrameNo) (lost : Nat) (f : Formatter) : Bool :=
  match h, number with
  | .confidence, some n => f.written.contains n && 0 < lost
  | .confidence, none => false
  | .advance, _ => false

theorem toConfirm_eq (h : Head) (number : Option FrameNo) (lost : Nat) (s : State) : toConfirm h number lost s =
    raiseIf (confirmFault h number lost s.formatter) .confidenceFault (s.setFormatter (confirmedBy h number s.formatter)) := by
  cases h with
  | advance => rfl
  | confidence =>
    cases number with
    | none => rfl
    | some n =>
      show (if s.formatter.written.contains n then raiseIf (0 < lost) .confidenceFault (confirm n s) else s) =
        raiseIf (s.formatter.written.contains n && 0 < lost) .confidenceFault (confirm n s)
      by_cases hn : s.formatter.written.contains n = true
      · rw [if_pos hn, hn, Bool.true_and]
      · have hsame : s.formatter.written.filter (fun x => x != n) = s.formatter.written :=
          List.filter_eq_self.mpr fun x hx => by
            rw [bne_iff_ne]
            rintro rfl
            exact hn (by simpa using hx)
        rw [if_neg hn, Bool.eq_false_iff.mpr hn, Bool.false_and, raiseIf_false, confirm, hsame]
        rfl

/-- The ring once a numbered ADVANCE frame is offered to it. -/
def ringAfter (h : Head) (number : Option FrameNo) (sub : Option Subcode) (c : ConcealedFrame) (w : FrameNo)
    (ring : List RingEntry) : List RingEntry :=
  match h, number with
  | .advance, some n => joinRing w { number := n, pairs := c.pairs, flags := c.flags, subcode := sub } ring
  | .advance, none => ring
  | .confidence, _ => ring

theorem toRing_eq (h : Head) (number : Option FrameNo) (sub : Option Subcode) (c : ConcealedFrame) (s : State) :
    toRing h number sub c s = s.setRing (ringAfter h number sub c s.position.w s.ring) := by
  cases h <;> cases number <;> rfl

/-- The judgement touches the position unit, the numbers of the capture frames and the cursor. -/
theorem toPosition_shape (h : Head) (sub : Option Subcode) (x : FrameNo) (s : State) : ∃ b p i e,
    toPosition h sub x s = raiseIf b .lockChange (((s.setPosition p).setInput i).setEngine e) := by
  have hnone : s = raiseIf false .lockChange (((s.setPosition s.position).setInput s.input).setEngine s.engine) := rfl
  cases h with
  | confidence => exact ⟨false, _, _, _, hnone⟩
  | advance =>
    cases sub with
    | none => exact ⟨false, _, _, _, hnone⟩
    | some r =>
      show ∃ b p i e, judgeSubcode r.number x s = _
      unfold judgeSubcode
      generalize hp : s.position.judge r.number x s.decoder.preread = p
      split
      · dsimp only
        split
        · unfold rewind
          split
          · exact ⟨_, p, (renumber (p.w - s.position.w) (s.setPosition p)).input, _, rfl⟩
          · exact ⟨_, p, (renumber (p.w - s.position.w) (s.setPosition p)).input, s.engine, rfl⟩
        · exact ⟨_, p, (renumber (p.w - s.position.w) (s.setPosition p)).input, s.engine, rfl⟩
      · exact ⟨false, _, _, _, hnone⟩

/-- The number of a closed frame (R58, R59). -/
def closedNumber (h : Head) (s : State) : Option FrameNo :=
  numberFrame h (s.decoder.assembly.get h) (chooseSubcode (s.decoder.assembly.get h)).1 s

/-- A closed frame's rate code differs from the session's (R61). -/
def closedMismatch (h : Head) (s : State) : Bool :=
  rateMismatch (chooseSubcode (s.decoder.assembly.get h)).1 s.input.rate

/-- The samples of a closed frame that go to concealment (R60, R61). -/
def closedSamples (h : Head) (s : State) : Stereo (List (Option Sample)) :=
  if closedMismatch h s then allInvalid (spf s.input.rate) else frameSamples (spf s.input.rate) (s.decoder.assembly.get h)

/-- A closed frame as concealed, with the unit's states after it. -/
def closedFrame (h : Head) (s : State) : Conceal × ConcealedFrame :=
  concealFrame s.conceal h (closedNumber h s) (closedSamples h s)

/-- The quality record of a closed frame (R64). -/
def closedQuality (h : Head) (s : State) : QualityRecord :=
  qualityOf h (s.decoder.assembly.get h) (closedNumber h s) (closedMismatch h s) (closedFrame h s).2

/-- The report of a closed frame (R70). -/
def closedReport (h : Head) (s : State) : Report :=
  reportOf h (chooseSubcode (s.decoder.assembly.get h)).1 (closedQuality h s) s

/-- The state in which a closed frame is handed on: concealed, and its record made. -/
def closedRecorded (h : Head) (s : State) : State :=
  recordQuality h (closedQuality h s) (raiseIf (h == .advance && 0 < (closedFrame h s).2.mutes) .playMute
    ((raiseIf (closedMismatch h s) .rateMismatch (openAssembly h s)).setConceal (closedFrame h s).1))

theorem closeFrame_eq (h : Head) (s : State) : closeFrame h s =
    reportQueries (closedReport h s) (toConfirm h (closedNumber h s) (closedQuality h s).lost
      (toRing h (closedNumber h s) (chooseSubcode (s.decoder.assembly.get h)).1 (closedFrame h s).2
        (toOutput h (chooseSubcode (s.decoder.assembly.get h)).1 (closedFrame h s).2
          (toPosition h (chooseSubcode (s.decoder.assembly.get h)).1 (expectedNumber s) (closedRecorded h s))))) := by
  have hconceal : (raiseIf (closedMismatch h s) .rateMismatch (openAssembly h s)).conceal = s.conceal := raiseIf_conceal _ _ _
  unfold closedReport closedRecorded closedQuality closedFrame
  rw [← hconceal]
  rfl

/-! ## What a close leaves -/

/-- The frame that a close hands to the output unit. -/
def closedPlay (h : Head) (s : State) : PlayFrame :=
  { pairs := (closedFrame h s).2.pairs
    mark := match (chooseSubcode (s.decoder.assembly.get h)).1 with
      | some r => r.mark
      | none => .never }

theorem toOutput_eq (h : Head) (s t : State) :
    toOutput h (chooseSubcode (s.decoder.assembly.get h)).1 (closedFrame h s).2 t = t.setOutput { t.output with
      fresh := match h with
        | .advance => { t.output.fresh with advance := some (closedPlay h s) }
        | .confidence => { t.output.fresh with confidence := some (closedPlay h s) } } := by
  cases h <;> rfl

section Closed
variable (h : Head) (s : State)

/-- The blocks of a closed frame's state, as a change of the state in which it was recorded. -/
theorem closeFrame_shape : ∃ b p i e, closeFrame h s = reportQueries (closedReport h s)
    (raiseIf (confirmFault h (closedNumber h s) (closedQuality h s).lost s.formatter) .confidenceFault
      (((toOutput h (chooseSubcode (s.decoder.assembly.get h)).1 (closedFrame h s).2
        (raiseIf b .lockChange ((((closedRecorded h s).setPosition p).setInput i).setEngine e))).setRing
          (ringAfter h (closedNumber h s) (chooseSubcode (s.decoder.assembly.get h)).1 (closedFrame h s).2 p.w s.ring)).setFormatter
        (confirmedBy h (closedNumber h s) s.formatter))) := by
  obtain ⟨b, p, i, e, hp⟩ := toPosition_shape h (chooseSubcode (s.decoder.assembly.get h)).1 (expectedNumber s)
    (closedRecorded h s)
  refine ⟨b, p, i, e, ?_⟩
  rw [closeFrame_eq, toConfirm_eq, toRing_eq, hp]
  have hring : (closedRecorded h s).ring = s.ring := by simp [closedRecorded, recordQuality, openAssembly]
  have hformatter : (closedRecorded h s).formatter = s.formatter := by simp [closedRecorded, recordQuality, openAssembly]
  simp [toOutput, hring, hformatter]

@[simp] theorem closeFrame_gathered : (closeFrame h s).gathered = s.gathered.set h [] := by
  obtain ⟨b, p, i, e, heq⟩ := closeFrame_shape h s
  rw [heq]
  simp [reportQueries, updateQueries, toOutput, closedRecorded, recordQuality, openAssembly]

/-- The quality record joins the head's history and totals, and a new frame in assembly is open. -/
theorem closeFrame_decoder : (closeFrame h s).decoder = { s.decoder with
    assembly := s.decoder.assembly.set h Assembly.empty
    history := s.decoder.history.set h ((closedQuality h s :: s.decoder.history.get h).take 16)
    totals := s.decoder.totals.set h ((s.decoder.totals.get h).enter (closedQuality h s)) } := by
  obtain ⟨b, p, i, e, heq⟩ := closeFrame_shape h s
  rw [heq]
  simp [reportQueries, updateQueries, toOutput, closedRecorded, recordQuality, openAssembly, pushNewest,
    Config.historyCap]

theorem closeFrame_conceal : (closeFrame h s).conceal = (closedFrame h s).1 := by
  obtain ⟨b, p, i, e, heq⟩ := closeFrame_shape h s
  rw [heq]
  simp [reportQueries, updateQueries, toOutput, closedRecorded, recordQuality, openAssembly]

theorem closeFrame_output : (closeFrame h s).output = { s.output with
    fresh := match h with
      | .advance => { s.output.fresh with advance := some (closedPlay h s) }
      | .confidence => { s.output.fresh with confidence := some (closedPlay h s) } } := by
  obtain ⟨b, p, i, e, heq⟩ := closeFrame_shape h s
  rw [heq, toOutput_eq]
  cases h <;> simp [reportQueries, updateQueries, closedRecorded, recordQuality, openAssembly]

theorem closeFrame_ring : (closeFrame h s).ring = ringAfter h (closedNumber h s)
    (chooseSubcode (s.decoder.assembly.get h)).1 (closedFrame h s).2 (closeFrame h s).position.w s.ring := by
  obtain ⟨b, p, i, e, heq⟩ := closeFrame_shape h s
  rw [heq]
  simp [reportQueries, updateQueries, toOutput]

theorem closeFrame_formatter : (closeFrame h s).formatter = confirmedBy h (closedNumber h s) s.formatter := by
  obtain ⟨b, p, i, e, heq⟩ := closeFrame_shape h s
  rw [heq]
  simp [reportQueries, updateQueries]

/-- The blocks that a close leaves. -/
theorem closeFrame_keeps : (closeFrame h s).pins = s.pins ∧ (closeFrame h s).sampleCount = s.sampleCount ∧
    (closeFrame h s).lineage = s.lineage := by
  obtain ⟨b, p, i, e, heq⟩ := closeFrame_shape h s
  rw [heq]
  simp [reportQueries, updateQueries, toOutput, closedRecorded, recordQuality, openAssembly]

/-- The causes that a close raises, but LOCK_CHANGE and QUERY_COMPLETE. -/
theorem closeFrame_hasCause (c : Cause) (hlock : c ≠ .lockChange) (hquery : c ≠ .queryComplete) :
    hasCause (closeFrame h s).notice.pending c = (hasCause s.notice.pending c ||
      (closedMismatch h s && decide (c = .rateMismatch)) ||
      ((h == .advance && 0 < (closedFrame h s).2.mutes) && decide (c = .playMute)) ||
      (confirmFault h (closedNumber h s) (closedQuality h s).lost s.formatter && decide (c = .confidenceFault))) := by
  obtain ⟨b, p, i, e, heq⟩ := closeFrame_shape h s
  rw [heq]
  simp [reportQueries, updateQueries, toOutput, closedRecorded, recordQuality, openAssembly, hlock.symm, hquery.symm,
    eq_comm (a := c)]

theorem closeFrame_query : (closeFrame h s).query =
    { s.query with entries := s.query.entries.map (QueryEntry.report (closedReport h s)) } := by
  obtain ⟨b, p, i, e, heq⟩ := closeFrame_shape h s
  rw [heq]
  simp [reportQueries, updateQueries, toOutput, closedRecorded, recordQuality, openAssembly]

theorem closeFrame_queryComplete (hdone : s.query.entries.any
    (fun e => !e.isComplete && (e.report (closedReport h s)).isComplete) = true) :
    hasCause (closeFrame h s).notice.pending .queryComplete = true := by
  obtain ⟨b, p, i, e, heq⟩ := closeFrame_shape h s
  rw [heq]
  simp [reportQueries, updateQueries, toOutput, closedRecorded, recordQuality, openAssembly, hdone]

end Closed

/-! ## Concealed frames -/

/-- Two counts of elements that differ in a condition are no more than the elements. -/
theorem countP_and_add_countP_not (p q : Nat → Bool) (l : List Nat) :
    l.countP (fun i => p i && q i) + l.countP (fun i => p i && !q i) ≤ l.length := by
  induction l with
  | nil => exact le_rfl
  | cons i l ih =>
    rw [List.countP_cons, List.countP_cons, List.length_cons]
    cases p i <;> cases q i <;> simp <;> omega

theorem foldr_min_le (l : List Nat) (m : Nat) : l.foldr min m ≤ m := by
  induction l with
  | nil => exact le_rfl
  | cons x l ih => exact (Nat.min_le_right _ _).trans ih

theorem concealChannel_counts (hlim : Nat) (number : Option FrameNo) (st : ChannelState) (xs : List (Option Sample)) :
    (concealChannel hlim number st xs).interpolated + (concealChannel hlim number st xs).held ≤ xs.length ∧
    (concealChannel hlim number st xs).lowest ≤ 32 := by
  obtain ⟨hinterpolated, hheld⟩ := concealRun_counts hlim st (recordNeighbour st.prev number) xs
  obtain ⟨_, _, _, hlowest, _⟩ := concealRun_eq hlim st (recordNeighbour st.prev number) xs
  constructor
  · show (concealRun hlim st (recordNeighbour st.prev number) xs).interpolated +
      (concealRun hlim st (recordNeighbour st.prev number) xs).held ≤ xs.length
    rw [hinterpolated, hheld]
    exact (countP_and_add_countP_not _ _ _).trans_eq List.length_range
  · show (concealRun hlim st (recordNeighbour st.prev number) xs).lowest ≤ 32
    rw [hlowest]
    exact foldr_min_le _ _

/-- A channel without a valid sample is held throughout. -/
theorem concealChannel_invalid (hlim : Nat) (number : Option FrameNo) (st : ChannelState) (n : Nat) :
    (concealChannel hlim number st (List.replicate n none)).interpolated = 0 ∧
    (concealChannel hlim number st (List.replicate n none)).held = n := by
  obtain ⟨hinterpolated, hheld⟩ := concealRun_counts hlim st (recordNeighbour st.prev number) (List.replicate n none)
  have hnone (i : Nat) : validAt (List.replicate n none) i = none := by
    unfold validAt
    rw [List.getElem?_replicate]
    split <;> rfl
  simp only [meanAt, hnone, Option.isNone_none, Option.isSome_none, Bool.and_false, Bool.not_false, Bool.and_self,
    List.length_replicate] at hinterpolated hheld
  exact ⟨hinterpolated.trans (by simp), hheld.trans (by simp)⟩

/-- A run of valid samples at full gain goes out as it is. -/
theorem concealRun_full (hlim : Nat) {st : ChannelState} (hg : st.g = 32) (before : Option Sample) (vs : List Sample) :
    (concealRun hlim st before (vs.map some)).outs = vs ∧ (concealRun hlim st before (vs.map some)).lowest = 32 := by
  induction vs generalizing st before with
  | nil => exact ⟨rfl, rfl⟩
  | cons v vs ih =>
    have hfull : (st.advance hlim v .valid).g = 32 := by
      show min (st.g + 1) 32 = 32
      omega
    obtain ⟨houts, hlowest⟩ := ih hfull (some v)
    rw [List.map_cons, concealRun_valid_cons]
    dsimp only
    rw [houts, hlowest, hfull, outputAt_full]
    exact ⟨rfl, rfl⟩

/-- A channel with every sample valid, at full gain, is as read. -/
theorem concealChannel_valid (hlim : Nat) (number : Option FrameNo) {st : ChannelState} (hg : st.g = 32) (vs : List Sample) :
    let run := concealChannel hlim number st (vs.map some)
    run.interpolated = 0 ∧ run.held = 0 ∧ run.lowest = 32 ∧ run.outs = vs := by
  obtain ⟨_, hheld, hinterpolated, _⟩ := concealRun_valid hlim st (recordNeighbour st.prev number) vs (by omega)
  obtain ⟨houts, hlowest⟩ := concealRun_full hlim hg (recordNeighbour st.prev number) vs
  exact ⟨hinterpolated, hheld, hlowest, houts⟩

/-- Without a lost block every slot of a track is valid. -/
theorem slotValue_isSome {a : Assembly} (h : lostCount a = 0) (t : Track) (i : Nat) : (slotValue (dataTrack a t) i).isSome := by
  have hblocks (t : Track) (j : Nat) (hj : j < 40) : (dataBlock a t j).isSome := by
    obtain ⟨ha, hb⟩ := Nat.add_eq_zero_iff.mp h
    rw [List.countP_eq_zero] at ha hb
    have hj : j ∈ List.range Config.dataBlocks := List.mem_range.mpr hj
    cases t with
    | a => simpa [Option.isSome_iff_ne_none] using ha j hj
    | b => simpa [Option.isSome_iff_ne_none] using hb j hj
  have hi : i % 40 < 40 := Nat.mod_lt _ (by decide)
  have hslot : (dataTrack a t)[i % 40]? = some (dataBlock a t (i % 40)) := by simp [dataTrack, Config.dataBlocks, hi]
  rw [slotValue, Config.dataBlocks, hslot]
  simpa using hblocks t _ hi

/-- Without a lost block every sample is valid. -/
theorem frameSamples_valid {a : Assembly} (h : lostCount a = 0) (n : Nat) :
    ∃ l r : List Sample, (frameSamples n a).l = l.map some ∧ (frameSamples n a).r = r.map some := by
  have hall (track : Nat → Track) : (List.range n).map (fun i =>
        slotValue (if track i = .a then dataTrack a .a else dataTrack a .b) i) =
      ((List.range n).map (fun i => (slotValue (dataTrack a (track i)) i).getD 0)).map some := by
    rw [List.map_map]
    refine List.map_congr_left fun i _ => ?_
    rw [ite_dataTrack]
    obtain ⟨v, hv⟩ := Option.isSome_iff_exists.mp (slotValue_isSome h (track i) i)
    simp [hv]
  exact ⟨_, _, hall trackOfL, hall trackOfR⟩

section Frame
variable (h : Head) (s : State)

theorem length_closedSamples : (closedSamples h s).l.length = spf s.input.rate ∧
    (closedSamples h s).r.length = spf s.input.rate := by
  unfold closedSamples
  split
  · simp [allInvalid]
  · simp [frameSamples]

theorem closedFrame_counts : (closedFrame h s).2.interpolated + (closedFrame h s).2.held ≤ 2 * spf s.input.rate ∧
    (closedFrame h s).2.lowest ≤ 32 := by
  obtain ⟨hl, hr⟩ := length_closedSamples h s
  obtain ⟨hcl, hlow⟩ := concealChannel_counts s.conceal.hlim (closedNumber h s) (s.conceal.chans.get h).l (closedSamples h s).l
  obtain ⟨hcr, _⟩ := concealChannel_counts s.conceal.hlim (closedNumber h s) (s.conceal.chans.get h).r (closedSamples h s).r
  refine ⟨?_, (Nat.min_le_left _ _).trans hlow⟩
  show _ + _ + (_ + _) ≤ _
  omega

theorem closedFrame_invalid (hm : closedMismatch h s = true) :
    (closedFrame h s).2.interpolated = 0 ∧ (closedFrame h s).2.held = 2 * spf s.input.rate := by
  have hsamples : closedSamples h s = allInvalid (spf s.input.rate) := if_pos hm
  unfold closedFrame
  rw [hsamples]
  obtain ⟨hil, hhl⟩ := concealChannel_invalid s.conceal.hlim (closedNumber h s) (s.conceal.chans.get h).l (spf s.input.rate)
  obtain ⟨hir, hhr⟩ := concealChannel_invalid s.conceal.hlim (closedNumber h s) (s.conceal.chans.get h).r (spf s.input.rate)
  exact ⟨Nat.add_eq_zero_iff.mpr ⟨hil, hir⟩, (congrArg₂ (· + ·) hhl hhr).trans (Nat.two_mul _).symm⟩

theorem closedFrame_valid (hm : closedMismatch h s = false) (hlost : (closedQuality h s).lost = 0)
    (hl : (s.conceal.chans.get h).l.g = 32) (hr : (s.conceal.chans.get h).r.g = 32) :
    (closedFrame h s).2.interpolated = 0 ∧ (closedFrame h s).2.held = 0 ∧ (closedFrame h s).2.lowest = 32 ∧
    (closedFrame h s).2.pairs.map (fun p => some p.l) =
      (frameSamples (spf s.input.rate) (s.decoder.assembly.get h)).l ∧
    (closedFrame h s).2.pairs.map (fun p => some p.r) =
      (frameSamples (spf s.input.rate) (s.decoder.assembly.get h)).r := by
  have hsamples : closedSamples h s = frameSamples (spf s.input.rate) (s.decoder.assembly.get h) :=
    if_neg (by rw [hm]; nofun)
  obtain ⟨ls, rs, hls, hrs⟩ := frameSamples_valid hlost (spf s.input.rate)
  have hlen : ls.length = rs.length := by
    have hlength := length_closedSamples h s
    rw [hsamples, hls, hrs, List.length_map, List.length_map] at hlength
    exact hlength.1.trans hlength.2.symm
  obtain ⟨hil, hhl, hll, hol⟩ := concealChannel_valid s.conceal.hlim (closedNumber h s) hl ls
  obtain ⟨hir, hhr, hlr, hor⟩ := concealChannel_valid s.conceal.hlim (closedNumber h s) hr rs
  have hjoin : (closedFrame h s).2 = joinChannels
      (concealChannel s.conceal.hlim (closedNumber h s) (s.conceal.chans.get h).l (ls.map some))
      (concealChannel s.conceal.hlim (closedNumber h s) (s.conceal.chans.get h).r (rs.map some)) := by
    rw [← hls, ← hrs, ← hsamples]
    rfl
  rw [hjoin, hls, hrs]
  have hpairs : (joinChannels (concealChannel s.conceal.hlim (closedNumber h s) (s.conceal.chans.get h).l (ls.map some))
      (concealChannel s.conceal.hlim (closedNumber h s) (s.conceal.chans.get h).r (rs.map some))).pairs =
      List.zipWith (fun a b => ({ l := a, r := b } : Pair)) ls rs := by
    rw [joinChannels, hol, hor]
  refine ⟨Nat.add_eq_zero_iff.mpr ⟨hil, hir⟩, Nat.add_eq_zero_iff.mpr ⟨hhl, hhr⟩, ?_, ?_, ?_⟩
  · show min _ _ = 32
    rw [hll, hlr]
    rfl
  · rw [hpairs]
    exact (List.map_map (f := Pair.l) (g := some)).symm.trans
      (congrArg (List.map some) (map_zipWith_left _ _ (fun _ _ => rfl) ls rs hlen))
  · rw [hpairs]
    exact (List.map_map (f := Pair.r) (g := some)).symm.trans
      (congrArg (List.map some) (map_zipWith_right _ _ (fun _ _ => rfl) ls rs hlen))

theorem length_closedPlay : (closedPlay h s).pairs.length = spf s.input.rate := by
  obtain ⟨hl, hr⟩ := length_closedSamples h s
  exact length_concealFrame_pairs _ _ _ hl hr

theorem length_closedFrame_flags : (closedFrame h s).2.flags.length = spf s.input.rate := by
  obtain ⟨hl, hr⟩ := length_closedSamples h s
  have hflags (st : ChannelState) (xs : List (Option Sample)) :
      (concealChannel s.conceal.hlim (closedNumber h s) st xs).flags.length = xs.length := by
    obtain ⟨_, _, hflags, _⟩ := concealRun_eq s.conceal.hlim st (recordNeighbour st.prev (closedNumber h s)) xs
    simp only [concealChannel, hflags, List.length_map, length_concealStates]
  show (List.zipWith Prod.mk _ _).length = _
  rw [List.length_zipWith, hflags, hflags, hl, hr, Nat.min_self]

end Frame

/-- Settles O46. -/
theorem headFrameEndRecordsTheFrame : Obligations.HeadFrameEndRecordsTheFrame := by
  intro s h hd a sub n samples expected number mismatch concealed
  have hnumber : number = closedNumber h s := by
    show (match sub, h with
      | some r, _ => some r.number
      | none, .advance =>
        if s.position.lock = .locked ∧ (a.tag = none ∨ a.tag = some (expected.setWidth 16)) then some expected else none
      | none, .confidence => s.formatter.written.find? (fun x => a.tag == some (x.setWidth 16))) = numberFrame h a sub s
    cases sub <;> cases h <;> rfl
  have hmismatch : mismatch = closedMismatch h s := by
    show sub.any (fun r => r.rate != s.input.rate) = rateMismatch sub s.input.rate
    cases sub <;> rfl
  have hconcealed : concealed = closedFrame h s := by
    show concealFrame s.conceal h number (if mismatch then _ else samples) = _
    rw [hnumber, hmismatch]
    rfl
  clear_value number mismatch concealed
  subst hnumber hmismatch hconcealed
  obtain ⟨hpins, hcount, hlineage⟩ := closeFrame_keeps h s
  obtain ⟨hcounts, hlowest⟩ := closedFrame_counts h s
  have hexec : exec (.headFrameEnd h) s = .next (closeFrame h s) := exec_eq_act_of_not_due hd _
  refine ⟨closeFrame h s, closedQuality h s, closedPlay h s, hexec, rfl, rfl, rfl, rfl, rfl, rfl, rfl, rfl, hcounts, hlowest,
    rfl, rfl, rfl, closeFrame_conceal h s, rfl, fun hadvance hmutes => ?_, fun hnone => ?_, fun hm => ?_,
    closeFrame_gathered h s, closeFrame_decoder h s, length_closedPlay h s, rfl, closeFrame_output h s,
    fun hm hlost hl hr => ?_, ?_, ?_, ?_, fun g hg => ?_, hpins, hcount, hlineage⟩
  · rw [closeFrame_hasCause h s .playMute nofun nofun]
    subst hadvance
    simp [hmutes]
  · rw [closeFrame_hasCause h s .playMute nofun nofun]
    have hquiet : (h == .advance && decide (0 < (closedFrame h s).2.mutes)) = false := by
      obtain hconfidence | hzero := hnone
      · rw [hconfidence]
        rfl
      · rw [hzero]
        simp
    simp [hquiet]
  · obtain ⟨hi, hh⟩ := closedFrame_invalid h s hm
    refine ⟨hi, hh, ?_⟩
    rw [closeFrame_hasCause h s .rateMismatch nofun nofun, hm]
    simp
  · exact closedFrame_valid h s hm hlost hl hr
  · have hring := closeFrame_ring h s
    cases h with
    | confidence =>
      cases closedNumber Head.confidence s <;> exact hring
    | advance =>
      cases hn : closedNumber Head.advance s with
      | none =>
        rw [hn] at hring
        exact hring
      | some x =>
        rw [hn] at hring
        refine ⟨fun hpast => hring.trans (if_pos hpast), fun hahead => ?_⟩
        refine ⟨{ number := x, pairs := (closedPlay .advance s).pairs, flags := (closedFrame .advance s).2.flags, subcode := sub },
          rfl, rfl, length_closedFrame_flags _ s, rfl, rfl, (hring.trans (if_neg (Nat.not_lt.mpr hahead))).trans ?_⟩
        show (if s.ring.any (fun y => y.number == x) then _ else if s.ring.length < Config.ringCap then _ else _) = _
        split
        · rfl
        · split
          next hroom =>
            rw [if_pos (show s.ring.length < 8 from hroom)]
            rfl
          next hfull =>
            rw [if_neg (show ¬ s.ring.length < 8 from hfull)]
            rfl
  · have hformatter := closeFrame_formatter h s
    cases h with
    | advance => cases closedNumber Head.advance s <;> exact hformatter
    | confidence =>
      cases hn : closedNumber Head.confidence s with
      | none =>
        rw [hn] at hformatter
        exact hformatter
      | some x =>
        rw [hn] at hformatter
        refine ⟨hformatter, fun hx hlost => ?_⟩
        rw [closeFrame_hasCause _ s .confidenceFault nofun nofun, hn]
        simp [confirmFault, hx, hlost]
  · rw [closeFrame_conceal]
    rfl
  · rw [closeFrame_conceal]
    exact PerHead.get_set_other _ _ hg

/-! ## Queries answered (R154, R155) -/

/-- What a closed frame makes of an entry. -/
theorem report_closedReport (h : Head) (s : State) (e : QueryEntry) : e.report (closedReport h s) =
    if e.state ≠ .waiting then e
    else match (chooseSubcode (s.decoder.assembly.get h)).1 with
      | some r =>
        if r.number = e.frame then
          { e with state := .complete 0 (.found (match e.kind with
              | .subcode => .subcode r
              | .quality => .quality (closedQuality h s))) }
        else e
      | none =>
        if h = .advance ∧ s.position.lock = .locked ∧ expectedNumber s = e.frame then
          if 3 ≤ e.passes + 1 then { e with passes := e.passes + 1, state := .complete 0 .unreadable }
          else { e with passes := e.passes + 1 }
        else e := by
  have hpass (hnone : (chooseSubcode (s.decoder.assembly.get h)).1 = none) : (closedReport h s).isPass e.frame = true ↔
      h = .advance ∧ s.position.lock = .locked ∧ expectedNumber s = e.frame := by
    have hreport : closedReport h s =
        { head := h, subcode := none, quality := closedQuality h s, lock := s.position.lock
          expected := if h = .advance ∧ s.position.lock = .locked then some (expectedNumber s) else none } := by
      rw [closedReport, hnone]
      rfl
    rw [hreport]
    simp only [Report.isPass, Option.isNone_none, Bool.and_true, Bool.and_eq_true, beq_iff_eq]
    constructor
    · rintro ⟨⟨hadvance, hlocked⟩, hexpected⟩
      rw [if_pos ⟨hadvance, hlocked⟩] at hexpected
      exact ⟨hadvance, hlocked, Option.some.inj hexpected⟩
    · rintro ⟨hadvance, hlocked, hexpected⟩
      rw [if_pos ⟨hadvance, hlocked⟩]
      exact ⟨⟨hadvance, hlocked⟩, congrArg some hexpected⟩
  unfold QueryEntry.report
  by_cases hwaiting : e.state = .waiting
  · rw [if_pos (show e.isWaiting = true by simp [QueryEntry.isWaiting, hwaiting]), if_neg (not_not.mpr hwaiting)]
    show (match (chooseSubcode (s.decoder.assembly.get h)).1 with
      | some sub => _
      | none => _) = _
    cases hsub : (chooseSubcode (s.decoder.assembly.get h)).1 with
    | some r => rfl
    | none =>
      dsimp only
      rw [if_congr (hpass hsub) rfl rfl]
      rfl
  · rw [if_neg (show ¬ e.isWaiting = true by simpa [QueryEntry.isWaiting] using hwaiting), if_pos hwaiting]

/-- A WAITING entry that a report changes to another state completes. -/
theorem report_isComplete {r : Report} {e : QueryEntry} (hwaiting : e.state = .waiting) (h : (e.report r).state ≠ .waiting) :
    (e.report r).isComplete = true := by
  unfold QueryEntry.report at h ⊢
  split
  next hw =>
    rw [if_pos hw] at h
    split
    next sub hsub =>
      simp only [hsub] at h
      split
      · rfl
      next hother =>
        rw [if_neg hother] at h
        exact absurd hwaiting h
    next hsub =>
      simp only [hsub] at h
      split
      next hpass =>
        rw [if_pos hpass] at h
        dsimp only
        split
        · rfl
        next hfew =>
          rw [if_neg hfew] at h
          exact absurd hwaiting h
      next hpass =>
        rw [if_neg hpass] at h
        exact absurd hwaiting h
  next hw =>
    rw [if_neg hw] at h
    exact absurd hwaiting h

/-- Settles O47. -/
theorem headFrameEndAnswersQueries : Obligations.HeadFrameEndAnswersQueries := by
  intro s h hd sub expected
  have hexec : exec (.headFrameEnd h) s = .next (closeFrame h s) := exec_eq_act_of_not_due hd _
  refine ⟨closeFrame h s, closedQuality h s, hexec, by rw [closeFrame_decoder, PerHead.get_set_self]; rfl, ?_⟩
  intro answer
  have hanswer : QueryEntry.report (closedReport h s) = answer := funext (report_closedReport h s)
  refine ⟨by rw [closeFrame_query, hanswer], fun ⟨e, he, hwaiting, hdone⟩ => closeFrame_queryComplete h s ?_⟩
  rw [hanswer, List.any_eq_true]
  rw [← hanswer] at hdone ⊢
  refine ⟨e, he, ?_⟩
  rw [report_isComplete hwaiting hdone]
  simp [QueryEntry.isComplete, hwaiting]

/-! ## The judgement of an ADVANCE subcode (R90 to R93, R112) -/

/-- The part of a close that the position unit, the capture frames' numbers and the cursor see. -/
theorem closeFrame_position (h : Head) (s : State) :
    let t := toPosition h (chooseSubcode (s.decoder.assembly.get h)).1 (expectedNumber s) (closedRecorded h s)
    (closeFrame h s).position = t.position ∧ (closeFrame h s).input = t.input ∧ (closeFrame h s).engine = t.engine ∧
      (hasCause t.notice.pending .lockChange = true → hasCause (closeFrame h s).notice.pending .lockChange = true) := by
  intro t
  have ht : closeFrame h s = reportQueries (closedReport h s) (toConfirm h (closedNumber h s) (closedQuality h s).lost
      (toRing h (closedNumber h s) (chooseSubcode (s.decoder.assembly.get h)).1 (closedFrame h s).2
        (toOutput h (chooseSubcode (s.decoder.assembly.get h)).1 (closedFrame h s).2 t))) := closeFrame_eq h s
  clear_value t
  rw [ht, toConfirm_eq, toRing_eq]
  refine ⟨?_, ?_, ?_, fun hcause => ?_⟩
  · simp [reportQueries, updateQueries, toOutput]
  · simp [reportQueries, updateQueries, toOutput]
  · simp [reportQueries, updateQueries, toOutput]
  · simp [reportQueries, updateQueries, toOutput, hcause]

/-- What a close has read and recorded leaves these. -/
theorem closedRecorded_keeps (h : Head) (s : State) : (closedRecorded h s).position = s.position ∧
    (closedRecorded h s).input = s.input ∧ (closedRecorded h s).engine = s.engine ∧ (closedRecorded h s).pins = s.pins ∧
    (closedRecorded h s).decoder.preread = s.decoder.preread := by
  simp [closedRecorded, recordQuality, openAssembly]

/-- The engine when W is re-taken lower: the cursor of one ARMED in REHEARSE with LOOP is re-placed. -/
def rewoundEngine (w : FrameNo) (s : State) : Engine :=
  if w.toNat < s.position.w.toNat ∧ s.engine.state = .armed ∧ s.engine.arm.mode = .rehearse ∧ s.engine.arm.loop = true then
    { s.engine with
      cursor := match s.engine.cues.find? (fun e => w.toNat + s.decoder.preread ≤ e.startFrame (spf s.input.rate)) with
        | some e => .entry e.id
        | none => .passed }
  else s.engine

theorem head?_dropWhile (l : List CueEntry) (p : CueEntry → Bool) : (l.dropWhile p).head? = l.find? (fun e => !p e) := by
  induction l with
  | nil => rfl
  | cons e l ih =>
    rw [List.dropWhile_cons, List.find?_cons]
    cases p e with
    | true => exact ih
    | false => rfl

/-- The entry on which the cursor is placed is the first that starts at W + D or later. -/
theorem placedCue_eq (s : State) : placedCue s = s.engine.cues.find? (fun e =>
    s.position.w.toNat + s.decoder.preread ≤ e.startFrame (spf s.input.rate)) := by
  rw [placedCue, head?_dropWhile]
  congr 1
  funext e
  rw [isPassed, Bool.eq_iff_iff]
  simp

theorem rewind_engine (s : State) : (rewind s).engine =
    if s.engine.state = .armed ∧ s.engine.arm.mode = .rehearse ∧ s.engine.arm.loop = true then
      { s.engine with
        cursor := match s.engine.cues.find? (fun e =>
            s.position.w.toNat + s.decoder.preread ≤ e.startFrame (spf s.input.rate)) with
          | some e => .entry e.id
          | none => .passed }
    else s.engine := by
  unfold rewind
  split
  next h =>
    rw [placedCue_eq]
    obtain ⟨hstate, hloop⟩ := h
    cases s.engine.cues.find? _ with
    | some e => rw [Engine.pointTo, ← hstate]; rfl
    | none =>
      rw [Engine.pointTo, Engine.passLast, if_pos hloop, ← hstate]
      rfl
  · rfl

theorem judgeSubcode_play {s : State} (hplay : s.pins.transport = .play) (x expected : FrameNo) :
    let p := s.position.judge x expected s.decoder.preread
    (judgeSubcode x expected s).position = p ∧
    (judgeSubcode x expected s).input = { s.input with
      gathering := s.input.gathering.map (fun g => { g with number := g.number + (p.w - s.position.w) })
      closed := s.input.closed.map (fun c => { c with number := c.number + (p.w - s.position.w) }) } ∧
    (judgeSubcode x expected s).engine = rewoundEngine p.w s ∧
    (p.lock ≠ s.position.lock → hasCause (judgeSubcode x expected s).notice.pending .lockChange = true) := by
  intro p
  have hrewind := rewind_engine (renumber (p.w - s.position.w) (s.setPosition p))
  have heq : judgeSubcode x expected s = raiseIf (p.lock != s.position.lock) .lockChange
      (if p.w.toNat < s.position.w.toNat then rewind (renumber (p.w - s.position.w) (s.setPosition p))
        else renumber (p.w - s.position.w) (s.setPosition p)) := if_pos hplay
  clear_value p
  rw [heq]
  refine ⟨?_, ?_, ?_, fun hlock => ?_⟩
  · rw [raiseIf_position]
    split
    · rw [(Work.refl _).rewind.leaves.position]
      simp
    · simp
  · rw [raiseIf_input]
    split
    · rw [(Work.refl _).rewind.leaves.input]
      rfl
    · rfl
  · rw [raiseIf_engine, rewoundEngine]
    split
    next hlower =>
      rw [hrewind]
      simp only [hlower, true_and]
      rfl
    next hlower =>
      rw [if_neg (fun h => hlower h.1)]
      rfl
  · simp [hlock]

/-- The rules of the lock states on a judged subcode (R90 to R93). -/
theorem judge_eq (p : Position) (x expected : FrameNo) (d : Nat) :
    let seq := if p.last = some (x - 1) then min (p.seq + 1) 3 else 1
    let agree := if x = expected then min (p.agree + 1) 3 else 0
    let judged : Position := { p with seq := seq, last := some x }
    let locked : Position := { judged with lock := .locked, agree := 0, disagree := 0, age := 0 }
    p.judge x expected d = match p.lock with
      | .unlocked =>
        if agree = 3 then locked
        else if seq = 3 then { locked with w := x - BitVec.ofNat 24 d }
        else { judged with agree := agree }
      | .locked =>
        if x = expected then { judged with disagree := 0 }
        else if 1 ≤ p.disagree then { judged with lock := .slipped, age := 0, seq := 1, disagree := 0 }
        else { judged with disagree := p.disagree + 1 }
      | .slipped => if seq = 3 then { locked with w := x - BitVec.ofNat 24 d } else judged := by
  obtain ⟨w, lock, agree, seq, disagree, last, age, gpi⟩ := p
  cases lock <;> rfl

/-- Settles O48. -/
theorem advanceSubcodeIsJudged : Obligations.AdvanceSubcodeIsJudged := by
  refine ⟨?_, ?_⟩
  · intro s r hd hplay hsub p x d agrees seq agree judged locked after diff
    have hafter : s.position.judge x (expectedNumber s) s.decoder.preread = after := by
      exact judge_eq s.position x (expectedNumber s) s.decoder.preread
    have hexec : exec (.headFrameEnd .advance) s = .next (closeFrame .advance s) := exec_eq_act_of_not_due hd _
    obtain ⟨hposition, hinput, hengine, hlock⟩ := closeFrame_position .advance s
    obtain ⟨kposition, kinput, kengine, kpins, kpreread⟩ := closedRecorded_keeps .advance s
    have hjudge : toPosition .advance (chooseSubcode (s.decoder.assembly.get .advance)).1 (expectedNumber s)
        (closedRecorded .advance s) = judgeSubcode x (expectedNumber s) (closedRecorded .advance s) := by
      rw [hsub]
      rfl
    obtain ⟨jposition, jinput, jengine, jlock⟩ := judgeSubcode_play (s := closedRecorded .advance s)
      (by rw [kpins]; exact hplay) x (expectedNumber s)
    rw [rewoundEngine] at jengine
    rw [kposition, kpreread, hafter] at jposition jinput jengine jlock
    rw [kinput] at jinput
    rw [kengine, kinput] at jengine
    rw [hjudge] at hposition hinput hengine hlock
    exact ⟨_, hexec, hposition.trans jposition, fun hne => hlock (jlock hne), hinput.trans jinput, hengine.trans jengine⟩
  · intro s h hd hnone
    have hexec : exec (.headFrameEnd h) s = .next (closeFrame h s) := exec_eq_act_of_not_due hd _
    obtain ⟨hposition, hinput, hengine, hlock⟩ := closeFrame_position h s
    obtain ⟨kposition, kinput, kengine, kpins, kpreread⟩ := closedRecorded_keeps h s
    have hkept : toPosition h (chooseSubcode (s.decoder.assembly.get h)).1 (expectedNumber s) (closedRecorded h s) =
        closedRecorded h s := by
      cases h with
      | confidence => rfl
      | advance =>
        obtain hconfidence | hout | hsub := hnone
        · cases hconfidence
        · cases hsub : (chooseSubcode (s.decoder.assembly.get .advance)).1 with
          | none => rfl
          | some r => exact if_neg (by rw [kpins]; exact hout)
        · rw [hsub]
          rfl
    rw [hkept] at hposition hinput hengine
    exact ⟨_, hexec, hposition.trans kposition, hinput.trans kinput, hengine.trans kengine⟩

end Sys2Proof.Machine
end

section
/-! PROOFS. The stages of a frame tick in PLAY, and what each leaves of every block (2.4, 6.1; log 6). -/

namespace Sys2Proof.Machine

/-! ## The stages -/

/-- The part once the position unit has taken the tick, with the LEVEL requests. -/
def positioned (low : BitVec 4) (s : State) : State := levelRequests low (positionTick (clearHanded s))

/-- The part as the formatter's tick finds it: the input unit, the guard and the query table have taken the tick. -/
def ticked (low : BitVec 4) (s : State) : State := queryTick (captureTick (positioned low s))

/-- The part as the engine's tick finds it. -/
def recorded (low : BitVec 4) (s : State) : State := formatterTick (ticked low s)

/-- The part once the engine has taken the tick. -/
def spliced (low : BitVec 4) (s : State) : State := engineTick (handedRequests s) (recorded low s)

theorem tickInPlay_eq (low : BitVec 4) (s : State) : tickInPlay low s =
    (spliced low (frameWritten s)).setOutput { (spliced low (frameWritten s)).output with tickWaiting := true } := rfl

theorem exec_frameTick {s : State} (hd : s.link.resetDue = false) (hplay : s.pins.transport = .play) (low : BitVec 4) :
    exec (.frameTick low) s = .next (tickInPlay low s) := by
  have hexec : exec (.frameTick low) s = .next (frameTick low s) := exec_eq_act_of_not_due hd _
  rw [hexec, frameTick, if_pos hplay]

/-- With nothing in emission the tick begins with the position unit. -/
theorem tickInPlay_of_no_emission {s : State} (h : s.formatter.emission = none) (low : BitVec 4) : tickInPlay low s =
    (spliced low s).setOutput { (spliced low s).output with tickWaiting := true } := by
  rw [tickInPlay_eq, frameWritten_none h]

section
variable (low : BitVec 4) (s : State)

/-! ## The position unit -/

/-- What a GPI request leaves, the LEVEL requests leave. -/
theorem levelRequests_eq {α : Type} (f : State → α) (hf : ∀ i u, f (gpiRequest i u) = f u) (u : State) :
    f (levelRequests low u) = f u :=
  levelRequests_keeps (P := fun v => f v = f u) (fun i v h => (hf i v).trans h) rfl

@[simp] theorem positioned_pins : (positioned low s).pins = s.pins := levelRequests_eq low (·.pins) gpiRequest_pins _

@[simp] theorem positioned_sampleCount : (positioned low s).sampleCount = 0 :=
  levelRequests_eq low (·.sampleCount) gpiRequest_sampleCount _

@[simp] theorem positioned_input : (positioned low s).input = s.input := levelRequests_eq low (·.input) gpiRequest_input _

@[simp] theorem positioned_lineage : (positioned low s).lineage = s.lineage :=
  levelRequests_eq low (·.lineage) gpiRequest_lineage _

@[simp] theorem positioned_formatter : (positioned low s).formatter = s.formatter :=
  levelRequests_eq low (·.formatter) gpiRequest_formatter _

@[simp] theorem positioned_gathered : (positioned low s).gathered = s.gathered :=
  levelRequests_eq low (·.gathered) gpiRequest_gathered _

@[simp] theorem positioned_decoder : (positioned low s).decoder = s.decoder :=
  levelRequests_eq low (·.decoder) gpiRequest_decoder _

@[simp] theorem positioned_conceal : (positioned low s).conceal = s.conceal :=
  levelRequests_eq low (·.conceal) gpiRequest_conceal _

@[simp] theorem positioned_engine : (positioned low s).engine = s.engine :=
  levelRequests_eq low (·.engine) gpiRequest_engine _

@[simp] theorem positioned_query : (positioned low s).query = s.query := levelRequests_eq low (·.query) gpiRequest_query _

@[simp] theorem positioned_output : (positioned low s).output = s.output :=
  levelRequests_eq low (·.output) gpiRequest_output _

theorem positioned_ring : (positioned low s).ring = sweep (s.position.w + 1) s.ring :=
  levelRequests_eq low (·.ring) gpiRequest_ring _

/-- The LEVEL requests leave all of the position unit but its lines. -/
theorem levelRequests_position (u : State) : (levelRequests low u).position = { u.position with
    gpi := (levelRequests low u).position.gpi } := by
  have hcounts : { (levelRequests low u).position with gpi := u.position.gpi } = u.position :=
    levelRequests_eq low (fun v => { v.position with gpi := u.position.gpi })
      (fun i v => by dsimp only; rw [gpiRequest_position]) u
  generalize (levelRequests low u).position = p at hcounts ⊢
  rw [← hcounts]

/-- The position unit's own counts after the tick; the lines stand in `positioned_line`. -/
theorem positioned_position : (positioned low s).position = { s.position with
    w := s.position.w + 1
    age := ageAfter s.position
    gpi := (positioned low s).position.gpi } := by
  unfold positioned
  rw [levelRequests_position]
  generalize (levelRequests low (positionTick (clearHanded s))).position.gpi = lines
  rfl

@[simp] theorem positioned_w : (positioned low s).position.w = s.position.w + 1 := by rw [positioned_position]

@[simp] theorem positioned_lock : (positioned low s).position.lock = s.position.lock := by rw [positioned_position]

@[simp] theorem positioned_age : (positioned low s).position.age = ageAfter s.position := by rw [positioned_position]

/-! ## The input unit and the query table -/

@[simp] theorem ticked_pins : (ticked low s).pins = s.pins := by simp [ticked]

@[simp] theorem ticked_sampleCount : (ticked low s).sampleCount = 0 := by simp [ticked]

@[simp] theorem ticked_formatter : (ticked low s).formatter = s.formatter := by simp [ticked]

@[simp] theorem ticked_gathered : (ticked low s).gathered = s.gathered := by simp [ticked]

@[simp] theorem ticked_decoder : (ticked low s).decoder = s.decoder := by simp [ticked]

@[simp] theorem ticked_conceal : (ticked low s).conceal = s.conceal := by simp [ticked]

@[simp] theorem ticked_ring : (ticked low s).ring = sweep (s.position.w + 1) s.ring := by simp [ticked, positioned_ring]

@[simp] theorem ticked_engine : (ticked low s).engine = s.engine := by simp [ticked]

theorem ticked_position : (ticked low s).position = (positioned low s).position := by simp [ticked]

theorem ticked_input : (ticked low s).input = (captureTick (positioned low s)).input := by simp [ticked]

theorem ticked_lineage : (ticked low s).lineage = (captureTick (positioned low s)).lineage := by simp [ticked]

theorem ticked_output : (ticked low s).output = (captureTick (positioned low s)).output := by simp [ticked]

@[simp] theorem ticked_w : (ticked low s).position.w = s.position.w + 1 := by rw [ticked_position, positioned_w]

@[simp] theorem ticked_lock : (ticked low s).position.lock = s.position.lock := by rw [ticked_position, positioned_lock]

@[simp] theorem ticked_age : (ticked low s).position.age = ageAfter s.position := by rw [ticked_position, positioned_age]

@[simp] theorem ticked_rate : (ticked low s).input.rate = s.input.rate := by rw [ticked_input, captureTick_rate, positioned_input]

/-- The query table takes the tick entry by entry. -/
theorem ticked_query : (ticked low s).query = { s.query with
    entries := (s.query.entries.map (QueryEntry.tick s.query.limit)).filter (fun e => !e.isStale)
    tickLimit := s.query.limit } := by
  rw [ticked, queryTick_query, captureTick_query, positioned_query]

/-! ## The formatter and the engine -/

theorem spliced_work : Work (ticked low s) (spliced low s) := ((Work.refl _).formatterTick).engineTick _

/-- The formatter's tick and the engine raise causes alone. -/
theorem spliced_pends {c : Cause} (h : Pends c (ticked low s)) : Pends c (spliced low s) := (spliced_work low s).raises.pends h

end

/-! ## The causes of the query table's tick -/

theorem updateQueries_pends {f : QueryEntry → QueryEntry} {s : State}
    (h : ∃ e ∈ s.query.entries, e.isComplete = false ∧ (f e).isComplete = true) : Pends .queryComplete (updateQueries f s) := by
  obtain ⟨e, he, hbefore, hafter⟩ := h
  have hany : s.query.entries.any (fun e => !e.isComplete && (f e).isComplete) = true :=
    List.any_eq_true.mpr ⟨e, he, by rw [hbefore, hafter]; rfl⟩
  rw [Pends, updateQueries, hany, hasCause_raiseIf]
  simp

theorem discardQueries_pends {s : State} (h : ∃ e ∈ s.query.entries, e.isStale = true) :
    Pends .queryDiscarded (discardQueries s) := by
  rw [Pends, discardQueries, List.any_eq_true.mpr h, hasCause_raiseIf]
  simp

theorem queryTick_queryComplete {s : State}
    (h : ∃ e ∈ s.query.entries, e.isComplete = false ∧ (e.tick s.query.limit).isComplete = true) :
    Pends .queryComplete (queryTick s) :=
  (Raises.refl _).discardQueries.pends (updateQueries_pends (s := findLimit s) h)

theorem queryTick_queryDiscarded {s : State} (h : ∃ e ∈ s.query.entries, (e.tick s.query.limit).isStale = true) :
    Pends .queryDiscarded (queryTick s) := by
  obtain ⟨e, he, hstale⟩ := h
  refine discardQueries_pends ⟨_, ?_, hstale⟩
  rw [updateQueries_query]
  exact List.mem_map_of_mem he

theorem ticked_queryComplete (low : BitVec 4) {s : State}
    (h : ∃ e ∈ s.query.entries, e.isComplete = false ∧ (e.tick s.query.limit).isComplete = true) :
    Pends .queryComplete (ticked low s) :=
  queryTick_queryComplete (by rw [captureTick_query, positioned_query]; exact h)

theorem ticked_queryDiscarded (low : BitVec 4) {s : State}
    (h : ∃ e ∈ s.query.entries, (e.tick s.query.limit).isStale = true) : Pends .queryDiscarded (ticked low s) :=
  queryTick_queryDiscarded (by rw [captureTick_query, positioned_query]; exact h)

end Sys2Proof.Machine
end

section
/-! PROOFS. The ticks of the query table (O60). -/

namespace Sys2Proof.Machine

/-! ## One entry at its timers -/

theorem expire_eq (limit : Nat) (e : QueryEntry) : e.expire limit =
    if e.state = .waiting ∧ limit ≠ 0 ∧ limit ≤ e.wait then { e with state := .complete 0 .expired } else e := by
  simp [QueryEntry.expire, QueryEntry.isWaiting_iff, QueryEntry.complete]

theorem tick_eq (limit : Nat) (e : QueryEntry) : e.tick limit = match e.state with
    | .waiting => QueryEntry.expire limit { e with wait := min (e.wait + 1) 65535 }
    | .complete age o => { e with state := .complete (min (age + 1) 300) o }
    | .held _ => e := rfl

theorem isStale_eq (e : QueryEntry) : e.isStale = match e.state with
    | .complete age _ => decide (300 ≤ age)
    | .held _ | .waiting => false := rfl

theorem tick_state_of_waiting {limit : Nat} {e : QueryEntry} (h : e.state = .waiting) :
    (e.tick limit).state = .waiting ∨ (e.tick limit).state = .complete 0 .expired := by
  rw [tick_eq, h]
  dsimp only
  rw [expire_eq]
  split
  · exact .inr rfl
  · exact .inl rfl

theorem isComplete_of_state {e : QueryEntry} {age : Nat} {o : QueryOutcome} (h : e.state = .complete age o) :
    e.isComplete = true := by simp [QueryEntry.isComplete, h]

/-- A WAITING entry that a tick takes out of WAITING is complete. -/
theorem tick_isComplete {limit : Nat} {e : QueryEntry} (h : e.state = .waiting) (hleft : (e.tick limit).state ≠ .waiting) :
    e.isComplete = false ∧ (e.tick limit).isComplete = true := by
  obtain hw | hc := tick_state_of_waiting (limit := limit) h
  · exact absurd hw hleft
  · exact ⟨by simp [QueryEntry.isComplete, h], isComplete_of_state hc⟩

/-- What is not HELD, a release leaves. -/
theorem releaseAll_of_not_held {e : QueryEntry} (h : ∀ id, e.state ≠ .held id) (ids : List Nat) : e.releaseAll ids = e := by
  unfold QueryEntry.releaseAll
  split
  next id hid => exact absurd hid (h id)
  all_goals rfl

@[simp] theorem releaseAll_kind (e : QueryEntry) (ids : List Nat) : (e.releaseAll ids).kind = e.kind := by
  unfold QueryEntry.releaseAll; split <;> (try split) <;> rfl

@[simp] theorem releaseAll_frame (e : QueryEntry) (ids : List Nat) : (e.releaseAll ids).frame = e.frame := by
  unfold QueryEntry.releaseAll; split <;> (try split) <;> rfl

/-- A release makes a HELD entry WAITING at most. -/
theorem releaseAll_held {e : QueryEntry} {id : Nat} (h : e.state = .held id) (ids : List Nat) :
    (e.releaseAll ids).state = .held id ∨ (e.releaseAll ids).state = .waiting := by
  rw [QueryEntry.releaseAll, h]
  dsimp only
  split
  · exact .inr rfl
  · exact .inl h

@[simp] theorem tick_kind (limit : Nat) (e : QueryEntry) : (e.tick limit).kind = e.kind := by
  rw [tick_eq]
  split
  · rw [expire_eq]; split <;> rfl
  · rfl
  · rfl

@[simp] theorem tick_frame (limit : Nat) (e : QueryEntry) : (e.tick limit).frame = e.frame := by
  rw [tick_eq]
  split
  · rw [expire_eq]; split <;> rfl
  · rfl
  · rfl

/-- An entry discarded at a tick was COMPLETE before it. -/
theorem isStale_tick_of_incomplete {limit : Nat} {e : QueryEntry}
    (h : e.state = .waiting ∨ ∃ id, e.state = .held id) : (e.tick limit).isStale = false := by
  obtain h | ⟨id, h⟩ := h
  · obtain ht | ht := tick_state_of_waiting (limit := limit) h <;> rw [isStale_eq, ht]
    rfl
  · rw [tick_eq, h]
    dsimp only
    rw [isStale_eq, h]

/-- A release before the tick does not touch what the tick discards. -/
theorem isStale_tick_releaseAll (limit : Nat) (ids : List Nat) (e : QueryEntry) :
    ((e.releaseAll ids).tick limit).isStale = (e.tick limit).isStale := by
  by_cases h : ∃ id, e.state = .held id
  · obtain ⟨id, h⟩ := h
    rw [isStale_tick_of_incomplete (.inr ⟨id, h⟩), isStale_tick_of_incomplete]
    obtain hr | hr := releaseAll_held h ids
    · exact .inr ⟨id, hr⟩
    · exact .inl hr
  · rw [releaseAll_of_not_held fun id hid => h ⟨id, hid⟩]

/-! ## What the formatter's tick and the engine do to the table -/

theorem releaseAll_nil (e : QueryEntry) : e.releaseAll [] = e := by
  unfold QueryEntry.releaseAll
  split <;> simp

theorem releaseAll_append (ids id : List Nat) (e : QueryEntry) : (e.releaseAll ids).releaseAll id = e.releaseAll (ids ++ id) := by
  obtain ⟨kind, frame, state, passes, wait⟩ := e
  cases state with
  | held held => by_cases h : held ∈ ids <;> by_cases h' : held ∈ id <;> simp [QueryEntry.releaseAll, h, h']
  | waiting => rfl
  | complete age outcome => rfl

theorem release_eq (id : Nat) (e : QueryEntry) : e.release id = e.releaseAll [id] := by
  rw [← releaseAll_release, releaseAll_nil]

/-- The formatter's tick and the engine release entries of the table, and leave it otherwise. -/
theorem Work.query {s t : State} (h : Work s t) : ∃ ids : List Nat, t.query = { s.query with
    entries := s.query.entries.map (QueryEntry.releaseAll ids) } := by
  induction h with
  | refl => exact ⟨[], by rw [show QueryEntry.releaseAll [] = id from funext releaseAll_nil, List.map_id]⟩
  | raise c _ ih => simpa using ih
  | refused w x _ ih => simpa using ih
  | close _ ih => simpa using ih
  | engine _ _ _ ih => exact ih
  | @removeCue t id _ ih =>
    obtain ⟨ids, ih⟩ := ih
    refine ⟨ids ++ [id], ?_⟩
    rw [removeCue_query, ih]
    simp only [List.map_map]
    congr 2
    funext e
    rw [Function.comp_apply, release_eq, releaseAll_append]
  | changeCue _ _ _ _ ih => exact ih
  | splice _ _ ih => exact ih
  | conceal _ _ _ _ ih => exact ih
  | emit _ _ _ _ ih => exact ih
  | endRecording _ _ ih => exact ih

/-- The written frame at the head of a tick releases entries of the table at most. -/
theorem frameWritten_query (s : State) : ∃ ids : List Nat, (frameWritten s).query = { s.query with
    entries := s.query.entries.map (QueryEntry.releaseAll ids) } := by
  cases he : s.formatter.emission with
  | none => rw [frameWritten_none he]; exact (Work.refl s).query
  | some e => exact (frameWritten_work he).query

/-! ## An empty cue list -/

/-- The engine has no entry that could end. -/
theorem endActive_of_empty {s : State} (h : s.engine.cues = []) (o : EntryOutcome) (x : Option Reason) (b : Bool) :
    endActive o x b s = s := by
  have hcue : cursorCue s = none := by
    unfold cursorCue findCue
    rw [h]
    split <;> rfl
  unfold endActive
  rw [hcue]

theorem frameWritten_of_empty {s : State} (h : s.engine.cues = []) :
    (frameWritten s).query = s.query ∧ (frameWritten s).engine.cues = [] := by
  have hreach (u : State) (hu : u.engine.cues = []) : reachEnd u = u := by
    unfold reachEnd
    split
    · rfl
    all_goals exact endActive_of_empty hu _ _ _
  have hspliced (w : FrameNo) (u : State) (hu : u.engine.cues = []) :
      (spliceWritten w u).query = u.query ∧ (spliceWritten w u).engine.cues = [] := by
    unfold spliceWritten
    split
    · rw [hreach _ (by exact hu)]
      exact ⟨rfl, hu⟩
    · exact ⟨rfl, hu⟩
  unfold frameWritten
  split
  · exact ⟨rfl, h⟩
  · dsimp only
    split
    · exact hspliced _ _ h
    · exact ⟨rfl, h⟩

theorem engineRequest_of_empty {s : State} (h : s.engine.cues = []) (f : GpiFunction) :
    (engineRequest s f).query = s.query ∧ (engineRequest s f).engine.cues = [] := by
  have hblocked : armBlocked s = true := (armBlocked_iff s).mpr (.inr (.inr h))
  unfold engineRequest
  split
  · rw [hblocked]
    exact ⟨rfl, h⟩
  all_goals exact ⟨rfl, h⟩

theorem engineTick_of_empty {s : State} (h : s.engine.cues = []) (fs : List GpiFunction) :
    (engineTick fs s).query = s.query := by
  have hfs : (fs.foldl engineRequest s).query = s.query ∧ (fs.foldl engineRequest s).engine.cues = [] := by
    induction fs generalizing s with
    | nil => exact ⟨rfl, h⟩
    | cons f fs ih =>
      obtain ⟨hquery, hcues⟩ := engineRequest_of_empty h f
      rw [List.foldl_cons, ← hquery]
      exact ih hcues
  obtain ⟨hquery, hcues⟩ := hfs
  unfold engineTick
  dsimp only
  generalize fs.foldl engineRequest s = u at hquery hcues
  have hcompare : cuesFromCursor u = [] := by
    have := cuesFromCursor_sublist u
    rwa [hcues, List.sublist_nil] at this
  have hactive : cursorCue u = none := by
    unfold cursorCue findCue
    rw [hcues]
    split <;> rfl
  split
  · exact hquery
  · rw [hcompare]
    exact hquery
  · rw [activeTick, hactive]
    exact hquery

/-! ## The two expiries by themselves -/

/-- A change of the entries that completes exactly those it changes raises QUERY_COMPLETE, or changes nothing. -/
theorem updateQueries_eq {f : QueryEntry → QueryEntry} {s : State}
    (hf : ∀ e, f e ≠ e → e.isComplete = false ∧ (f e).isComplete = true) : updateQueries f s =
    if s.query.entries.map f = s.query.entries then s
    else raise .queryComplete (s.setQuery { s.query with entries := s.query.entries.map f }) := by
  have hsame : s.query.entries.map f = s.query.entries ↔ ∀ e ∈ s.query.entries, f e = e := by
    conv_lhs => rhs; rw [← List.map_id s.query.entries]
    exact List.map_inj_left
  unfold updateQueries
  split
  next h =>
    have hnone : s.query.entries.any (fun e => !e.isComplete && (f e).isComplete) = false := by
      rw [List.any_eq_false]
      intro e he
      rw [hsame.mp h e he]
      simp
    rw [hnone, h]
    rfl
  next h =>
    rw [hsame] at h
    push Not at h
    obtain ⟨e, he, hne⟩ := h
    obtain ⟨hbefore, hafter⟩ := hf e hne
    have hany : s.query.entries.any (fun e => !e.isComplete && (f e).isComplete) = true :=
      List.any_eq_true.mpr ⟨e, he, by rw [hbefore, hafter]; rfl⟩
    rw [hany]
    rfl

theorem expire_changes {limit : Nat} {e : QueryEntry} (h : e.expire limit ≠ e) :
    e.isComplete = false ∧ (e.expire limit).isComplete = true := by
  rw [expire_eq] at h ⊢
  split at h
  next hw =>
    rw [if_pos hw]
    exact ⟨by simp [QueryEntry.isComplete, hw.1], rfl⟩
  · exact absurd rfl h

theorem discardQueries_eq (s : State) : discardQueries s =
    if s.query.entries.filter (fun e => !e.isStale) = s.query.entries then s
    else raise .queryDiscarded (s.setQuery { s.query with entries := s.query.entries.filter (fun e => !e.isStale) }) := by
  have hsame : s.query.entries.filter (fun e => !e.isStale) = s.query.entries ↔
      s.query.entries.any QueryEntry.isStale = false := by
    simp [List.filter_eq_self, List.any_eq_false]
  unfold discardQueries
  split
  next h => rw [hsame.mp h, h]; rfl
  next h => rw [hsame, Bool.not_eq_false] at h; rw [h]; rfl

/-! ## The tick -/

/-- The table after a tick in PLAY: releases before it and after it, and the tick between. -/
theorem tickInPlay_query (low : BitVec 4) (s : State) : ∃ before after : List Nat, (tickInPlay low s).query = { s.query with
    entries := (s.query.entries.filter (fun e => !(e.tick s.query.limit).isStale)).map
      (fun e => ((e.releaseAll before).tick s.query.limit).releaseAll after)
    tickLimit := s.query.limit } := by
  obtain ⟨before, hbefore⟩ := frameWritten_query s
  obtain ⟨after, hafter⟩ := (spliced_work low (frameWritten s)).query
  refine ⟨before, after, ?_⟩
  rw [tickInPlay_eq, State.setOutput_query, hafter, ticked_query, hbefore]
  simp only [List.map_map, List.filter_map, Function.comp_def, isStale_tick_releaseAll]

/-- An empty cue list leaves the tick of the table alone. -/
theorem tickInPlay_query_of_empty (low : BitVec 4) {s : State} (h : s.engine.cues = []) : (tickInPlay low s).query = { s.query with
    entries := (s.query.entries.map (QueryEntry.tick s.query.limit)).filter (fun e => !e.isStale)
    tickLimit := s.query.limit } := by
  obtain ⟨hquery, hcues⟩ := frameWritten_of_empty h
  have hempty : (recorded low (frameWritten s)).engine.cues = [] := by
    rw [recorded, formatterTick_engine, ticked_engine, hcues]
  rw [tickInPlay_eq, State.setOutput_query, spliced, engineTick_of_empty hempty, recorded, formatterTick_query, ticked_query,
    hquery]

theorem tickInPlay_pends (low : BitVec 4) {s : State} {c : Cause} (h : Pends c (ticked low (frameWritten s))) :
    Pends c (tickInPlay low s) := spliced_pends low _ h

/-- A WAITING entry of the table is WAITING still once the frame in emission is written. -/
theorem tickInPlay_queryComplete (low : BitVec 4) {s : State}
    (h : ∃ e ∈ s.query.entries, e.state = .waiting ∧ (e.tick s.query.limit).state ≠ .waiting) :
    Pends .queryComplete (tickInPlay low s) := by
  obtain ⟨e, he, hwaiting, hleft⟩ := h
  obtain ⟨before, hbefore⟩ := frameWritten_query s
  refine tickInPlay_pends low (ticked_queryComplete low ⟨e, ?_, ?_⟩)
  · rw [hbefore]
    exact List.mem_map.mpr ⟨e, he, releaseAll_of_not_held (by simp [hwaiting]) _⟩
  · rw [hbefore]
    exact tick_isComplete hwaiting hleft

theorem tickInPlay_queryDiscarded (low : BitVec 4) {s : State}
    (h : ∃ e ∈ s.query.entries, (e.tick s.query.limit).isStale = true) : Pends .queryDiscarded (tickInPlay low s) := by
  obtain ⟨e, he, hstale⟩ := h
  obtain ⟨before, hbefore⟩ := frameWritten_query s
  refine tickInPlay_pends low (ticked_queryDiscarded low ⟨e.releaseAll before, ?_, ?_⟩)
  · rw [hbefore]
    exact List.mem_map_of_mem he
  · rw [hbefore, isStale_tick_releaseAll]
    exact hstale

/-- What a tick leaves of an entry that was HELD keeps its kind and frame. -/
theorem ticked_entry_names (before after : List Nat) (limit : Nat) (e : QueryEntry) :
    (((e.releaseAll before).tick limit).releaseAll after).kind = e.kind ∧
    (((e.releaseAll before).tick limit).releaseAll after).frame = e.frame := by simp

/-- The entry that a tick leaves of one that is not HELD. -/
theorem ticked_entry_of_not_held {e : QueryEntry} (h : ∀ id, e.state ≠ .held id) (before after : List Nat) (limit : Nat) :
    ((e.releaseAll before).tick limit).releaseAll after = e.tick limit := by
  rw [releaseAll_of_not_held h, releaseAll_of_not_held]
  cases he : e.state with
  | held id => exact absurd he (h id)
  | waiting => obtain ht | ht := tick_state_of_waiting (limit := limit) he <;> simp [ht]
  | complete age o => simp [tick_eq, he]

/-- Settles O60: each clause of the timers entry by entry, the engine releasing entries around the tick. -/
theorem queryTimersComplete : Obligations.QueryTimersComplete := by
  unfold Obligations.QueryTimersComplete
  intro expire tick stale
  have hexpire : expire = fun limit e => e.expire limit := funext fun limit => funext fun e => (expire_eq limit e).symm
  have htick : tick = fun limit e => e.tick limit := by
    funext limit e
    show (match e.state with
      | .waiting => expire limit { e with wait := min (e.wait + 1) 65535 }
      | .complete age o => { e with state := .complete (min (age + 1) 300) o }
      | .held _ => e) = _
    rw [hexpire, tick_eq]
  have hstale : stale = QueryEntry.isStale := funext fun e => (isStale_eq e).symm
  clear_value expire tick stale
  subst hexpire htick hstale
  have hwait (s : State) (hd : s.link.resetDue = false) : exec .queryWaitExpiry s = .next (expireQueries s) :=
    exec_eq_act_of_not_due hd _
  have hexpired (s : State) : expireQueries s = if s.pins.transport ≠ .play ∨
      s.query.entries.map (QueryEntry.expire s.query.tickLimit) = s.query.entries then s
      else raise .queryComplete (s.setQuery { s.query with
        entries := s.query.entries.map (QueryEntry.expire s.query.tickLimit) }) := by
    rw [expireQueries, updateQueries_eq fun e => expire_changes]
    by_cases hplay : s.pins.transport = .play
    · simp only [hplay, if_true, ne_eq, not_true_eq_false, false_or]
    · rw [if_neg hplay, if_pos (.inl hplay)]
  refine ⟨fun s hd => ?_, fun s hd hinv => ?_, fun s hd => ?_, fun s low hd hplay hempty => ?_, fun s low hd hplay => ?_⟩
  · exact (hwait s hd).trans (congrArg _ (hexpired s))
  · have hsame : s.query.entries.map (QueryEntry.expire s.query.tickLimit) = s.query.entries := by
      conv_rhs => rw [← List.map_id s.query.entries]
      refine List.map_inj_left.mpr fun e he => ?_
      rw [expire_eq, if_neg]
      · rfl
      · rintro ⟨hw, hlimit, hle⟩
        exact absurd hle (Nat.not_le.mpr (hinv.waitingCounts e he hw hlimit))
    rw [hwait s hd, hexpired, if_pos (.inr hsame)]
  · exact (exec_eq_act_of_not_due hd _).trans (congrArg _ (discardQueries_eq s))
  · refine ⟨_, exec_frameTick hd hplay low, tickInPlay_query_of_empty low hempty, tickInPlay_queryComplete low, ?_⟩
    rintro ⟨x, hx, hstale⟩
    obtain ⟨e, he, rfl⟩ := List.mem_map.mp hx
    exact tickInPlay_queryDiscarded low ⟨e, he, hstale⟩
  · obtain ⟨before, after, hquery⟩ := tickInPlay_query low s
    intro kept
    have hentries : (tickInPlay low s).query.entries = kept.map
        (fun e => ((e.releaseAll before).tick s.query.limit).releaseAll after) := by rw [hquery]
    refine ⟨_, exec_frameTick hd hplay low, by rw [hquery], by rw [hquery], by rw [hentries, List.length_map],
      fun i e he hheld => ?_, fun i e id he _ => ?_, tickInPlay_queryComplete low, tickInPlay_queryDiscarded low⟩
    · rw [hentries, List.getElem?_map, he, Option.map_some, ticked_entry_of_not_held hheld]
    · rw [hentries, List.getElem?_map, he]
      exact ⟨_, rfl, ticked_entry_names before after s.query.limit e⟩

end Sys2Proof.Machine
end

section
/-! PROOFS. The tick at the position unit (O53). -/

namespace Sys2Proof.Machine

/-! ## The GPI lines of a tick -/

/-- A line once the tick has handed its requests to the engine. -/
def GpiLine.handed (l : GpiLine) : GpiLine := if l.isHanded then { l with queue := [] } else l

/-- A line once it has made its LEVEL request, if it makes one. -/
def GpiLine.leveled (l : GpiLine) (held : Bool) (r : GpiRequest) : GpiLine :=
  if l.function ≠ .off ∧ l.detection = .level ∧ held = true then l.join r else l

/-- A request joins its own line, and leaves the others. -/
theorem gpiRequest_line (i j : Fin 4) (u : State) : (gpiRequest i u).position.gpi[j] =
    if i = j then u.position.gpi[j].join { position := samplePosition u, lock := u.position.lock }
    else u.position.gpi[j] := by
  by_cases hij : i = j
  · subst hij
    simp
  · simp [hij, Fin.val_ne_of_ne hij]

/-- A LEVEL request changes its own line alone. -/
theorem levelRequest_line (low : BitVec 4) (u : State) (i j : Fin 4) : (levelRequest low u i).position.gpi[j] =
    if i = j then u.position.gpi[j].leveled (low.getLsbD j)
      { position := samplePosition u, lock := u.position.lock }
    else u.position.gpi[j] := by
  unfold levelRequest GpiLine.leveled
  dsimp only
  by_cases hij : i = j
  · subst hij
    rw [if_pos rfl]
    split
    · exact (gpiRequest_line i i u).trans (if_pos rfl)
    · rfl
  · rw [if_neg hij]
    split
    · exact (gpiRequest_line i j u).trans (if_neg hij)
    · rfl

/-- A LEVEL request keeps the moment's position and lock state. -/
theorem levelRequest_moment (low : BitVec 4) (u : State) (i : Fin 4) :
    samplePosition (levelRequest low u i) = samplePosition u ∧
    (levelRequest low u i).position.lock = u.position.lock := by
  unfold levelRequest samplePosition
  dsimp only
  split
  · rw [gpiRequest_position, gpiRequest_sampleCount, gpiRequest_input]
    exact ⟨rfl, rfl⟩
  · exact ⟨rfl, rfl⟩

/-- Each line makes its LEVEL request with the same moment's position. -/
theorem levelRequests_line (low : BitVec 4) (u : State) (j : Fin 4) : (levelRequests low u).position.gpi[j] =
    u.position.gpi[j].leveled (low.getLsbD j) { position := samplePosition u, lock := u.position.lock } := by
  have hlines (lines : List (Fin 4)) (hnodup : lines.Nodup) (u : State) :
      (lines.foldl (levelRequest low) u).position.gpi[j] = if j ∈ lines then
        u.position.gpi[j].leveled (low.getLsbD j) { position := samplePosition u, lock := u.position.lock }
      else u.position.gpi[j] := by
    induction lines generalizing u with
    | nil => rfl
    | cons i lines ih =>
      obtain ⟨hi, hnodup⟩ := List.nodup_cons.mp hnodup
      obtain ⟨hposition, hlock⟩ := levelRequest_moment low u i
      rw [List.foldl_cons, ih hnodup, hposition, hlock, levelRequest_line]
      by_cases hij : i = j
      · subst hij
        simp [hi]
      · simp [hij, Ne.symm hij]
  have hall : ∀ i : Fin 4, i ∈ gpiLines := by decide
  rw [levelRequests, hlines gpiLines (by decide), if_pos (hall j)]

/-- A line after the tick: its requests handed to the engine, then its LEVEL request at the new W. -/
theorem positioned_line (low : BitVec 4) (s : State) (j : Fin 4) : (positioned low s).position.gpi[j] =
    s.position.gpi[j].handed.leveled (low.getLsbD j)
      { position := (s.position.w + 1).toNat * spf s.input.rate, lock := s.position.lock } := by
  have hmoment : samplePosition (positionTick (clearHanded s)) = (s.position.w + 1).toNat * spf s.input.rate := by
    show _ + min 0 _ = _
    rw [Nat.zero_min, Nat.add_zero]
    rfl
  have hline : (positionTick (clearHanded s)).position.gpi[j] = s.position.gpi[j].handed := by
    show (s.position.gpi.map (fun l => if l.isHanded then { l with queue := [] } else l))[j] = _
    rw [Fin.getElem_fin, Vector.getElem_map]
    rfl
  rw [positioned, levelRequests_line, hmoment, hline]
  rfl

theorem isHanded_iff (l : GpiLine) : l.isHanded = true ↔ l.function = .arm ∨ l.function = .abort := by
  simp [GpiLine.isHanded]

theorem handed_eq (l : GpiLine) : l.handed = { l with
    queue := if l.function = .arm ∨ l.function = .abort then [] else l.queue } := by
  unfold GpiLine.handed
  simp only [isHanded_iff]
  split <;> rfl

theorem leveled_eq (l : GpiLine) (held : Bool) (r : GpiRequest) : l.leveled held r =
    if l.function ≠ .off ∧ l.detection = .level ∧ held = true then { l with
      queue := (if l.depth ≤ l.queue.length then l.queue.dropLast else l.queue) ++ [r]
      overwrite := l.overwrite || decide (l.depth ≤ l.queue.length) }
    else l := by
  unfold GpiLine.leveled GpiLine.join GpiLine.isFull
  by_cases hfull : l.depth ≤ l.queue.length <;> simp [hfull]

/-! ## What the rest of the tick leaves -/

theorem Work.Leaves.setOutput {s t : State} (h : Work.Leaves s t) (o : OutputUnit) : Work.Leaves s (t.setOutput o) :=
  ⟨h.pending, h.pins, h.sampleCount, h.input, h.gathered, h.decoder, h.ring, h.position, h.written, h.unconfirmed⟩

/-- The formatter's tick and the engine leave what the position unit's tick set. -/
theorem tickInPlay_leaves (low : BitVec 4) (s : State) : Work.Leaves (ticked low (frameWritten s)) (tickInPlay low s) := by
  rw [tickInPlay_eq]
  exact (spliced_work low (frameWritten s)).leaves.setOutput _

/-- A line looks at nothing but the position unit, and so does not see the frame written at the head of the tick. -/
theorem tickInPlay_line (low : BitVec 4) (s : State) (j : Fin 4) : (tickInPlay low s).position.gpi[j] =
    s.position.gpi[j].handed.leveled (low.getLsbD j)
      { position := (s.position.w + 1).toNat * spf s.input.rate, lock := s.position.lock } := by
  rw [(tickInPlay_leaves low s).position, ticked_position, positioned_line, frameWritten_position, frameWritten_input]

theorem tickInPlay_position (low : BitVec 4) (s : State) : (tickInPlay low s).position = { s.position with
    w := s.position.w + 1
    age := ageAfter s.position
    gpi := (tickInPlay low s).position.gpi } := by
  have h := positioned_position low (frameWritten s)
  rwa [← ticked_position, ← (tickInPlay_leaves low s).position, frameWritten_position] at h

/-- Settles O53: the position unit's stage of the tick, which no later stage touches. -/
theorem tickCountsThePosition : Obligations.TickCountsThePosition := by
  unfold Obligations.TickCountsThePosition
  intro s low hd
  refine ⟨fun hplay => ?_, fun hplay => ?_⟩
  · have hexec : exec (.frameTick low) s = .next (frameTick low s) := exec_eq_act_of_not_due hd _
    rw [hexec, frameTick, if_neg hplay]
  · intro w
    have hleaves := tickInPlay_leaves low s
    refine ⟨tickInPlay low s, exec_frameTick hd hplay low, ?_, tickInPlay_position low s, ?_, rfl, ?_, ?_, ?_, fun i => ?_⟩
    · rw [hleaves.sampleCount, ticked_sampleCount]
    · rw [hleaves.ring, ticked_ring, frameWritten_position, frameWritten_ring]
      rfl
    · rw [hleaves.decoder, ticked_decoder, frameWritten_decoder]
    · rw [hleaves.gathered, ticked_gathered, frameWritten_gathered]
    · rw [hleaves.pins, ticked_pins, frameWritten_pins]
    · rw [tickInPlay_line, handed_eq, leveled_eq]

end Sys2Proof.Machine
end

section
/-! PROOFS. The tick at the input unit (O37): the close of one capture frame and the opening of the next (2.3). -/

namespace Sys2Proof.Machine

/-! ## What the formatter's tick and the engine leave of the guard and of the output unit -/

/-- Of the guard, the formatter's tick and the engine reach the refused spans alone. -/
theorem Work.lineage {s t : State} (h : Work s t) : t.lineage = { s.lineage with
    span := t.lineage.span
    refusals := t.lineage.refusals
    incomplete := t.lineage.incomplete } := by
  induction h with
  | refl => rfl
  | raise c _ ih => rw [raise_lineage]; exact ih
  | @refused t w x _ ih =>
    have hreport : (refusedReport w x t).lineage = { t.lineage with
        span := (refusedReport w x t).lineage.span
        refusals := (refusedReport w x t).lineage.refusals
        incomplete := (refusedReport w x t).lineage.incomplete } := by
      unfold refusedReport
      split
      · rfl
      · split <;> simp only [raise_lineage] <;> rfl
    rw [hreport, ih]
  | @close t _ ih =>
    have hclose : (closeSpan t).lineage = { t.lineage with
        span := (closeSpan t).lineage.span
        refusals := (closeSpan t).lineage.refusals
        incomplete := (closeSpan t).lineage.incomplete } := by
      unfold closeSpan
      split
      · rfl
      · rw [raise_lineage]
        rfl
    rw [hclose, ih]
  | engine _ _ _ ih => exact ih
  | removeCue _ _ ih => exact ih
  | changeCue _ _ _ _ ih => exact ih
  | splice _ _ ih => exact ih
  | conceal _ _ _ _ ih => exact ih
  | emit _ _ _ _ ih => exact ih
  | endRecording _ _ ih => exact ih

/-- Of the output unit, the formatter's tick and the engine reach the splice frame alone. -/
theorem Work.output {s t : State} (h : Work s t) : t.output = { s.output with
    fresh := { s.output.fresh with splice := t.output.fresh.splice } } := by
  induction h with
  | refl => rfl
  | raise c _ ih => rw [raise_output]; exact ih
  | refused w x _ ih => rw [refusedReport_output]; exact ih
  | close _ ih => rw [closeSpan_output]; exact ih
  | engine _ _ _ ih => exact ih
  | removeCue _ _ ih => exact ih
  | changeCue _ _ _ _ ih => exact ih
  | splice f _ ih => rw [State.setOutput_output, ih]
  | conceal _ _ _ _ ih => exact ih
  | emit _ _ _ _ ih => exact ih
  | endRecording _ _ ih => exact ih

/-- A written frame leaves of the guard all but the refused spans. -/
theorem frameWritten_lineage (s : State) : (frameWritten s).lineage = { s.lineage with
    span := (frameWritten s).lineage.span
    refusals := (frameWritten s).lineage.refusals
    incomplete := (frameWritten s).lineage.incomplete } := by
  cases he : s.formatter.emission with
  | none => rw [frameWritten_none he]
  | some e => exact (frameWritten_work he).lineage

theorem frameWritten_output (s : State) : (frameWritten s).output = { s.output with
    fresh := { s.output.fresh with splice := (frameWritten s).output.fresh.splice } } := by
  cases he : s.formatter.emission with
  | none => rw [frameWritten_none he]
  | some e => exact (frameWritten_work he).output

/-! ## The close of the frame in gathering -/

section
variable {s : State} {g : Gathering}

/-- The record of the frame in gathering at its close. -/
def closingFrame (s : State) (g : Gathering) : CaptureFrame := g.close (spf s.input.rate) s.input.closed (closeRuling s g)

theorem closeCapture_none (h : s.input.gathering = none) : closeCapture s = s := by rw [closeCapture, h]

theorem closeCapture_some (h : s.input.gathering = some g) : closeCapture s =
    raiseIf ((closingFrame s g).condition == .trimmed || (closingFrame s g).condition == .filled) .inputSlip
      (((s.setInput { s.input with
            gathering := none
            closed := (closingFrame s g :: s.input.closed).take 3 }).setLineage
          { s.lineage with
            interval := none
            lastRuling := some { number := g.number, ruling := closeRuling s g } }).setOutput
        { s.output with
          fresh := { s.output.fresh with
            input := some { pairs := (closingFrame s g).pairs, mark := (closeRuling s g).mark } } }) := by
  rw [closeCapture, h]
  rfl

end

/-! ## The input unit's stage of the tick -/

section
variable (s : State)

theorem absenceTick_input : (absenceTick s).input = { s.input with
    gathering := s.input.gathering.map (fun g => g.see (absenceTick s).lineage.cls) } := by
  unfold absenceTick
  rw [rederive_input, rederive_cls]
  rfl

theorem absenceTick_lineage : (absenceTick s).lineage = { s.lineage with
    absence := satInc Config.absenceLimit s.lineage.absence
    cls := (absenceTick s).lineage.cls
    interval := (absenceTick s).lineage.interval } := by
  unfold absenceTick
  rw [rederive_lineage]
  rfl

theorem openCapture_input : (openCapture s).input = { s.input with
    gathering := some { number := s.position.w, source := s.input.source, pairs := [], received := 0,
                        absentSeen := s.lineage.cls == .absent } } := rfl

theorem openCapture_lineage : (openCapture s).lineage = { s.lineage with interval := some (effective s.lineage.cls) } := rfl

theorem captureTick_cls : (captureTick s).lineage.cls = (absenceTick (closeCapture s)).lineage.cls := rfl

theorem captureTick_input : (captureTick s).input = { (closeCapture s).input with
    gathering := some { number := s.position.w, source := (closeCapture s).input.source, pairs := [], received := 0,
                        absentSeen := (captureTick s).lineage.cls == .absent } } := by
  rw [captureTick_cls, captureTick, openCapture_input, absenceTick_position, closeCapture_position, absenceTick_input]

theorem captureTick_lineage : (captureTick s).lineage = { (closeCapture s).lineage with
    absence := satInc Config.absenceLimit (closeCapture s).lineage.absence
    cls := (captureTick s).lineage.cls
    interval := some (effective (captureTick s).lineage.cls) } := by
  rw [captureTick_cls, captureTick, openCapture_lineage, absenceTick_lineage]

theorem captureTick_output : (captureTick s).output = (closeCapture s).output := by simp [captureTick]

theorem captureTick_pends {c : Cause} (h : Pends c (closeCapture s)) : Pends c (captureTick s) := by
  unfold captureTick
  have hrederived : Pends c (absenceTick (closeCapture s)) := (((Raises.refl (closeCapture s)).set).rederive).pends h
  exact hrederived.sameNotice (openCapture_notice _)

end

/-! ## The pairs of a closed frame -/

section
variable {g : Gathering} (n : Nat) (closed : List CaptureFrame)

theorem condition_eq : g.condition n = if g.source = .digital ∧ g.absentSeen = true then .absent
    else if g.received = n then .normal
    else if n < g.received then .trimmed
    else .filled := by
  simp [Gathering.condition, Gathering.isAbsent]

theorem condition_eq_absent_iff : g.condition n = .absent ↔ g.isAbsent = true := by
  unfold Gathering.condition
  split
  next h => simp [h]
  next h => split <;> (try split) <;> simp [h]

theorem closePairs_absent (h : g.condition n = .absent) : g.closePairs n closed = List.replicate n Pair.zero := by
  rw [Gathering.closePairs, if_pos ((condition_eq_absent_iff n).mp h)]
  rfl

theorem closePairs_present (h : g.condition n ≠ .absent) : g.closePairs n closed =
    g.pairs.take n ++ List.replicate (n - g.pairs.length) (fillPair g closed) := by
  rw [Gathering.closePairs, if_neg fun hno => h ((condition_eq_absent_iff n).mpr hno)]

/-- The pairs that the frame gathered stand first, cut at spf. -/
theorem closePairs_take (h : g.condition n ≠ .absent) : (g.closePairs n closed).take g.pairs.length = g.pairs.take n := by
  rw [closePairs_present n closed h]
  by_cases hn : n ≤ g.pairs.length
  · rw [Nat.sub_eq_zero_of_le hn, List.replicate_zero, List.append_nil, List.take_take, Nat.min_eq_right hn]
  · rw [List.take_of_length_le (by omega : g.pairs.length ≤ n), List.take_left']
    rfl

/-- Beyond the pairs gathered stands the pair that fills. -/
theorem closePairs_fill (h : g.condition n ≠ .absent) {i : Nat} (hi : g.pairs.length ≤ i) (hn : i < n) :
    (g.closePairs n closed)[i]? = some (fillPair g closed) := by
  rw [closePairs_present n closed h, List.take_of_length_le (by omega : g.pairs.length ≤ n),
    List.getElem?_append_right hi, List.getElem?_replicate_of_lt (by omega)]

end

/-! ## The tick -/

section
variable (low : BitVec 4) (s : State)

theorem tickInPlay_input : (tickInPlay low s).input = (captureTick (positioned low (frameWritten s))).input := by
  rw [(tickInPlay_leaves low s).input, ticked_input]

/-- The guard's share of the input unit's stage stands after the tick. -/
theorem tickInPlay_guard : (tickInPlay low s).lineage = { (captureTick (positioned low (frameWritten s))).lineage with
    span := (tickInPlay low s).lineage.span
    refusals := (tickInPlay low s).lineage.refusals
    incomplete := (tickInPlay low s).lineage.incomplete } := by
  rw [← ticked_lineage]
  exact (spliced_work low (frameWritten s)).lineage

theorem tickInPlay_output : (tickInPlay low s).output =
    { (captureTick (positioned low (frameWritten s))).output with
      tickWaiting := true
      fresh := { (captureTick (positioned low (frameWritten s))).output.fresh with
        splice := (tickInPlay low s).output.fresh.splice } } := by
  have h := (spliced_work low (frameWritten s)).output
  rw [ticked_output] at h
  rw [tickInPlay_eq, State.setOutput_output, h]

/-- The input unit's stage begins from what the tick finds, the refused spans of the guard apart. -/
theorem positioned_guard : (positioned low (frameWritten s)).lineage = { s.lineage with
    span := (frameWritten s).lineage.span
    refusals := (frameWritten s).lineage.refusals
    incomplete := (frameWritten s).lineage.incomplete } := by
  rw [positioned_lineage]
  exact frameWritten_lineage s

theorem closeRuling_positioned (g : Gathering) : closeRuling (positioned low (frameWritten s)) g = closeRuling s g := by
  unfold closeRuling
  rw [positioned_guard]

theorem closingFrame_positioned (g : Gathering) :
    closingFrame (positioned low (frameWritten s)) g = closingFrame s g := by
  unfold closingFrame
  rw [closeRuling_positioned, positioned_input, frameWritten_input]

end

theorem closeRuling_eq (s : State) (g : Gathering) : closeRuling s g =
    match g.source, s.lineage.interval.getD (effective s.lineage.cls) with
    | .converter, _ => .permit s.lineage.origin
    | .digital, .free => .permit .free
    | .digital, .once => .permit .never
    | .digital, .never => .refuse := rfl

/-- Settles O37: the stage of the input unit, seen through the stages around it. -/
theorem tickClosesAndOpensCaptureFrames : Obligations.TickClosesAndOpensCaptureFrames := by
  unfold Obligations.TickClosesAndOpensCaptureFrames
  intro s low hd hplay
  have hinput := tickInPlay_input low s
  have hguard := tickInPlay_guard low s
  have houtput := tickInPlay_output low s
  rw [captureTick_input, positioned_w, frameWritten_position] at hinput
  rw [captureTick_lineage] at hguard
  rw [captureTick_output] at houtput
  have hcls : (tickInPlay low s).lineage.cls = (captureTick (positioned low (frameWritten s))).lineage.cls := by
    rw [hguard]
  rw [← hcls] at hinput hguard
  have hout : (positioned low (frameWritten s)).output = (frameWritten s).output := positioned_output low _
  rw [frameWritten_output] at hout
  refine ⟨_, exec_frameTick hd hplay low, ?_⟩
  have hin : (positioned low (frameWritten s)).input = s.input := by rw [positioned_input, frameWritten_input]
  have hlin := positioned_guard low s
  have hframe := closingFrame_positioned low s
  have hruling := closeRuling_positioned low s
  have hpends := fun h => tickInPlay_pends (c := .inputSlip) low (s := s) ((Raises.refl _).queryTick.pends
    (captureTick_pends (positioned low (frameWritten s)) h))
  generalize positioned low (frameWritten s) = u at *
  generalize tickInPlay low s = t at *
  have hsource : (closeCapture u).input.source = s.input.source ∧ (closeCapture u).input.rate = s.input.rate ∧
      (closeCapture u).lineage.absence = s.lineage.absence := by
    cases hg : u.input.gathering with
    | none => rw [closeCapture_none hg, hin, hlin]; exact ⟨rfl, rfl, rfl⟩
    | some g =>
      rw [closeCapture_some hg, raiseIf_input, raiseIf_lineage]
      exact ⟨congrArg (·.source) hin, congrArg (·.rate) hin, congrArg (·.absence) hlin⟩
  have hplayed : (closeCapture u).output = { s.output with fresh := { s.output.fresh with
      input := (closeCapture u).output.fresh.input
      splice := (closeCapture u).output.fresh.splice } } := by
    cases hg : u.input.gathering with
    | none => rw [closeCapture_none hg, hout]
    | some g =>
      rw [closeCapture_some hg, raiseIf_output, State.setOutput_output, hout]
  obtain ⟨hsource, hrate, habsence⟩ := hsource
  refine ⟨?_, ?_, ?_, congrArg (·.interval) hguard, ?_, fun hg => ?_, ?_, fun g hg => ?_⟩
  · rw [hinput, ← hsource]
  · rw [hinput, ← hrate]
  · rw [hinput, hsource]
  · rw [hguard, ← habsence]
    rfl
  · rw [closeCapture_none (by rw [hin, hg])] at hinput hguard houtput
    refine ⟨?_, ?_, ?_⟩
    · rw [hinput, hin]
    · rw [hguard, hlin]
    · rw [houtput, hout]
  · rw [houtput, hplayed]
  · rw [closeCapture_some (g := g) (by rw [hin, hg]), hframe, hruling] at hinput hguard houtput hpends
    rw [raiseIf_input] at hinput
    rw [raiseIf_lineage] at hguard
    rw [raiseIf_output] at houtput
    intro n status ruling condition
    have hr : ruling = closeRuling s g := (closeRuling_eq s g).symm
    have hc : condition = (closingFrame s g).condition := (condition_eq n).symm
    have hcg : (closingFrame s g).condition = g.condition n := rfl
    clear_value ruling condition
    subst hr hc
    refine ⟨⟨(closingFrame s g).pairs, closePairs_length g n s.input.closed, ?_, ?_, fun h => closePairs_absent n _ h,
      fun h => closePairs_take n _ h, fun h p hp i hi hn => ?_, fun h hp i hn => ?_⟩, ?_, fun hslip => ?_⟩
    · rw [hinput, hin]
      rfl
    · rw [houtput]
      rfl
    · refine (closePairs_fill n s.input.closed h hi hn).trans ?_
      rw [fillPair, hp]
    · refine (closePairs_fill n s.input.closed h (by rw [hp]; exact Nat.zero_le i) hn).trans ?_
      rw [fillPair, hp]
      rfl
    · exact congrArg (·.lastRuling) hguard
    · refine hpends ?_
      rw [Pends, hasCause_raiseIf]
      obtain hslip | hslip := hslip <;> simp [hslip]

end Sys2Proof.Machine
end

section
/-! PROOFS. The end of an entry (7.5), and FRAME_WRITTEN (O40). -/

namespace Sys2Proof.Machine

/-! ## The end of an entry, record by record (R131) -/

section
variable {s : State} {pre post : List CueEntry} {c : CueEntry}

/-- A change of the entry of an id leaves the others of the list. -/
theorem map_of_split (hids : ∀ d ∈ pre ++ post, d.id ≠ c.id) (f : CueEntry → CueEntry) :
    (pre ++ c :: post).map (fun x => if x.id = c.id then f x else x) = pre ++ f c :: post := by
  have hkeep (l : List CueEntry) (hl : ∀ d ∈ l, d.id ≠ c.id) : l.map (fun x => if x.id = c.id then f x else x) = l := by
    conv_rhs => rw [← List.map_id l]
    exact List.map_inj_left.mpr fun d hd => if_neg (hl d hd)
  rw [List.map_append, List.map_cons, if_pos rfl, hkeep pre fun d hd => hids d (List.mem_append_left _ hd),
    hkeep post fun d hd => hids d (List.mem_append_right _ hd)]

/-- The list that the end of an entry leaves: without it in EXECUTE, with it PENDING in REHEARSE. -/
theorem leftCues_of_split {e : Engine} (hcues : e.cues = pre ++ c :: post) (hids : ∀ d ∈ pre ++ post, d.id ≠ c.id) :
    leftCues c.id e = if e.arm.mode = .execute then pre ++ post
      else pre ++ { c with state := .pending, degraded := 0 } :: post := by
  unfold leftCues
  cases hm : e.arm.mode with
  | execute =>
    rw [hcues, if_pos rfl]
    exact filter_of_split hids
  | rehearse =>
    rw [hcues, if_neg nofun]
    exact map_of_split hids _

/-- The engine, its cursor placed on the entry that followed. -/
theorem pointTo_ended (e : Engine) (cues : List CueEntry) (r : SpliceRecord) :
    Engine.pointTo { e with
      cues := cues
      pendingAbort := false
      run := EntryRun.empty
      log := pushNewest Config.spliceLogCap r e.log
      recordsMade := satInc Config.max32 e.recordsMade } post.head? = e.ended cues post r := by
  unfold Engine.ended
  cases post with
  | cons d post => rfl
  | nil =>
    by_cases hwaits : e.arm.mode = .rehearse ∧ e.arm.loop = true
    · simp only [List.head?_nil, Engine.pointTo, Engine.passLast, hwaits]
      rfl
    · simp only [List.head?_nil, Engine.pointTo, Engine.passLast, hwaits]
      rfl

theorem endEntry_ended (hcues : s.engine.cues = pre ++ c :: post) (hids : ∀ d ∈ pre ++ post, d.id ≠ c.id)
    {r : SpliceRecord} (hr : r.id = c.id) : (endEntry r s).engine = s.engine.ended
      (if s.engine.arm.mode = .execute then pre ++ post else pre ++ { c with state := .pending, degraded := 0 } :: post)
      post r := by
  have hleft : (leaveList r.id (raise (outcomeCause r.outcome) (logRecord r s))).engine =
      { (logRecord r s).engine with cues := leftCues r.id (logRecord r s).engine } := by
    rw [leaveList_engine, raise_engine]
  have hfollow : follower r.id s.engine.cues = post.head? := by
    rw [hcues, hr]
    exact follower_of_split fun d hd => hids d (List.mem_append_left _ hd)
  have hcuesLeft : leftCues r.id (logRecord r s).engine = if s.engine.arm.mode = .execute then pre ++ post
      else pre ++ { c with state := .pending, degraded := 0 } :: post := by
    rw [hr]
    exact leftCues_of_split (e := (logRecord r s).engine) hcues hids
  rw [← pointTo_ended, ← hcuesLeft, endEntry, reportEnd_engine, advanceCursor, hfollow, State.setEngine_engine, hleft]
  rfl

/-- The end of an entry in EXECUTE releases what is HELD behind it. -/
theorem endEntry_query (r : SpliceRecord) (s : State) : (endEntry r s).query = { s.query with
    entries := s.query.entries.map (fun q =>
      if s.engine.arm.mode = .execute ∧ q.state = .held r.id then { q with state := .waiting } else q) } := by
  have hleave (u : State) : (leaveList r.id u).query = { u.query with
      entries := u.query.entries.map (fun q =>
        if u.engine.arm.mode = .execute ∧ q.state = .held r.id then { q with state := .waiting } else q) } := by
    unfold leaveList
    cases hm : u.engine.arm.mode with
    | execute =>
      simp only [removeCue_query, true_and]
      rfl
    | rehearse => simp [changeCue]
  rw [endEntry, reportEnd_query, advanceCursor, State.setEngine_query, hleave, raise_query, raise_engine]
  rfl

/-- The end of an entry raises the cause of its outcome. -/
theorem endEntry_pends (r : SpliceRecord) (s : State) : Pends (outcomeCause r.outcome) (endEntry r s) :=
  ((((Work.refl _).leaveList r.id).advanceCursor _).reportEnd).raises.pends
    (raise_hasCause_self (outcomeCause r.outcome) (logRecord r s))

theorem endEntry_span (r : SpliceRecord) {s : State} (h : s.engine.arm.mode = .execute) :
    (endEntry r s).lineage.span = none := by
  refine reportEnd_span ?_
  obtain ⟨_, _, harm, _, he⟩ := endEntry_engine r s
  rw [endEntry, reportEnd_engine] at he
  rw [he, Engine.pointTo_arm, harm, h]

/-- In REHEARSE the end of an entry says nothing to the guard. -/
theorem endEntry_lineage (r : SpliceRecord) {s : State} (h : s.engine.arm.mode = .rehearse) :
    (endEntry r s).lineage = s.lineage := by
  have hmode : (advanceCursor (follower r.id s.engine.cues)
      (leaveList r.id (raise (outcomeCause r.outcome) (logRecord r s)))).engine.arm.mode = .rehearse := by
    obtain ⟨_, _, harm, _, he⟩ := endEntry_engine r s
    rw [endEntry, reportEnd_engine] at he
    rw [he, Engine.pointTo_arm, harm, h]
  rw [endEntry, reportEnd, hmode]
  show (leaveList r.id (raise (outcomeCause r.outcome) (logRecord r s))).lineage = _
  rw [leaveList_lineage, raise_lineage]
  rfl

theorem cursorCue_of_split (hcues : s.engine.cues = pre ++ c :: post) (hids : ∀ d ∈ pre ++ post, d.id ≠ c.id)
    (hcursor : s.engine.cursor = .entry c.id) : cursorCue s = some c := by
  rw [cursorCue, hcursor]
  show s.engine.cues.find? (fun e => e.id == c.id) = some c
  rw [hcues]
  exact find_of_split fun d hd => hids d (List.mem_append_left _ hd)

theorem endActive_eq (hcue : cursorCue s = some c) (o : EntryOutcome) (x : Option Reason) (b : Bool) :
    endActive o x b s = endEntry (activeRecord c o x b s) s := by
  rw [endActive, hcue]

/-- The newest record of the splice log is the one that the end of the entry made. -/
theorem endEntry_log (r : SpliceRecord) (s : State) : (endEntry r s).engine.log.head? = some r := by
  have hleave (u : State) : (leaveList r.id u).engine.log = u.engine.log := by rw [leaveList_engine]
  rw [endEntry, reportEnd_engine, advanceCursor, State.setEngine_engine, Engine.pointTo_log]
  show (leaveList r.id (raise (outcomeCause r.outcome) (logRecord r s))).engine.log.head? = _
  rw [hleave, raise_engine]
  rfl

end

/-! ## FRAME_WRITTEN -/

/-- The formatter once a frame is written (R41, R47). -/
theorem finish_eq (f : Formatter) (e : Emission) : f.finish e =
    { f with
      emission := none
      written := (if 8 ≤ (f.written.filter (fun x => x != e.number)).length
        then (f.written.filter (fun x => x != e.number)).tail else f.written.filter (fun x => x != e.number)) ++ [e.number]
      unconfirmed := if 8 ≤ (f.written.filter (fun x => x != e.number)).length
        then min (f.unconfirmed + 1) 4294967295 else f.unconfirmed
      record := match e.origin with
        | .recording silenced => f.record.enter e.number silenced
        | .earlier | .splice => f.record } := by
  by_cases hfull : 8 ≤ (f.written.filter (fun x => x != e.number)).length
  · simp only [Formatter.finish, joinWritten, Config.writtenCap, hfull]
    rfl
  · simp only [Formatter.finish, joinWritten, Config.writtenCap, hfull]
    rfl

/-- The engine's run once a splice frame is written (R124). -/
def EntryRun.written (r : EntryRun) (w : FrameNo) : EntryRun :=
  { r with last := some w, framesWritten := satInc Config.max32 r.framesWritten }

theorem frameWritten_other {s : State} {e : Emission} (he : s.formatter.emission = some e)
    (h : e.origin ≠ .splice ∨ s.engine.state ≠ .active) : frameWritten s = s.setFormatter (s.formatter.finish e) := by
  have hspliced : e.origin = .splice → spliceWritten e.number (s.setFormatter (s.formatter.finish e)) =
      s.setFormatter (s.formatter.finish e) := fun horigin => if_neg (h.resolve_left (fun hno => hno horigin))
  rw [frameWritten, he]
  dsimp only
  split
  next horigin => exact hspliced horigin
  · rfl

theorem frameWritten_splice {s : State} {e : Emission} (he : s.formatter.emission = some e) (horigin : e.origin = .splice)
    (hactive : s.engine.state = .active) : frameWritten s =
      reachEnd ((s.setFormatter (s.formatter.finish e)).setEngine
        { s.engine with run := s.engine.run.written e.number }) := by
  have hspliced : spliceWritten e.number (s.setFormatter (s.formatter.finish e)) =
      reachEnd ((s.setFormatter (s.formatter.finish e)).setEngine
        { s.engine with run := s.engine.run.written e.number }) := if_pos hactive
  rw [frameWritten, he]
  dsimp only
  rw [if_pos horigin, hspliced]

/-- The outcome of a decided end, and its reason (R125, R130). -/
def Ending.outcome : Ending → EntryOutcome
  | .complete => .completed
  | .refusal | .request => .aborted

def Ending.reason : Ending → Option Reason
  | .complete => none
  | .refusal => some .refused
  | .request => some .requested

theorem reachEnd_some {s : State} {x : Ending} (h : s.engine.run.ending = some x) :
    reachEnd s = endActive x.outcome x.reason false s := by
  rw [reachEnd, h]
  cases x <;> rfl

theorem reachEnd_none {s : State} (h : s.engine.run.ending = none) : reachEnd s = s := by rw [reachEnd, h]

/-- The record of an end that the tick decided. -/
theorem activeRecord_ending (c : CueEntry) (x : Ending) (s : State) : activeRecord c x.outcome x.reason false s =
    { id := c.id, mode := s.engine.arm.mode, outcome := if x = .complete then .completed else .aborted,
      reason := match x with
        | .complete => none
        | .refusal => some .refused
        | .request => some .requested,
      first := s.engine.run.first, last := s.engine.run.last, framesWritten := s.engine.run.framesWritten,
      degraded := c.degraded, openEnded := false } := by
  cases x <;> rfl

/-- Where no LOOP waits, the end of an entry disarms an engine whose list holds none after it. -/
theorem ended_of_execute {e : Engine} (harm : e.arm = { mode := .execute, loop := false }) (cues post : List CueEntry)
    (r : SpliceRecord) : e.ended cues post r = { e with
      cues := cues
      state := if post = [] then .disarmed else .armed
      cursor := match post with
        | [] => .absent
        | d :: _ => .entry d.id
      pendingAbort := false
      run := EntryRun.empty
      log := (r :: e.log).take 16
      recordsMade := min (e.recordsMade + 1) 4294967295 } := by
  have hwaits : ¬(e.arm.mode = .rehearse ∧ e.arm.loop = true) := by simp [harm]
  unfold Engine.ended
  cases post <;> simp [hwaits]

/-- Settles O40: the written frame, and the end that the tick had decided. -/
theorem frameWrittenRecordsTheFrame : Obligations.FrameWrittenRecordsTheFrame := by
  unfold Obligations.FrameWrittenRecordsTheFrame
  intro written
  have hwritten : written = fun e f => f.finish e := funext fun e => funext fun f => (finish_eq f e).symm
  clear_value written
  subst hwritten
  have hexec (s : State) (hd : s.link.resetDue = false) : exec .frameWritten s = .next (frameWritten s) :=
    exec_eq_act_of_not_due hd _
  refine ⟨fun s hd he => ?_, fun s e hd he h => ?_, fun s e hd he horigin hactive hending => ?_,
    fun s e c x pre post hd he horigin hactive harm hending hcues hids hcursor => ?_⟩
  · rw [hexec s hd, frameWritten_none he]
  · rw [hexec s hd, frameWritten_other he h]
  · rw [hexec s hd, frameWritten_splice he horigin hactive]
    rw [reachEnd_none (by exact hending)]
    rfl
  · have hmode : s.engine.arm.mode = .execute := by rw [harm]
    have hwritten := frameWritten_splice he horigin hactive
    have hu : ((s.setFormatter (s.formatter.finish e)).setEngine
        { s.engine with run := s.engine.run.written e.number }).engine =
        { s.engine with run := s.engine.run.written e.number } := rfl
    have hformatter : ((s.setFormatter (s.formatter.finish e)).setEngine
        { s.engine with run := s.engine.run.written e.number }).formatter = s.formatter.finish e := rfl
    have hquery : ((s.setFormatter (s.formatter.finish e)).setEngine
        { s.engine with run := s.engine.run.written e.number }).query = s.query := rfl
    generalize (s.setFormatter (s.formatter.finish e)).setEngine
        { s.engine with run := s.engine.run.written e.number } = u at hwritten hu hformatter hquery
    have hucues : u.engine.cues = pre ++ c :: post := by rw [hu, hcues]
    have hcue : cursorCue u = some c := cursorCue_of_split hucues hids (by rw [hu, hcursor])
    have humode : u.engine.arm.mode = .execute := by rw [hu, hmode]
    rw [reachEnd_some (by rw [hu]; exact hending), endActive_eq hcue] at hwritten
    refine ⟨_, (hexec s hd).trans (congrArg _ hwritten), ?_, ?_, ?_, endEntry_span _ humode, ?_⟩
    · rw [endEntry_formatter, hformatter]
    · rw [endEntry_ended hucues hids rfl, if_pos humode, ended_of_execute (by rw [hu, harm])]
      rw [activeRecord_ending, hu, hmode]
      rfl
    · rw [endEntry_query, hquery]
      simp [humode, activeRecord]
    · have hcause : outcomeCause x.outcome = if x = .complete then .editFinished else .editAborted := by cases x <;> rfl
      rw [← hcause]
      exact endEntry_pends _ u

end Sys2Proof.Machine
end

section
/-! PROOFS. The transport (O41): what leaving PLAY does to every block (2.4, 3.4, 6.2, 7.5). -/

namespace Sys2Proof.Machine

/-! ## Spans that the formatter's tick and the engine close -/

/-- An open span that the formatter's tick and the engine close raises COPY_RESUMED. -/
theorem Work.copyResumed {s t : State} (h : Work s t) (hs : s.lineage.span ≠ none) (ht : t.lineage.span = none) :
    Pends .copyResumed t := by
  induction h with
  | refl => exact absurd ht hs
  | raise c _ ih =>
    rw [raise_lineage] at ht
    exact raise_hasCause c (ih ht)
  | @refused t w x _ ih =>
    unfold refusedReport at ht
    split at ht
    · cases ht
    · split at ht <;> simp only [raise_lineage] at ht <;> cases ht
  | @close t hwork ih =>
    by_cases hopen : t.lineage.span = none
    · exact (Work.refl t).close.raises.pends (ih hopen)
    · exact closeSpan_raises hopen
  | engine _ _ _ ih => exact ih ht
  | removeCue _ _ ih => exact ih ht
  | changeCue _ _ _ _ ih => exact ih ht
  | splice _ _ ih => exact ih ht
  | conceal _ _ _ _ ih => exact ih ht
  | emit _ _ _ _ ih => exact ih ht
  | endRecording _ _ ih => exact ih ht

/-- The end of an entry opens no span. -/
theorem endActive_span {s : State} (h : s.lineage.span = none) (o : EntryOutcome) (x : Option Reason) (b : Bool) :
    (endActive o x b s).lineage.span = none := by
  unfold endActive
  split
  next c _ =>
    cases hm : s.engine.arm.mode with
    | execute => exact endEntry_span _ hm
    | rehearse => rw [endEntry_lineage _ hm, h]
  · exact h

/-- The cursor's entry is the engine's own matter. -/
theorem cursorCue_congr {s t : State} (h : t.engine = s.engine) : cursorCue t = cursorCue s := by
  unfold cursorCue findCue
  rw [h]

/-! ## The pins -/

/-- The lines with clear-on-stop lose their queues when the transport becomes STOPPED (R103). -/
def clearedLines (x : Transport) (p : Position) : Position :=
  { p with gpi := p.gpi.map (fun l => if x = .stopped ∧ l.clearOnStop = true then { l with queue := [] } else l) }

theorem clearedLines_eq {x : Transport} (h : x ≠ .stopped) (p : Position) : clearedLines x p = p := by
  have hkeep : (fun l : GpiLine => if x = .stopped ∧ l.clearOnStop = true then { l with queue := [] } else l) = id :=
    funext fun l => if_neg fun hno => h hno.1
  rw [clearedLines, hkeep, Vector.map_id]

theorem clearOnStop_eq (x : Transport) (s : State) :
    (if x = .stopped then clearOnStop s else s) = s.setPosition (clearedLines x s.position) := by
  by_cases h : x = .stopped
  · rw [if_pos h, clearedLines, h]
    simp [clearOnStop]
  · rw [if_neg h, clearedLines_eq h]
    rfl

/-- The part once the transport pins show another level. -/
def moved (x : Transport) (s : State) : State := s.setPins { s.pins with transport := x }

/-! ## The formatter -/

theorem recordingTransport_formatter (s : State) : (recordingTransport s).formatter = { s.formatter with
    state := .idle
    emission := none
    record := if s.formatter.state ≠ .idle ∨ s.formatter.emission.any Emission.isOwn = true
      then { s.formatter.record with endReason := some .transport } else s.formatter.record } := by
  unfold recordingTransport
  by_cases hidle : s.formatter.state = .idle
  · rw [if_neg (not_not.mpr hidle)]
    by_cases hown : s.formatter.emission.any Emission.isOwn = true
    · rw [if_pos hown, if_pos (.inr hown)]
      rfl
    · rw [if_neg hown, if_neg (by simp only [hidle]; tauto), ← hidle]
      rfl
  · rw [if_pos hidle, if_pos (.inl hidle), closeSpan_formatter]
    rfl

/-- The end of a recording closes the open span; without one the guard hears nothing. -/
theorem recordingTransport_lineage (s : State) : (recordingTransport s).lineage = if s.formatter.state ≠ .idle
    then (closeSpan (endRecording .transport (cutShort s))).lineage else s.lineage := by
  unfold recordingTransport
  split
  · rfl
  · split <;> rfl

theorem isOwn_eq : Emission.isOwn = fun e => e.origin != .earlier && e.origin != .splice := by
  funext e
  obtain ⟨_, _, origin⟩ := e
  cases origin <;> rfl

/-! ## Leaving PLAY -/

/-- The part as the edit engine finds it when the transport leaves PLAY. -/
def unlocked (s : State) : State := lockLoss (recordingTransport (emptyBuffer s))

section
variable (s : State)

theorem unlocked_formatter : (unlocked s).formatter = { s.formatter with
    state := .idle
    emission := none
    record := if s.formatter.state ≠ .idle ∨ s.formatter.emission.any Emission.isOwn = true
      then { s.formatter.record with endReason := some .transport } else s.formatter.record } := by
  rw [unlocked, lockLoss_formatter, recordingTransport_formatter, emptyBuffer_formatter]

theorem unlocked_span (h : s.formatter.state ≠ .idle) : (unlocked s).lineage.span = none := by
  rw [unlocked, lockLoss_lineage, recordingTransport_lineage, emptyBuffer_formatter, if_pos h, closeSpan_span]

theorem unlocked_interval : (unlocked s).lineage.interval = none := by
  rw [unlocked, lockLoss_lineage, recordingTransport_lineage]
  split
  · rw [((Work.refl _).close).lineage]
    rfl
  · rfl

theorem unlocked_copyResumed (hs : s.lineage.span ≠ none) (h : (unlocked s).lineage.span = none) :
    Pends .copyResumed (unlocked s) := by
  have hlost (u : State) (hu : Pends .copyResumed u) : Pends .copyResumed (lockLoss u) := (Raises.refl u).lockLoss.pends hu
  refine hlost _ ?_
  rw [unlocked, lockLoss_lineage] at h
  by_cases hidle : s.formatter.state = .idle
  · rw [recordingTransport_lineage, emptyBuffer_formatter, if_neg (not_not.mpr hidle)] at h
    exact absurd h hs
  · rw [recordingTransport, emptyBuffer_formatter, if_pos hidle]
    exact closeSpan_raises hs

theorem unlocked_lockChange (h : s.position.lock ≠ .unlocked) : Pends .lockChange (unlocked s) := by
  rw [Pends, unlocked, lockLoss, hasCause_raiseIf]
  simp [h]

end

/-- What leaving PLAY leaves of the other blocks. -/
theorem unlocked_keeps (s : State) : (unlocked s).pins = s.pins ∧ (unlocked s).sampleCount = s.sampleCount ∧
    (unlocked s).input = { s.input with gathering := none, closed := [] } ∧ (unlocked s).position = s.position.forget ∧
    (unlocked s).output = s.output ∧ (unlocked s).ring = s.ring ∧ (unlocked s).decoder = s.decoder ∧
    (unlocked s).conceal = s.conceal ∧ (unlocked s).gathered = s.gathered ∧ (unlocked s).engine = s.engine ∧
    (unlocked s).query = s.query := by
  simp only [unlocked, lockLoss_pins, lockLoss_sampleCount, lockLoss_input, lockLoss_position, lockLoss_output,
    lockLoss_ring, lockLoss_decoder, lockLoss_conceal, lockLoss_gathered, lockLoss_engine, lockLoss_query,
    recordingTransport_pins, recordingTransport_sampleCount, recordingTransport_input, recordingTransport_position,
    recordingTransport_output, recordingTransport_ring, recordingTransport_decoder, recordingTransport_conceal,
    recordingTransport_gathered, recordingTransport_engine, recordingTransport_query, emptyBuffer_pins,
    emptyBuffer_sampleCount, emptyBuffer_position, emptyBuffer_output, emptyBuffer_ring, emptyBuffer_decoder,
    emptyBuffer_conceal, emptyBuffer_gathered, emptyBuffer_engine, emptyBuffer_query, and_self, and_true, true_and]
  rfl

/-! ## The ACTIVE entry -/

theorem transportAbort_idle {s : State} (h : s.engine.state ≠ .active) : transportAbort s = s := if_neg h

theorem transportAbort_active {s : State} {c : CueEntry} (h : s.engine.state = .active) (hcue : cursorCue s = some c) :
    transportAbort s = endEntry (activeRecord c .aborted (some (transportReason s.engine.run.ending)) (isExecute s) s) s := by
  rw [transportAbort, if_pos h, endActive_eq hcue]

theorem transportAbort_output (s : State) : (transportAbort s).output = s.output := by
  unfold transportAbort; split <;> simp

theorem transportAbort_conceal (s : State) : (transportAbort s).conceal = s.conceal := by
  unfold transportAbort; split <;> simp

theorem transportAbort_span {s : State} (h : s.lineage.span = none) : (transportAbort s).lineage.span = none := by
  unfold transportAbort
  split
  · exact endActive_span h _ _ _
  · exact h

/-- The record of the entry that the transport aborts (R129). -/
theorem transport_record (c : CueEntry) (s : State) :
    activeRecord c .aborted (some (transportReason s.engine.run.ending)) (isExecute s) s =
      { id := c.id, mode := s.engine.arm.mode, outcome := .aborted,
        reason := some (match s.engine.run.ending with
          | some .refusal => .refused
          | some .request => .requested
          | some .complete => .transport
          | none => .transport),
        first := s.engine.run.first, last := s.engine.run.last, framesWritten := s.engine.run.framesWritten,
        degraded := c.degraded, openEnded := decide (s.engine.arm.mode = .execute) } := by
  have hreason : transportReason s.engine.run.ending = (match s.engine.run.ending with
      | some .refusal => .refused
      | some .request => .requested
      | some .complete => .transport
      | none => .transport) := by
    generalize s.engine.run.ending = x
    cases x with
    | none => rfl
    | some x => cases x <;> rfl
  rw [activeRecord, hreason, isExecute]
  rfl

/-- Every other entry of the list carries another id. -/
theorem CueListInv.split_ids {s : State} (h : CueListInv s) {pre post : List CueEntry} {c : CueEntry}
    (hcues : s.engine.cues = pre ++ c :: post) : ∀ d ∈ pre ++ post, d.id ≠ c.id := by
  have hids := h.ids
  rw [hcues, List.pairwise_append] at hids
  obtain ⟨_, hpost, hacross⟩ := hids
  intro d hd
  obtain hd | hd := List.mem_append.mp hd
  · exact hacross d hd c List.mem_cons_self
  · exact ((List.pairwise_cons.mp hpost).1 d hd).symm

theorem exec_transportState {s : State} (hd : s.link.resetDue = false) (x : Transport) :
    exec (.transportState x) s = .next (transportChange x s) := exec_eq_act_of_not_due hd _

/-- Between two states outside PLAY, and into PLAY, the pins and the lines alone change. -/
theorem transportChange_outside {s : State} {x : Transport} (hx : x ≠ s.pins.transport)
    (hplay : s.pins.transport ≠ .play) :
    transportChange x s = (moved x s).setPosition (clearedLines x s.position) := by
  rw [transportChange, if_neg hx]
  dsimp only
  rw [if_neg hplay]
  exact clearOnStop_eq x (moved x s)

theorem transportChange_leaving {s : State} {x : Transport} (hx : x ≠ .play) (hplay : s.pins.transport = .play) :
    transportChange x s = (transportAbort (unlocked (moved x s))).setPosition
      (clearedLines x (transportAbort (unlocked (moved x s))).position) := by
  rw [transportChange, if_neg (by rwa [hplay])]
  dsimp only
  rw [if_pos hplay]
  exact clearOnStop_eq x (transportAbort (unlocked (moved x s)))

/-- Settles O41: leaving PLAY passes from block to block, and the ACTIVE entry last. -/
theorem transportChangesReachEveryBlock : Obligations.TransportChangesReachEveryBlock := by
  unfold Obligations.TransportChangesReachEveryBlock
  intro cleared
  have hcleared : cleared = clearedLines := rfl
  clear_value cleared
  subst hcleared
  refine ⟨fun s x hd => ⟨fun hx => ?_, fun hx hplay => ?_⟩, fun s x hd hplay hx => ?_⟩
  · rw [exec_transportState hd, transportChange, if_pos hx]
  · rw [exec_transportState hd, transportChange_outside hx hplay]
    rfl
  intro own ends
  have hown : own = s.formatter.emission.any Emission.isOwn := by rw [isOwn_eq]
  clear_value own
  subst hown
  obtain ⟨hpins, hcount, hinput, hposition, houtput, hring, hdecoder, hconceal, hgathered, hengine, hquery⟩ :=
    unlocked_keeps (moved x s)
  have hformatter := unlocked_formatter (moved x s)
  have hinterval := unlocked_interval (moved x s)
  have hspan := unlocked_span (moved x s)
  have hresumed := unlocked_copyResumed (moved x s)
  have hlock := unlocked_lockChange (moved x s)
  have hexec := (exec_transportState hd x).trans (congrArg _ (transportChange_leaving hx hplay))
  generalize hv : unlocked (moved x s) = v at *
  have hwork : Work v (transportAbort v) := (Work.refl v).transportAbort
  have hleaves := hwork.leaves
  have hvcue := cursorCue_congr hengine
  have hformatter' := (transportAbort_formatter v).trans hformatter
  have hpends {c : Cause} (h : Pends c v) : Pends c (transportAbort v) := hwork.raises.pends h
  refine ⟨_, hexec, ?_⟩
  refine ⟨hleaves.pins.trans hpins, hleaves.sampleCount.trans hcount, hleaves.input.trans hinput,
    (congrArg (·.interval) hwork.lineage).trans hinterval, ?_, ?_, ?_, ?_, fun he => ?_, fun he => ?_,
    fun hf => transportAbort_span (hspan hf), fun hs ht => ?_, ?_, fun hl => hpends (hlock hl), ?_, ?_, ?_, ?_, ?_,
    fun ha => ?_, fun c ha hc => ?_, fun c pre post hinv ha hcues hcursor => ?_⟩
  · exact congrArg (·.state) hformatter'
  · exact congrArg (·.emission) hformatter'
  · exact congrArg (·.written) hformatter'
  · exact congrArg (·.unconfirmed) hformatter'
  · exact (congrArg (·.record) hformatter').trans (if_pos he)
  · exact (congrArg (·.record) hformatter').trans (if_neg he)
  · by_cases hopen : v.lineage.span = none
    · exact hpends (hresumed hs hopen)
    · exact hwork.copyResumed hopen ht
  · exact congrArg (clearedLines x) (hleaves.position.trans hposition)
  · exact (transportAbort_output v).trans houtput
  · exact hleaves.ring.trans hring
  · exact hleaves.decoder.trans hdecoder
  · exact (transportAbort_conceal v).trans hconceal
  · exact hleaves.gathered.trans hgathered
  · rw [transportAbort_idle (by rw [hengine]; exact ha)]
    exact ⟨hengine, hquery⟩
  · have hactive : v.engine.state = .active := by rw [hengine]; exact ha
    have hended := transportAbort_active hactive (hvcue.trans hc)
    rw [transport_record, hengine] at hended
    rw [hended]
    refine ⟨?_, endEntry_pends _ v, endEntry_log _ v⟩
    obtain ⟨_, _, _, _, he⟩ := endEntry_engine _ v
    rw [State.setPosition_engine, he]
    exact Engine.pointTo_state _ _
  · have hids := hinv.cueList.split_ids hcues
    have hactive : v.engine.state = .active := by rw [hengine]; exact ha
    have hvcues : v.engine.cues = pre ++ c :: post := by rw [hengine]; exact hcues
    have hended := transportAbort_active hactive (cursorCue_of_split hvcues hids (by rw [hengine]; exact hcursor))
    rw [transport_record, hengine] at hended
    rw [hended]
    refine ⟨?_, ?_, fun hmode => ?_⟩
    · rw [State.setPosition_engine, endEntry_ended hvcues hids rfl, hengine]
      rfl
    · rw [State.setPosition_query, endEntry_query, hengine, hquery]
      rfl
    · exact endEntry_span _ (by rw [hengine]; exact hmode)

end Sys2Proof.Machine
end

section
/-! PROOFS. An engine that waits through a tick: the requests handed to it (R114), and the comparison that finds nothing
(R115). -/

namespace Sys2Proof.Machine

/-! ## What a request to the engine leaves -/

/-- The requests handed to the engine move the cursor and pass entries over; they reach neither the formatter, nor the
guard, nor the output unit, nor the concealment unit. -/
structure Requested (s t : State) : Prop where
  work : Work s t
  formatter : t.formatter = s.formatter
  lineage : t.lineage = s.lineage
  output : t.output = s.output
  conceal : t.conceal = s.conceal
  cues : t.engine.cues.Sublist s.engine.cues

theorem Requested.refl (s : State) : Requested s s := ⟨.refl s, rfl, rfl, rfl, rfl, .refl _⟩

theorem Requested.trans {s t u : State} (h : Requested s t) (h' : Requested t u) : Requested s u :=
  ⟨h.work.trans h'.work, h'.formatter.trans h.formatter, h'.lineage.trans h.lineage, h'.output.trans h.output,
    h'.conceal.trans h.conceal, h'.cues.trans h.cues⟩

theorem requested_setEngine (s : State) (e : Engine) (h : e.cues = s.engine.cues) : Requested s (s.setEngine e) :=
  ⟨(Work.refl s).engine e h, rfl, rfl, rfl, rfl, h ▸ .refl _⟩

theorem requested_passOver (s : State) (e : CueEntry) : Requested s (passOver s e) :=
  ⟨(Work.refl s).passOver e, by simp [passOver], by simp [passOver], by simp [passOver], by simp [passOver],
    by rw [passOver_engine]; exact List.filter_sublist⟩

theorem requested_foldl_passOver (es : List CueEntry) (s : State) : Requested s (es.foldl passOver s) := by
  induction es generalizing s with
  | nil => exact .refl s
  | cons e es ih => exact (requested_passOver s e).trans (ih _)

/-- Arming leaves the cursor on the entry it was placed on, over a list that it made no longer. -/
theorem armEngine_pointTo (m : ArmMode) (s : State) : Requested s (armEngine m s) ∧
    ∃ e : Engine, (armEngine m s).engine = e.pointTo (placedCue s) := by
  have htaken : Requested s (s.setEngine (s.engine.takeArm m)) := requested_setEngine s _ rfl
  unfold armEngine
  dsimp only
  split
  · exact ⟨(htaken.trans (requested_foldl_passOver _ _)).trans (requested_setEngine _ _ (Engine.pointTo_cues _ _)), _, rfl⟩
  · exact ⟨htaken.trans (requested_setEngine _ _ (Engine.pointTo_cues _ _)), _, rfl⟩

theorem requested_engineRequest (s : State) (f : GpiFunction) : Requested s (engineRequest s f) := by
  unfold engineRequest
  split
  · split
    · exact .refl s
    · exact (armEngine_pointTo _ s).1
  · exact requested_setEngine s _ rfl
  · exact .refl s
  · exact requested_setEngine s _ rfl
  all_goals exact .refl s

theorem requested_foldl (fs : List GpiFunction) (s : State) : Requested s (fs.foldl engineRequest s) := by
  induction fs generalizing s with
  | nil => exact .refl s
  | cons f fs ih => exact (requested_engineRequest s f).trans (ih _)

/-! ## The engine waits -/

/-- No entry is ACTIVE, and the one under the cursor of an ARMED engine, if there is one, starts after W. -/
structure Waiting (s : State) : Prop where
  notActive : s.engine.state ≠ .active
  later : s.engine.state = .armed → ∀ c ∈ s.engine.cues, s.engine.cursor = .entry c.id →
    s.position.w.toNat < c.startFrame (spf s.input.rate)

/-- The cursor is placed on an entry that starts at W + D or later. -/
theorem placedCue_later {s : State} (hD : 1 ≤ s.decoder.preread) {c : CueEntry} (h : placedCue s = some c) :
    s.position.w.toNat < c.startFrame (spf s.input.rate) := by
  rw [placedCue, head?_dropWhile] at h
  have hahead := List.find?_some h
  simp only [isPassed, Bool.not_eq_true', decide_eq_false_iff_not] at hahead
  omega

theorem pointTo_cursor {e : Engine} {next : Option CueEntry} {id : Nat} (h : (e.pointTo next).cursor = .entry id) :
    ∃ c, next = some c ∧ c.id = id := by
  cases next with
  | some c => exact ⟨c, rfl, Cursor.entry.inj h⟩
  | none =>
    unfold Engine.pointTo Engine.passLast at h
    dsimp only at h
    split at h <;> cases h

theorem Waiting.armEngine {s : State} (hids : s.engine.cues.Pairwise (fun a b => a.id ≠ b.id))
    (hD : 1 ≤ s.decoder.preread) (m : ArmMode) : Waiting (armEngine m s) := by
  obtain ⟨hrequested, e, he⟩ := armEngine_pointTo m s
  have hleaves := hrequested.work.leaves
  refine ⟨by rw [he]; exact Engine.pointTo_state _ _, fun _ c hc hcursor => ?_⟩
  rw [he] at hcursor
  obtain ⟨d, hd, hid⟩ := pointTo_cursor hcursor
  have hmem : d ∈ s.engine.cues := (List.dropWhile_sublist _).subset (placedCue_mem hd)
  obtain rfl := eq_of_id hids hmem (hrequested.cues.subset hc) hid
  rw [hleaves.position, hleaves.input]
  exact placedCue_later hD hd

theorem Waiting.engineRequest {s : State} (h : Waiting s) (hids : s.engine.cues.Pairwise (fun a b => a.id ≠ b.id))
    (hD : 1 ≤ s.decoder.preread) (f : GpiFunction) : Waiting (engineRequest s f) := by
  unfold Machine.engineRequest
  split
  · split
    · exact h
    · exact .armEngine hids hD _
  · exact ⟨nofun, nofun⟩
  · exact h
  next hactive => exact absurd hactive h.notActive
  all_goals exact h

theorem Waiting.foldl {s : State} (h : Waiting s) (hids : s.engine.cues.Pairwise (fun a b => a.id ≠ b.id))
    (hD : 1 ≤ s.decoder.preread) (fs : List GpiFunction) : Waiting (fs.foldl Machine.engineRequest s) := by
  induction fs generalizing s with
  | nil => exact h
  | cons f fs ih =>
    have hrequested := requested_engineRequest s f
    exact ih (h.engineRequest hids hD f) (hids.sublist hrequested.cues) (by rw [hrequested.work.leaves.decoder]; exact hD)

/-- The list from the cursor on begins with the cursor's entry. -/
theorem cuesFromCursor_head {s : State} {c : CueEntry} {rest : List CueEntry} (h : cuesFromCursor s = c :: rest) :
    s.engine.cursor = .entry c.id ∧ c ∈ s.engine.cues := by
  have hmem : c ∈ s.engine.cues := (cuesFromCursor_sublist s).subset (by rw [h]; exact List.mem_cons_self)
  unfold cuesFromCursor at h
  split at h
  next id hcursor =>
    have hhead : (s.engine.cues.dropWhile (fun e => e.id != id)).head? = some c := by rw [h]; rfl
    rw [head?_dropWhile] at hhead
    have hid := List.find?_some hhead
    simp only [bne, Bool.not_not, beq_iff_eq] at hid
    exact ⟨by rw [hcursor, hid], hmem⟩
  all_goals cases h

theorem Waiting.compareEntries {s : State} (h : Waiting s) (harmed : s.engine.state = .armed) : compareEntries (cuesFromCursor s) s = s := by
  cases hlist : cuesFromCursor s with
  | nil => rfl
  | cons c rest =>
    obtain ⟨hcursor, hmem⟩ := cuesFromCursor_head hlist
    rw [Machine.compareEntries]
    exact if_pos (h.later harmed c hmem hcursor)

/-- The tick of an engine that waits is the requests handed to it. -/
theorem Waiting.engineTick {s : State} {fs : List GpiFunction} (h : Waiting (fs.foldl Machine.engineRequest s)) :
    engineTick fs s = fs.foldl Machine.engineRequest s := by
  unfold Machine.engineTick
  dsimp only
  split
  · rfl
  next harmed => exact h.compareEntries harmed
  next hactive => exact absurd hactive h.notActive

theorem waiting_of_disarmed {s : State} (hs : s.engine.state = .disarmed) : Waiting s :=
  ⟨by rw [hs]; nofun, fun harmed => by rw [hs] at harmed; cases harmed⟩

end Sys2Proof.Machine
end

section
/-! PROOFS. The tick at the formatter (O39): the capture frame W − 2, the refused spans, and the frame handed over. -/

namespace Sys2Proof.Machine

/-! ## The refused spans (R141 to R143) -/

/-- The span that a refused report leaves open. -/
def reportedSpan (w : FrameNo) (x : SpanContext) (l : Lineage) : OpenSpan :=
  match l.span with
  | some o => { o with last := w }
  | none => { start := w, last := w, context := x, listed := decide (l.refusals.length < 8) }

/-- The list that a refused report leaves. -/
def reportedList (w : FrameNo) (x : SpanContext) (l : Lineage) : List RefusedEntry :=
  match l.span with
  | some _ => l.refusals
  | none =>
    if l.refusals.length < 8 then l.refusals ++ [{ start := w, stop := none, context := x }] else l.refusals

section
variable (w : FrameNo) (x : SpanContext) (s : State)

theorem refusedReport_span : (refusedReport w x s).lineage.span = some (reportedSpan w x s.lineage) := by
  rw [refusedReport, reportedSpan]
  cases s.lineage.span with
  | some o => rfl
  | none => by_cases hroom : s.lineage.refusals.length < 8 <;> simp [Config.refusalCap, hroom]

theorem refusedReport_refusals : (refusedReport w x s).lineage.refusals = reportedList w x s.lineage := by
  rw [refusedReport, reportedList]
  cases s.lineage.span with
  | some o => rfl
  | none => by_cases hroom : s.lineage.refusals.length < 8 <;> simp [Config.refusalCap, hroom]

/-- A refused report that opens a span raises COPY_REFUSED. -/
theorem refusedReport_pends (h : s.lineage.span = none) : Pends .copyRefused (refusedReport w x s) := by
  unfold refusedReport
  rw [h]
  dsimp only
  split
  · exact raise_hasCause_self _ _
  · exact raise_hasCause _ (raise_hasCause_self _ _)

/-- A span that finds the list full is not listed, and the list is INCOMPLETE. -/
theorem refusedReport_full (h : s.lineage.span = none) (hfull : 8 ≤ s.lineage.refusals.length) :
    (refusedReport w x s).lineage.incomplete = true ∧ Pends .refusalListFull (refusedReport w x s) := by
  unfold refusedReport
  rw [h]
  dsimp only
  rw [if_neg (by exact Nat.not_lt.mpr hfull)]
  exact ⟨by rw [raise_lineage, raise_lineage]; rfl, raise_hasCause_self _ _⟩

end

/-- The list once its open span is closed at this frame. -/
def shutList (listed : Bool) (last : FrameNo) (entries : List RefusedEntry) : List RefusedEntry :=
  if listed then entries.map (fun e => if e.stop = none then { e with stop := some last } else e) else entries

theorem closeSpan_none {s : State} (h : s.lineage.span = none) : closeSpan s = s := by rw [closeSpan, h]

/-- The list once the open span, if there is one, is closed. -/
def closedList (span : Option OpenSpan) (entries : List RefusedEntry) : List RefusedEntry :=
  match span with
  | some o => shutList o.listed o.last entries
  | none => entries

theorem closeSpan_refusals (s : State) :
    (closeSpan s).lineage.refusals = closedList s.lineage.span s.lineage.refusals := by
  rw [closeSpan]
  cases s.lineage.span with
  | none => rfl
  | some o => exact congrArg (·.refusals) (raise_lineage _ _)

/-! ## The capture frame W − 2 (R23) -/

theorem ne_sub_one (w : FrameNo) : ¬ w = w - 1 := by bv_omega

theorem add_one_sub_two (w : FrameNo) : w + 1 - 2 = w - 1 := by bv_omega

/-- The tick closes capture frame W under its ruling, and finds capture frame W − 2 the newest that was closed before. -/
theorem captureFor_ticked {s : State} (h : InputInv s) (low : BitVec 4) :
    (captureFor ((ticked low s).position.w - 2) (ticked low s)).pairs = (nextCapture s).1 ∧
    (captureFor ((ticked low s).position.w - 2) (ticked low s)).ruling = (nextCapture s).2 := by
  have hin : (positioned low s).input = s.input := positioned_input low s
  have hrate := ticked_rate low s
  have hnumber (c : CaptureFrame) (cs : List CaptureFrame) (hc : s.input.closed = c :: cs) : c.number = s.position.w - 1 := by
    have := h.closedNumbers 0 c (by rw [hc]; rfl)
    simpa using this
  have hfind : (ticked low s).input.closed.find? (fun c => c.number == s.position.w - 1) = s.input.closed.head? := by
    rw [ticked_input, captureTick_input]
    cases hg : s.input.gathering with
    | none =>
      rw [closeCapture_none (by rw [hin, hg]), hin, h.noneGathering hg]
      rfl
    | some g =>
      rw [closeCapture_some (g := g) (by rw [hin, hg]), raiseIf_input]
      show ((closingFrame (positioned low s) g :: (positioned low s).input.closed).take 3).find? _ = _
      have hclosing : ((closingFrame (positioned low s) g).number == s.position.w - 1) = false := by
        rw [beq_eq_false_iff_ne]
        show g.number ≠ _
        rw [h.gatheringNumber g hg]
        exact ne_sub_one _
      rw [hin, List.take_succ_cons, List.find?_cons, hclosing]
      cases hc : s.input.closed with
      | nil => rfl
      | cons c cs =>
        rw [List.take_succ_cons, List.find?_cons, beq_iff_eq.mpr (hnumber c cs hc)]
        rfl
  unfold captureFor nextCapture
  rw [ticked_w, add_one_sub_two, hfind]
  generalize ticked low s = u at hrate ⊢
  cases hc : s.input.closed with
  | nil =>
    rw [List.head?_nil, Option.getD_none, standIn, hrate]
    exact ⟨rfl, rfl⟩
  | cons c cs =>
    rw [List.head?_cons, Option.getD_some]
    exact ⟨rfl, rfl⟩

/-! ## The guard and the formatter as the tick finds them -/

theorem closeCapture_spans (s : State) : (closeCapture s).lineage.span = s.lineage.span ∧
    (closeCapture s).lineage.refusals = s.lineage.refusals ∧ (closeCapture s).lineage.action = s.lineage.action := by
  cases hg : s.input.gathering with
  | none => rw [closeCapture_none hg]; exact ⟨rfl, rfl, rfl⟩
  | some g => rw [closeCapture_some hg, raiseIf_lineage]; exact ⟨rfl, rfl, rfl⟩

/-- The input unit's stage leaves the refused spans and the refusal action. -/
theorem captureTick_spans (s : State) : (captureTick s).lineage.span = s.lineage.span ∧
    (captureTick s).lineage.refusals = s.lineage.refusals ∧ (captureTick s).lineage.action = s.lineage.action := by
  rw [captureTick_lineage]
  exact closeCapture_spans s

section
variable (low : BitVec 4) (s : State)

@[simp] theorem ticked_span : (ticked low s).lineage.span = s.lineage.span := by
  rw [ticked_lineage, (captureTick_spans _).1, positioned_lineage]

@[simp] theorem ticked_refusals : (ticked low s).lineage.refusals = s.lineage.refusals := by
  rw [ticked_lineage, (captureTick_spans _).2.1, positioned_lineage]

@[simp] theorem ticked_action : (ticked low s).lineage.action = s.lineage.action := by
  rw [ticked_lineage, (captureTick_spans _).2.2, positioned_lineage]

end

/-! ## The frame handed over -/

theorem reportedSpan_last (w : FrameNo) (x : SpanContext) (l : Lineage) : (reportedSpan w x l).last = w := by
  unfold reportedSpan
  split <;> rfl

theorem reportedSpan_listed (w : FrameNo) (x : SpanContext) (l : Lineage) : (reportedSpan w x l).listed =
    match l.span with
    | some o => o.listed
    | none => decide (l.refusals.length < 8) := by
  unfold reportedSpan
  split <;> rfl

theorem reportedSpan_some {l : Lineage} {o : OpenSpan} (h : l.span = some o) (w : FrameNo) (x : SpanContext) :
    reportedSpan w x l = { o with last := w } := by rw [reportedSpan, h]

theorem reportedSpan_none {l : Lineage} (h : l.span = none) (w : FrameNo) (x : SpanContext) :
    reportedSpan w x l = { start := w, last := w, context := x, listed := decide (l.refusals.length < 8) } := by
  rw [reportedSpan, h]

theorem reportedList_some {l : Lineage} (h : l.span ≠ none) (w : FrameNo) (x : SpanContext) :
    reportedList w x l = l.refusals := by
  obtain ⟨o, ho⟩ := Option.ne_none_iff_exists'.mp h
  rw [reportedList, ho]

theorem reportedList_none {l : Lineage} (h : l.span = none) (w : FrameNo) (x : SpanContext) : reportedList w x l =
    if l.refusals.length < 8 then l.refusals ++ [{ start := w, stop := none, context := x }] else l.refusals := by
  rw [reportedList, h]

section
variable (s : State)

/-- A report of the guard that a span ended at frame W, after a refused report for it. -/
theorem closeSpan_reported {l : Lineage} (w : FrameNo) (x : SpanContext) (hspan : s.lineage.span = some (reportedSpan w x l))
    (hrefusals : s.lineage.refusals = reportedList w x l) : (closeSpan s).lineage.span = none ∧
    (closeSpan s).lineage.refusals = shutList (reportedSpan w x l).listed w (reportedList w x l) ∧
    Pends .copyResumed (closeSpan s) := by
  refine ⟨closeSpan_span s, ?_, closeSpan_raises (by rw [hspan]; nofun)⟩
  rw [closeSpan_refusals, hspan, hrefusals]
  show shutList _ (reportedSpan w x l).last _ = _
  rw [reportedSpan_last]

theorem finishStopping_formatter : (finishStopping s).formatter = { s.formatter with
    state := if s.formatter.state = .stopping then .idle else s.formatter.state
    record := if s.formatter.state = .stopping then { s.formatter.record with endReason := some .stopped }
      else s.formatter.record } := by
  unfold finishStopping
  split
  · rw [closeSpan_formatter]
    rfl
  · rfl

theorem finishStopping_stopping (h : s.formatter.state = .stopping) :
    finishStopping s = closeSpan (endRecording .stopped s) := if_pos h

theorem finishStopping_other (h : s.formatter.state ≠ .stopping) : finishStopping s = s := if_neg h

/-- The frame that a plain recording hands over. -/
def recordEmission (silenced : Bool) (pairs : List Pair) (r : Subcode) : Emission :=
  { number := r.number, blocks := codeFrame pairs r, origin := .recording silenced }

theorem emit_formatter (silenced : Bool) (pairs : List Pair) (r : Subcode) :
    (emit (.recording silenced) pairs r s).formatter =
      { s.formatter with emission := some (recordEmission silenced pairs r) } := rfl

end

/-! ### PERMIT -/

section
variable {u : State} {mark : Mark} (hr : (captureFor (u.position.w - 2) u).ruling = .permit mark)
include hr

theorem recordFrame_permit : recordFrame u = finishStopping (closeSpan (emit (.recording false)
    (captureFor (u.position.w - 2) u).pairs (plainSubcode u mark false) u)) := by
  rw [recordFrame, hr]

theorem recordFrame_permit_formatter : (recordFrame u).formatter = { u.formatter with
    emission := some (recordEmission false (captureFor (u.position.w - 2) u).pairs (plainSubcode u mark false))
    state := if u.formatter.state = .stopping then .idle else u.formatter.state
    record := if u.formatter.state = .stopping then { u.formatter.record with endReason := some .stopped }
      else u.formatter.record } := by
  rw [recordFrame_permit hr, finishStopping_formatter, closeSpan_formatter, emit_formatter]

theorem recordFrame_permit_spans : (recordFrame u).lineage.span = none ∧ (recordFrame u).lineage.refusals =
    closedList u.lineage.span u.lineage.refusals := by
  have hclosed := closeSpan_refusals (emit (.recording false) (captureFor (u.position.w - 2) u).pairs
    (plainSubcode u mark false) u)
  have hspan := closeSpan_span (emit (.recording false) (captureFor (u.position.w - 2) u).pairs
    (plainSubcode u mark false) u)
  rw [emit_lineage] at hclosed
  rw [recordFrame_permit hr, ← hclosed]
  generalize closeSpan (emit (.recording false) (captureFor (u.position.w - 2) u).pairs
    (plainSubcode u mark false) u) = v at hspan
  by_cases hs : v.formatter.state = .stopping
  · rw [finishStopping_stopping v hs, closeSpan_none (by exact hspan)]
    exact ⟨hspan, rfl⟩
  · rw [finishStopping_other v hs]
    exact ⟨hspan, rfl⟩

end

/-! ### REFUSE with SILENCE -/

section
variable {u : State} (hr : (captureFor (u.position.w - 2) u).ruling = .refuse) (ha : u.lineage.action = .silence)
include hr ha

theorem recordFrame_silence : recordFrame u = finishStopping (refusedReport u.position.w .record (emit (.recording true)
    (silence (spf u.input.rate)) (plainSubcode u .never true) u)) := by
  rw [recordFrame, hr, ha]

theorem recordFrame_silence_formatter : (recordFrame u).formatter = { u.formatter with
    emission := some (recordEmission true (silence (spf u.input.rate)) (plainSubcode u .never true))
    state := if u.formatter.state = .stopping then .idle else u.formatter.state
    record := if u.formatter.state = .stopping then { u.formatter.record with endReason := some .stopped }
      else u.formatter.record } := by
  rw [recordFrame_silence hr ha, finishStopping_formatter, refusedReport_formatter, emit_formatter]

/-- In RECORDING the refused span stays open. -/
theorem recordFrame_silence_open (hs : u.formatter.state ≠ .stopping) :
    (recordFrame u).lineage.span = some (reportedSpan u.position.w .record u.lineage) ∧
    (recordFrame u).lineage.refusals = reportedList u.position.w .record u.lineage := by
  rw [recordFrame_silence hr ha, finishStopping_other _ (by rw [refusedReport_formatter]; exact hs)]
  exact ⟨refusedReport_span _ _ _, refusedReport_refusals _ _ _⟩

/-- In STOPPING the end of the recording closes it. -/
theorem recordFrame_silence_shut (hs : u.formatter.state = .stopping) : (recordFrame u).lineage.span = none ∧
    (recordFrame u).lineage.refusals = shutList (reportedSpan u.position.w .record u.lineage).listed u.position.w
      (reportedList u.position.w .record u.lineage) ∧ Pends .copyResumed (recordFrame u) := by
  rw [recordFrame_silence hr ha, finishStopping_stopping _ (by rw [refusedReport_formatter]; exact hs)]
  exact closeSpan_reported _ u.position.w .record (refusedReport_span _ _ _) (refusedReport_refusals _ _ _)

end

/-! ### REFUSE with HALT -/

section
variable {u : State} (hr : (captureFor (u.position.w - 2) u).ruling = .refuse) (ha : u.lineage.action = .halt)
include hr ha

theorem recordFrame_halt : recordFrame u =
    closeSpan (refusedReport u.position.w .record (endRecording .refused u)) := by
  rw [recordFrame, hr, ha]

theorem recordFrame_halt_formatter : (recordFrame u).formatter = { u.formatter with
    state := .idle, record := { u.formatter.record with endReason := some .refused } } := by
  rw [recordFrame_halt hr ha, closeSpan_formatter, refusedReport_formatter]
  rfl

theorem recordFrame_halt_shut : (recordFrame u).lineage.span = none ∧
    (recordFrame u).lineage.refusals = shutList (reportedSpan u.position.w .record u.lineage).listed u.position.w
      (reportedList u.position.w .record u.lineage) ∧ Pends .copyResumed (recordFrame u) := by
  rw [recordFrame_halt hr ha]
  exact closeSpan_reported _ u.position.w .record (refusedReport_span _ _ _) (refusedReport_refusals _ _ _)

end

/-- A refused frame that opens a span raises COPY_REFUSED, and finds the list full or not. -/
theorem recordFrame_refused {u : State} (hr : (captureFor (u.position.w - 2) u).ruling = .refuse)
    (hspan : u.lineage.span = none) : Pends .copyRefused (recordFrame u) ∧ (8 ≤ u.lineage.refusals.length →
      (recordFrame u).lineage.incomplete = true ∧ Pends .refusalListFull (recordFrame u)) := by
  have hcarry (v t : State) (hv : v.lineage = u.lineage) (hwork : Work (refusedReport u.position.w .record v) t)
      (hinc : t.lineage.incomplete = (refusedReport u.position.w .record v).lineage.incomplete) :
      Pends .copyRefused t ∧ (8 ≤ u.lineage.refusals.length → t.lineage.incomplete = true ∧ Pends .refusalListFull t) := by
    rw [← hv] at hspan ⊢
    refine ⟨hwork.raises.pends (refusedReport_pends _ _ _ hspan), fun hfull => ?_⟩
    obtain ⟨hi, hp⟩ := refusedReport_full u.position.w .record v hspan hfull
    exact ⟨hinc.trans hi, hwork.raises.pends hp⟩
  have hclose (v : State) : (closeSpan v).lineage.incomplete = v.lineage.incomplete := by
    unfold closeSpan
    split
    · rfl
    · rw [raise_lineage]
      rfl
  cases ha : u.lineage.action with
  | silence =>
    rw [recordFrame_silence hr ha]
    refine hcarry _ _ (emit_lineage _ _ _ _) (Work.refl _).finishStopping ?_
    unfold finishStopping
    split
    · exact hclose _
    · rfl
  | halt =>
    rw [recordFrame_halt hr ha]
    exact hcarry (endRecording .refused u) _ rfl (Work.refl _).close (hclose _)

end Sys2Proof.Machine
end

section
/-! PROOFS. FRAME_TICK while RECORDING or STOPPING (O39). -/

namespace Sys2Proof.Machine

/-! ## The frame still in emission counts as written first (log 16) -/

theorem frameWritten_emission (s : State) : (frameWritten s).formatter.emission = none := by
  cases he : s.formatter.emission with
  | none => rw [frameWritten_none he, he]
  | some e => rw [frameWritten_formatter he, finish_eq]

theorem Raises.resetDue {s t : State} (h : Raises s t) : t.link.resetDue = s.link.resetDue :=
  h.keeps (P := fun u => u.link.resetDue = s.link.resetDue) (fun _ _ _ hl hu => by rw [hl]; exact hu)
    (fun c _ hu => by rw [raise_link_resetDue]; exact hu) rfl

theorem tickInPlay_frameWritten (low : BitVec 4) (s : State) : tickInPlay low (frameWritten s) = tickInPlay low s := by
  rw [tickInPlay_eq, frameWritten_none (frameWritten_emission s), ← tickInPlay_eq]

/-! ## The tick of an engine that is DISARMED -/

/-- What a tick leaves of the blocks that an engine cannot reach while it waits. -/
theorem tickInPlay_waiting {s : State} (low : BitVec 4)
    (hids : s.engine.cues.Pairwise (fun a b => a.id ≠ b.id)) (hD : 1 ≤ s.decoder.preread) (hw : Waiting (recorded low s)) :
    Requested (recorded low s) (spliced low s) ∧ Waiting (spliced low s) := by
  have hcues : (recorded low s).engine.cues = s.engine.cues := by rw [recorded, formatterTick_engine, ticked_engine]
  have hdecoder : (recorded low s).decoder = s.decoder := by rw [recorded, formatterTick_decoder, ticked_decoder]
  have hfold := hw.foldl (by rw [hcues]; exact hids) (by rw [hdecoder]; exact hD) (handedRequests s)
  rw [spliced, hfold.engineTick]
  exact ⟨requested_foldl _ _, hfold⟩

theorem recorded_eq (low : BitVec 4) {s : State} (h : s.formatter.state ≠ .idle) :
    recorded low s = recordFrame (ticked low s) := by
  rw [recorded, formatterTick, ticked_formatter]
  cases hs : s.formatter.state with
  | idle => exact absurd hs h
  | recording => rfl
  | stopping => rfl

theorem plainSubcode_ticked (low : BitVec 4) (s : State) (mark : Mark) (refused : Bool) :
    plainSubcode (ticked low s) mark refused =
      { number := s.position.w + 1, program := s.formatter.record.program, take := s.formatter.record.take, mark := mark,
        rate := s.input.rate, kind := .normal, refused := refused } := by
  rw [plainSubcode, ticked_w, ticked_formatter, ticked_rate]

/-- The refused spans look at the span and the list alone. -/
theorem reported_congr {l m : Lineage} (hspan : l.span = m.span) (hrefusals : l.refusals = m.refusals) (w : FrameNo)
    (x : SpanContext) : reportedSpan w x l = reportedSpan w x m ∧ reportedList w x l = reportedList w x m := by
  unfold reportedSpan reportedList
  rw [hspan, hrefusals]
  exact ⟨rfl, rfl⟩

/-- Settles O39: by the ruling on capture frame W − 2 and the refusal action, with the engine waiting. -/
theorem tickWritesTheRecordedFrame : Obligations.TickWritesTheRecordedFrame := by
  unfold Obligations.TickWritesTheRecordedFrame
  refine ⟨fun s u low hd hplay hu => ?_, fun s low hd hplay hinput hcues hD hengine hemission hformatter => ?_⟩
  · have hexec : exec .frameWritten s = .next (frameWritten s) := exec_eq_act_of_not_due hd _
    rw [hexec] at hu
    obtain rfl : frameWritten s = u := by injection hu
    have hraises : Raises s (frameWritten s) := (Raises.refl s).frameWritten
    rw [exec_frameTick hd hplay, exec_frameTick (hraises.resetDue.trans hd) (by rw [frameWritten_pins]; exact hplay),
      tickInPlay_frameWritten]
  intro w n capture subcode ended shut room entered listed
  have hcapture : capture = nextCapture s := rfl
  have hshut : shut = shutList := rfl
  have hentered : entered = reportedList w .record s.lineage := rfl
  have hlisted : listed = (reportedSpan w .record s.lineage).listed := (reportedSpan_listed w .record s.lineage).symm
  have hsubcode (mark : Mark) (refused : Bool) : plainSubcode (ticked low s) mark refused = subcode mark refused :=
    plainSubcode_ticked low s mark refused
  obtain ⟨hpairs, hruling⟩ := captureFor_ticked hinput low
  have hrec := recorded_eq low hformatter
  have hwaiting : Waiting (recorded low s) :=
    waiting_of_disarmed (by rw [recorded, formatterTick_engine, ticked_engine]; exact hengine)
  obtain ⟨hrequested, _⟩ := tickInPlay_waiting low hcues.ids hD hwaiting
  have hexec := exec_frameTick hd hplay low
  have htick := tickInPlay_of_no_emission hemission low
  have hresumed := (spliced_work low s).copyResumed
  rw [ticked_span] at hresumed
  rw [hrec] at hrequested
  have hwork := (Work.refl (ticked low s)).recordFrame.leaves
  have hw := ticked_w low s
  have hf := ticked_formatter low s
  have hn := ticked_rate low s
  have hspan := ticked_span low s
  have hrefusals := ticked_refusals low s
  have haction := ticked_action low s
  obtain ⟨hopened, hlist⟩ := reported_congr hspan hrefusals w .record
  clear_value capture shut entered listed
  subst hcapture hshut hentered hlisted
  have hpends {c : Cause} (h : Pends c (recordFrame (ticked low s))) : Pends c (spliced low s) :=
    hrequested.work.raises.pends h
  generalize tickInPlay low s = t at hexec htick
  subst htick
  generalize spliced low s = v at *
  generalize ticked low s = u at *
  obtain ⟨_, hvformatter, hvlineage, _, _, _⟩ := hrequested
  have hstopping : (if s.formatter.state = .stopping then FormatterState.idle else s.formatter.state) =
      (if s.formatter.state = .recording then .recording else .idle) := by
    cases hs : s.formatter.state <;> simp_all
  have hrecord : (if s.formatter.state = .stopping then { s.formatter.record with endReason := some .stopped }
      else s.formatter.record) = (if s.formatter.state = .recording then s.formatter.record
      else { s.formatter.record with endReason := some .stopped }) := by
    cases hs : s.formatter.state <;> simp_all
  refine ⟨_, hexec, ?_, ?_, fun mark hr => ?_, fun hr ha => ?_, fun hr ha => ?_, fun hno => ?_, fun hr hs => ?_,
    fun ht hs => hresumed hs ht⟩
  · show v.formatter.written = _
    rw [hvformatter, hwork.written, hf]
  · show v.formatter.unconfirmed = _
    rw [hvformatter, hwork.unconfirmed, hf]
  · have hur := hruling.trans hr
    obtain ⟨hclosed, hshut⟩ := recordFrame_permit_spans hur
    refine ⟨?_, ?_, ?_⟩
    · show v.formatter.emission = _
      rw [hvformatter, recordFrame_permit_formatter hur, hpairs, hsubcode]
      rfl
    · show v.lineage.span = _
      rw [hvlineage, hclosed]
    · show v.lineage.refusals = _
      rw [hvlineage, hshut, hspan, hrefusals]
      rfl
  · have hur := hruling.trans hr
    have hua := haction.trans ha
    refine ⟨?_, fun hs => ?_, fun hs => ?_⟩
    · show v.formatter.emission = _
      rw [hvformatter, recordFrame_silence_formatter hur hua, hn, hsubcode]
      rfl
    · obtain ⟨hopen, hentries⟩ := recordFrame_silence_open hur hua (by rw [hf, hs]; nofun)
      rw [hw, hopened] at hopen
      rw [hw, hlist] at hentries
      refine ⟨reportedSpan w .record s.lineage, ?_, reportedSpan_last _ _ _, fun o ho => reportedSpan_some ho _ _,
        fun hno => ?_, fun hsome => ?_⟩
      · show v.lineage.span = _
        rw [hvlineage, hopen]
      · rw [reportedSpan_none hno]
        refine ⟨rfl, rfl, rfl, ?_⟩
        show v.lineage.refusals = _
        rw [hvlineage, hentries, reportedList_none hno]
      · show v.lineage.refusals = _
        rw [hvlineage, hentries, reportedList_some hsome]
    · obtain ⟨hclosed, hentries, hcause⟩ := recordFrame_silence_shut hur hua (by rw [hf, hs])
      rw [hw, hopened, hlist] at hentries
      refine ⟨?_, ?_, hpends hcause⟩
      · show v.lineage.span = _
        rw [hvlineage, hclosed]
      · show v.lineage.refusals = _
        rw [hvlineage, hentries]
  · have hur := hruling.trans hr
    have hua := haction.trans ha
    obtain ⟨hclosed, hentries, hcause⟩ := recordFrame_halt_shut hur hua
    rw [hw, hopened, hlist] at hentries
    have hhalt := hvformatter.trans (recordFrame_halt_formatter hur hua)
    rw [hf] at hhalt
    refine ⟨?_, congrArg (·.state) hhalt, congrArg (·.record) hhalt, ?_, ?_, hpends hcause⟩
    · exact (congrArg (·.emission) hhalt).trans hemission
    · show v.lineage.span = _
      rw [hvlineage, hclosed]
    · show v.lineage.refusals = _
      rw [hvlineage, hentries]
  · have hkept : v.formatter.state = (if s.formatter.state = .stopping then .idle else s.formatter.state) ∧
        v.formatter.record = (if s.formatter.state = .stopping then { s.formatter.record with endReason := some .stopped }
          else s.formatter.record) := by
      rw [hvformatter]
      cases hr : (nextCapture s).2 with
      | permit mark =>
        rw [recordFrame_permit_formatter (hruling.trans hr), hf]
        exact ⟨rfl, rfl⟩
      | refuse =>
        cases ha : s.lineage.action with
        | silence =>
          rw [recordFrame_silence_formatter (hruling.trans hr) (haction.trans ha), hf]
          exact ⟨rfl, rfl⟩
        | halt => exact absurd ⟨hr, ha⟩ hno
    exact ⟨hkept.1.trans hstopping, hkept.2.trans hrecord⟩
  · obtain ⟨hrefused, hfull⟩ := recordFrame_refused (hruling.trans hr) (hspan.trans hs)
    rw [hrefusals] at hfull
    refine ⟨hpends hrefused, fun hcap => ⟨?_, hpends (hfull hcap).2⟩⟩
    show v.lineage.incomplete = _
    rw [hvlineage, (hfull hcap).1]

end Sys2Proof.Machine
end

section
/-! PROOFS. The GPI lines and the edit engine (O52). -/

namespace Sys2Proof.Machine

/-! ## A falling edge (R99, R100) -/

theorem exec_gpiFallingEdge {s : State} (hd : s.link.resetDue = false) (i : Fin 4) :
    exec (.gpiFallingEdge i) s = .next (fallingEdge i s) := exec_eq_act_of_not_due hd _

theorem join_eq (l : GpiLine) (r : GpiRequest) : l.join r = { l with
    queue := (if l.depth ≤ l.queue.length then l.queue.dropLast else l.queue) ++ [r]
    overwrite := l.overwrite || decide (l.depth ≤ l.queue.length) } := by
  unfold GpiLine.join GpiLine.isFull
  by_cases hfull : l.depth ≤ l.queue.length <;> simp [hfull]

theorem samplePosition_div (s : State) : samplePosition s / spf s.input.rate = s.position.w.toNat := by
  have hpos := spf_pos s.input.rate
  have hlt : min s.sampleCount (spf s.input.rate - 1) < spf s.input.rate := by omega
  rw [samplePosition, Nat.add_comm, Nat.add_mul_div_right _ _ hpos, Nat.div_eq_of_lt hlt, Nat.zero_add]

/-! ## What a tick hands to the engine (R101, R114) -/

theorem handedRequests_eq (s : State) : handedRequests s = ([0, 1, 2, 3] : List (Fin 4)).flatMap (fun i =>
    if s.position.gpi[i].function = .arm ∨ s.position.gpi[i].function = .abort
    then s.position.gpi[i].queue.map (fun _ => s.position.gpi[i].function) else []) := by
  simp only [handedRequests, gpiLines, isHanded_iff]

/-- ABORT requests leave a DISARMED engine. -/
theorem foldl_abort_disarmed {fs : List GpiFunction} (h : ∀ f ∈ fs, f = .abort) {s : State} (hs : s.engine.state = .disarmed) :
    fs.foldl engineRequest s = s := by
  induction fs with
  | nil => rfl
  | cons f fs ih =>
    have hf : engineRequest s f = s := by
      rw [h f List.mem_cons_self]
      unfold engineRequest
      rw [hs]
    rw [List.foldl_cons, hf]
    exact ih fun x hx => h x (List.mem_cons_of_mem _ hx)

theorem engineRequest_arm_armed {s : State} (hs : s.engine.state = .armed) : engineRequest s .arm = disarm s := by
  unfold engineRequest
  rw [hs]

theorem engineRequest_arm_disarmed {s : State} (hs : s.engine.state = .disarmed) : engineRequest s .arm =
    if armBlocked s || armRefused s.engine.arm s then s else armEngine s.engine.arm s := by
  unfold engineRequest
  rw [hs]

/-- An ARM request finds the engine's own grounds for turning it away. -/
theorem arm_turnedAway_iff {s : State} (hs : s.engine.state = .disarmed) :
    (armBlocked s || armRefused s.engine.arm s) = true ↔ s.formatter.state ≠ .idle ∨ s.engine.cues = [] ∨
      (s.engine.arm.mode = .execute ∧ s.input.source = .digital ∧ s.lineage.cls = .consumer .never) := by
  rw [Bool.or_eq_true, armBlocked_iff, armRefused_iff]
  simp only [hs, ne_eq, not_true_eq_false, false_or, or_assoc]

/-- The part as the engine's tick finds it, in the engine's own terms. -/
theorem recorded_keeps (low : BitVec 4) (s : State) : (recorded low s).engine = s.engine ∧
    (recorded low s).position.w = s.position.w + 1 ∧ (recorded low s).position.lock = s.position.lock ∧
    (recorded low s).position.age = ageAfter s.position ∧ (recorded low s).input.rate = s.input.rate ∧
    (recorded low s).decoder = s.decoder := by
  simp only [recorded, formatterTick_engine, formatterTick_position, formatterTick_input, formatterTick_decoder,
    ticked_engine, ticked_w, ticked_lock, ticked_age, ticked_rate, ticked_decoder, and_self]

theorem captureTick_source (s : State) : (captureTick s).input.source = s.input.source := by
  rw [captureTick_input]
  cases hg : s.input.gathering with
  | none => rw [closeCapture_none hg]
  | some g => exact congrArg (·.source) ((congrArg (·.input) (closeCapture_some hg)).trans (raiseIf_input _ _ _))

theorem recorded_source (low : BitVec 4) (s : State) : (recorded low s).input.source = s.input.source := by
  rw [recorded, formatterTick_input, ticked_input, captureTick_source, positioned_input]

theorem isPassed_recorded (low : BitVec 4) (s : State) : isPassed (recorded low s) =
    fun c => decide (c.startFrame (spf s.input.rate) < (s.position.w + 1).toNat + s.decoder.preread) := by
  obtain ⟨_, hw, _, _, hrate, hdecoder⟩ := recorded_keeps low s
  funext c
  rw [isPassed, hw, hrate, hdecoder]

/-- No query is HELD behind an id that a release names. -/
theorem releaseAll_not_held {ids : List Nat} {id : Nat} (h : id ∈ ids) (q : QueryEntry) :
    (q.releaseAll ids).state ≠ .held id := by
  intro hheld
  unfold QueryEntry.releaseAll at hheld
  split at hheld
  next x hx =>
    split at hheld
    · cases hheld
    next hno =>
      rw [hx] at hheld
      exact hno (QueryState.held.inj hheld ▸ h)
  next hx => rw [hx] at hheld; cases hheld
  next hx => rw [hx] at hheld; cases hheld

/-- The engine placed by an ARM request under its last mode. -/
theorem placed_eq (e : Engine) (hloop : e.arm.loop = true → e.arm.mode = .rehearse) (ahead : List CueEntry) :
    e.placed e.arm ahead = { e with
      pendingAbort := false
      run := EntryRun.empty
      state := if ahead = [] ∧ ¬(e.arm.mode = .rehearse ∧ e.arm.loop = true) then .disarmed else .armed
      cursor := match ahead with
        | c :: _ => .entry c.id
        | [] => if e.arm.mode = .rehearse ∧ e.arm.loop = true then .passed else .absent } := by
  have hwaits : (e.arm.mode = .rehearse ∧ e.arm.loop = true) ↔ e.arm.loop = true := ⟨And.right, fun h => ⟨hloop h, h⟩⟩
  cases ahead <;> simp [Engine.placed, hwaits]

/-- Settles O52: the falling edge at its line, and the ARM and ABORT requests at an engine that is not ACTIVE. -/
theorem fallingEdgeMakesARequest : Obligations.FallingEdgeMakesARequest := by
  unfold Obligations.FallingEdgeMakesARequest
  refine ⟨fun s i hd => ?_, fun s low hd hplay hinv hD hemission hmade => ?_⟩
  · intro l request full
    have hrequest : request = { position := samplePosition s, lock := s.position.lock } := rfl
    refine ⟨fun hoff => ?_, fun hon hedge => ?_⟩
    · rw [exec_gpiFallingEdge hd, fallingEdge]
      refine congrArg _ (if_neg ?_)
      rintro ⟨hne, hedge⟩
      obtain hoff | hlevel := hoff
      · exact hne hoff
      · exact absurd (hlevel.symm.trans hedge) nofun
    · have hedged : fallingEdge i s = gpiRequest i s := if_pos ⟨hon, hedge⟩
      refine ⟨gpiRequest i s, by rw [exec_gpiFallingEdge hd, hedged], ?_, fun hmark => ?_, fun hfull => ?_,
        fun hno hroom => ?_, gpiRequest_engine i s, gpiRequest_formatter i s, gpiRequest_input i s, ?_⟩
      · rw [gpiRequest_position, join_eq]
        rfl
      · rw [gpiRequest, hasCause_raiseIf, hasCause_raiseIf, show (s.position.gpi[i].function == .mark) = true from
          beq_iff_eq.mpr hmark]
        simp
      · rw [gpiRequest, hasCause_raiseIf, show s.position.gpi[i].isFull = true from decide_eq_true hfull]
        simp
      · rw [gpiRequest, show s.position.gpi[i].isFull = false from decide_eq_false hroom,
          show (s.position.gpi[i].function == .mark) = false from beq_eq_false_iff_ne.mpr hno]
        exact ⟨rfl, rfl⟩
      · rw [hrequest]
        exact samplePosition_div s
  intro handed mode limit passed ahead waits record placed
  have hhanded : handedRequests s = handed := handedRequests_eq s
  obtain ⟨hengine, _, _, _, hrate, hdecoder⟩ := recorded_keeps low s
  have hsource := recorded_source low s
  have hexec := exec_frameTick hd hplay low
  rw [tickInPlay_of_no_emission hemission low, spliced, hhanded] at hexec
  have hpassed := isPassed_recorded low s
  have hpassedCues : passedCues (recorded low s) = passed := by rw [passedCues, hpassed, hengine]
  have haheadCues : (recorded low s).engine.cues.dropWhile (isPassed (recorded low s)) = ahead := by rw [hpassed, hengine]
  have hwaitingDisarmed (hs : s.engine.state = .disarmed) : Waiting (recorded low s) :=
    waiting_of_disarmed (by rw [hengine]; exact hs)
  have hplaced : s.engine.placed s.engine.arm ahead = placed := placed_eq s.engine hinv.loop ahead
  have hids : (recorded low s).engine.cues.Pairwise (fun a b => a.id ≠ b.id) := by rw [hengine]; exact hinv.cueList.ids
  have hone : 1 ≤ (recorded low s).decoder.preread := by rw [hdecoder]; exact hD
  clear_value handed passed ahead placed
  subst hhanded
  generalize recorded low s = r at *
  refine ⟨_, hexec, fun hone harmed => ?_, fun hone hdisarmed => ?_, fun habort hdisarmed => ?_⟩
  · rw [State.setOutput_engine, hone]
    unfold engineTick
    rw [List.foldl_cons, List.foldl_nil, engineRequest_arm_armed (by rw [hengine]; exact harmed)]
    show (disarm r).engine = _
    rw [disarm, State.setEngine_engine, hengine]
  · have hrstate : r.engine.state = .disarmed := by rw [hengine]; exact hdisarmed
    have hrwaits := hwaitingDisarmed hdisarmed
    have htick : engineTick [.arm] r = engineRequest r .arm := (hrwaits.foldl hids ‹_› [.arm]).engineTick
    rw [hone, htick]
    have hrequested := requested_engineRequest r .arm
    rw [engineRequest_arm_disarmed hrstate] at hrequested ⊢
    intro turnedAway
    have haway : (armBlocked r || armRefused r.engine.arm r) = true ↔ turnedAway := by
      rw [arm_turnedAway_iff hrstate, hengine, hsource, ← hrequested.formatter, ← hrequested.lineage]
      rfl
    refine ⟨fun hturned => ?_, fun htaken hmode => ?_, fun htaken hmode => ?_⟩
    · rw [if_pos (haway.mpr hturned)]
      exact hengine
    · rw [if_neg (htaken ∘ haway.mp), armEngine_rehearse (by rw [hengine]; exact hmode)]
      show r.engine.placed { mode := .rehearse, loop := r.engine.arm.loop } _ = _
      rw [haheadCues, hengine, ← hplaced, show ({ mode := .rehearse, loop := s.engine.arm.loop } : ArmMode) = s.engine.arm
        from by rw [← show s.engine.arm.mode = .rehearse from hmode]]
    · have hexecute : r.engine.arm.mode = .execute := by rw [hengine]; exact hmode
      have hloop : s.engine.arm = { mode := .execute, loop := false } := by
        have hno : s.engine.arm.loop = false := Bool.eq_false_iff.mpr fun hl =>
          absurd ((hinv.loop hl).symm.trans hmode) nofun
        rw [← show s.engine.arm.mode = .execute from hmode, ← hno]
      obtain ⟨hquery, hcause, _⟩ := armEngine_execute_keeps hexecute r
      rw [if_neg (htaken ∘ haway.mp)]
      refine ⟨?_, fun hne => hcause (by rw [hpassedCues]; exact hne), fun c hc q hq => ?_⟩
      · show (armEngine r.engine.arm r).engine = _
        rw [armEngine_execute hexecute hids (by rw [hengine]; exact hmade), haheadCues, hpassedCues, hengine, ← hplaced,
          hloop]
        rfl
      · have hq : q ∈ (armEngine r.engine.arm r).query.entries := hq
        rw [hquery, hpassedCues] at hq
        obtain ⟨q, _, rfl⟩ := List.mem_map.mp hq
        exact releaseAll_not_held (List.mem_map_of_mem hc) q
  · have hrstate : r.engine.state = .disarmed := by rw [hengine]; exact hdisarmed
    rw [State.setOutput_engine]
    unfold engineTick
    rw [foldl_abort_disarmed habort hrstate]
    dsimp only
    rw [hrstate]
    exact hengine

end Sys2Proof.Machine
end

section
/-! PROOFS. Splice frames (7.4): the old side, the frame produced from input or as an emergency fade, and its hand-over. -/

namespace Sys2Proof.Machine

/-! ## The old side (R85, R119) -/

/-- Fetching the old side reaches the concealment unit, and raises causes. -/
structure Fetched (s t : State) : Prop where
  work : Work s t
  engine : t.engine = s.engine
  formatter : t.formatter = s.formatter
  lineage : t.lineage = s.lineage
  output : t.output = s.output
  query : t.query = s.query

theorem Fetched.refl (s : State) : Fetched s s := ⟨.refl s, rfl, rfl, rfl, rfl, rfl⟩

theorem fetchOld_fetched (s : State) : Fetched s (fetchOld s).1 := by
  refine ⟨(Work.refl s).fetchOld, ?_, ?_, ?_, ?_, ?_⟩ <;> unfold fetchOld <;> split <;> simp [concealInto]

/-- The old side of frame W, as the ring or the concealment unit gives it. -/
theorem fetchOld_view (s : State) : (fetchOld s).2.pairs = (oldView s.position.w s).pairs ∧
    (fetchOld s).2.flags = (oldView s.position.w s).flags ∧ (fetchOld s).2.mark = (oldView s.position.w s).mark ∧
    (fetchOld s).1.conceal = (oldView s.position.w s).conceal := by
  unfold fetchOld oldView
  cases s.ring.find? (fun e => e.number == s.position.w) with
  | some e => exact ⟨rfl, rfl, rfl, rfl⟩
  | none => exact ⟨rfl, rfl, rfl, by simp [concealInto]⟩

theorem degradedSamples_eq (o : OldView) (takes : Nat → Bool) (n : Nat) :
    degradedSamples takes n o.flags = o.reduced n takes := by
  unfold degradedSamples OldView.reduced flagCount
  simp only [List.getD_eq_getElem?_getD]

/-! ## Hand-over (R46, R124) -/

section
variable (f : SpliceFrame) (e : CueEntry) (s : State)

theorem handOn_engine : (handOn f e s).engine =
    { s.engine with run := s.engine.run.produced s.position.w (isExecute s) f } := by
  unfold handOn
  dsimp only
  split <;> rfl

theorem handOn_formatter : (handOn f e s).formatter = if isExecute s then { s.formatter with
      emission := some { number := s.position.w, blocks := codeFrame f.pairs (spliceSubcode f e s), origin := .splice } }
    else s.formatter := by
  unfold handOn
  dsimp only
  split <;> rfl

theorem handOn_output : (handOn f e s).output = { s.output with
    fresh := { s.output.fresh with splice := some { pairs := f.pairs, mark := f.mark } } } := by
  unfold handOn
  dsimp only
  split <;> rfl

theorem handOn_keeps : (handOn f e s).conceal = s.conceal ∧ (handOn f e s).lineage = s.lineage ∧
    (handOn f e s).query = s.query := by
  unfold handOn
  dsimp only
  split <;> exact ⟨rfl, rfl, rfl⟩

end

/-- A splice frame has been produced for the entry that plays and handed on: what the part then holds. -/
structure SpliceMade (s t : State) (f : SpliceFrame) (e : CueEntry) (cues : List CueEntry) (c : Conceal) : Prop where
  work : Work s t
  engine : t.engine = { s.engine with
    cues := cues
    run := s.engine.run.produced s.position.w (isExecute s) f }
  formatter : t.formatter = if isExecute s then { s.formatter with
      emission := some { number := s.position.w, blocks := codeFrame f.pairs (spliceSubcode f e s), origin := .splice } }
    else s.formatter
  output : t.output = { s.output with
    fresh := { s.output.fresh with splice := some { pairs := f.pairs, mark := f.mark } } }
  conceal : t.conceal = c
  query : t.query = s.query

section
variable {s : State} {pre post : List CueEntry} {e : CueEntry}

theorem changeCue_of_split (hcues : s.engine.cues = pre ++ e :: post) (hids : ∀ d ∈ pre ++ post, d.id ≠ e.id)
    (f : CueEntry → CueEntry) : (changeCue e.id f s).engine = { s.engine with cues := pre ++ f e :: post } := by
  rw [changeCue, State.setEngine_engine, hcues, map_of_split hids]

/-- Hand-over after the old side is fetched and the degraded count has risen. -/
theorem spliceMade_handOn (hcues : s.engine.cues = pre ++ e :: post) (hids : ∀ d ∈ pre ++ post, d.id ≠ e.id)
    {x : State} (hx : Fetched s x) (k : Nat) (f : SpliceFrame) :
    SpliceMade s (handOn f e (addDegraded e k x)) f e
      (pre ++ { e with degraded := satAdd Config.max32 e.degraded k } :: post) x.conceal ∧
    (handOn f e (addDegraded e k x)).lineage = s.lineage := by
  have hadded : (addDegraded e k x).engine = { s.engine with
      cues := pre ++ { e with degraded := satAdd Config.max32 e.degraded k } :: post } := by
    rw [addDegraded, changeCue_of_split (by rw [hx.engine]; exact hcues) hids, hx.engine]
  have hleaves := hx.work.leaves
  have hw : (addDegraded e k x).position = s.position := hleaves.position
  have hrate : (addDegraded e k x).input = s.input := hleaves.input
  have hexecute : isExecute (addDegraded e k x) = isExecute s := by rw [isExecute, hadded]; rfl
  have hsubcode : spliceSubcode f e (addDegraded e k x) = spliceSubcode f e s := by
    rw [spliceSubcode, hw, hrate]
    rfl
  have hformatter : (addDegraded e k x).formatter = s.formatter := hx.formatter
  have houtput : (addDegraded e k x).output = s.output := hx.output
  obtain ⟨hconceal, hlineage, hquery⟩ := handOn_keeps f e (addDegraded e k x)
  refine ⟨⟨(hx.work.addDegraded e k).handOn f e, ?_, ?_, ?_, hconceal, hquery.trans hx.query⟩,
    hlineage.trans hx.lineage⟩
  · rw [handOn_engine, hadded, hw, hexecute]
  · rw [handOn_formatter, hexecute, hw, hsubcode, hformatter]
  · rw [handOn_output, houtput]

end

/-! ## A frame from input (R117, R119 to R123) -/

section
variable (e : CueEntry) (s : State)

/-- The frame is INSERTED: each of its positions lies in the entry's new region. -/
def inputInserted : Bool := isInserted e (s.position.w.toNat * spf s.input.rate) (spf s.input.rate)

/-- The old side of the frame; an INSERTED frame fetches none. -/
def inputOld : State × OldSide := if inputInserted e s then (s, OldSide.none) else fetchOld s

/-- Frame W of the entry, from capture frame W − 2 and the old side. -/
def inputFrame : SpliceFrame :=
  { pairs := splicePairs e (s.position.w.toNat * spf s.input.rate) (spf s.input.rate) (inputOld e s).2.pairs
      (captureFor (s.position.w - 2) s).pairs
    kind := if inputInserted e s then .inserted else .splice
    mark := if inputInserted e s then (captureFor (s.position.w - 2) s).ruling.mark
      else stricter (captureFor (s.position.w - 2) s).ruling.mark (inputOld e s).2.mark
    refused := false }

/-- The samples of the frame that take the old side at reduced gain. -/
def inputDegraded : Nat :=
  degradedSamples (fun i => takesOld e.fade (e.region (s.position.w.toNat * spf s.input.rate + i))) (spf s.input.rate)
    (inputOld e s).2.flags

/-- The phase at the frame's last position. -/
def inputPhase : Phase := phaseAt e (s.position.w.toNat * spf s.input.rate + spf s.input.rate - 1)

theorem produceInput_eq : produceInput e s = reportEnd (changeCue e.id
    (fun x => { x with state := .active (inputPhase e s) })
    (handOn (inputFrame e s) e (addDegraded e (inputDegraded e s) (inputOld e s).1))) := rfl

theorem inputOld_fetched : Fetched s (inputOld e s).1 := by
  unfold inputOld
  split
  · exact .refl s
  · exact fetchOld_fetched s

end

section
variable {s : State} {pre post : List CueEntry} {e : CueEntry}

/-- Frame W of an entry from input. -/
theorem produceInput_made (hcues : s.engine.cues = pre ++ e :: post) (hids : ∀ d ∈ pre ++ post, d.id ≠ e.id) :
    SpliceMade s (produceInput e s) (inputFrame e s) e
      (pre ++ { e with
        state := .active (inputPhase e s)
        degraded := satAdd Config.max32 e.degraded (inputDegraded e s) } :: post)
      (inputOld e s).1.conceal ∧
    (s.engine.arm.mode = .execute → (produceInput e s).lineage.span = none) ∧
    (s.engine.arm.mode = .rehearse → (produceInput e s).lineage = s.lineage) := by
  obtain ⟨hmade, hlineage⟩ := spliceMade_handOn hcues hids (inputOld_fetched e s) (inputDegraded e s) (inputFrame e s)
  rw [produceInput_eq]
  generalize handOn (inputFrame e s) e (addDegraded e (inputDegraded e s) (inputOld e s).1) = t at hmade hlineage
  have hengine : (changeCue e.id (fun x => { x with state := .active (inputPhase e s) }) t).engine = { s.engine with
      cues := pre ++ { e with
        state := .active (inputPhase e s)
        degraded := satAdd Config.max32 e.degraded (inputDegraded e s) } :: post
      run := s.engine.run.produced s.position.w (isExecute s) (inputFrame e s) } := by
    have hsplit := changeCue_of_split (e := { e with degraded := satAdd Config.max32 e.degraded (inputDegraded e s) })
      (s := t) (by rw [hmade.engine]) hids (fun x => { x with state := .active (inputPhase e s) })
    rw [hmade.engine] at hsplit
    exact hsplit
  have hmode : (changeCue e.id (fun x => { x with state := .active (inputPhase e s) }) t).engine.arm.mode =
      s.engine.arm.mode := by rw [hengine]
  refine ⟨⟨(hmade.work.changeCue _ _).reportEnd, ?_, ?_, ?_, ?_, ?_⟩, fun hm => ?_, fun hm => ?_⟩
  · rw [reportEnd_engine, hengine]
  · rw [reportEnd_formatter]
    exact hmade.formatter
  · rw [reportEnd_output]
    exact hmade.output
  · rw [reportEnd_conceal]
    exact hmade.conceal
  · rw [reportEnd_query]
    exact hmade.query
  · exact reportEnd_span (hmode.trans hm)
  · rw [reportEnd, hmode.trans hm]
    exact hlineage

/-! ## An emergency fade (R126) -/

end

section
variable (s : State) (refusal : Bool)

/-- Frame W as an emergency fade. -/
def fadeFrame : SpliceFrame :=
  { pairs := fadePairs s.engine.run.endPair (spf s.input.rate) (fetchOld s).2.pairs
    kind := .splice
    mark := stricter s.engine.run.endMark (fetchOld s).2.mark
    refused := refusal }

/-- The samples of the fade that take the old side at reduced gain. -/
def fadeDegraded : Nat := degradedSamples (fun i => 1 ≤ i) (spf s.input.rate) (fetchOld s).2.flags

theorem produceFade_eq (e : CueEntry) : produceFade e refusal s =
    handOn (fadeFrame s refusal) e (addDegraded e (fadeDegraded s) (fetchOld s).1) := rfl

theorem produceFade_made {s : State} {pre post : List CueEntry} {e : CueEntry} (hcues : s.engine.cues = pre ++ e :: post)
    (hids : ∀ d ∈ pre ++ post, d.id ≠ e.id) (refusal : Bool) :
    SpliceMade s (produceFade e refusal s) (fadeFrame s refusal) e
      (pre ++ { e with degraded := satAdd Config.max32 e.degraded (fadeDegraded s) } :: post) (fetchOld s).1.conceal ∧
    (produceFade e refusal s).lineage = s.lineage := by
  rw [produceFade_eq]
  exact spliceMade_handOn hcues hids (fetchOld_fetched s) (fadeDegraded s) (fadeFrame s refusal)

end

end Sys2Proof.Machine
end

section
/-! PROOFS. The engine's tick: the requests handed to it, the comparison of an ARMED engine, and the tick without LOCKED
(R114 to R118). -/

namespace Sys2Proof.Machine

/-! ## Requests handed to the engine -/

theorem mem_handedRequests {s : State} {f : GpiFunction} (h : f ∈ handedRequests s) :
    (f = .arm ∨ f = .abort) ∧ ∃ i : Fin 4, s.position.gpi[i].function = f ∧ s.position.gpi[i].queue ≠ [] := by
  rw [handedRequests_eq, List.mem_flatMap] at h
  obtain ⟨i, _, hi⟩ := h
  split at hi
  next hfunction =>
    obtain ⟨x, hx, rfl⟩ := List.mem_map.mp hi
    exact ⟨hfunction, i, rfl, List.ne_nil_of_mem hx⟩
  · cases hi

theorem abort_mem_handedRequests (s : State) : GpiFunction.abort ∈ handedRequests s ↔
    ∃ i : Fin 4, s.position.gpi[i].function = .abort ∧ s.position.gpi[i].queue ≠ [] := by
  refine ⟨fun h => (mem_handedRequests h).2, fun ⟨i, hf, hq⟩ => ?_⟩
  have hall : ∀ i : Fin 4, i ∈ ([0, 1, 2, 3] : List (Fin 4)) := by decide
  rw [handedRequests_eq, List.mem_flatMap]
  refine ⟨i, hall i, ?_⟩
  rw [if_pos (.inr hf), hf]
  obtain ⟨x, hx⟩ := List.exists_mem_of_ne_nil _ hq
  exact List.mem_map.mpr ⟨x, hx, rfl⟩

/-- With no ARM waiting, ABORT requests alone are handed. -/
theorem handed_abort {s : State} (h : ∀ i : Fin 4, s.position.gpi[i].function = .arm → s.position.gpi[i].queue = []) :
    ∀ f ∈ handedRequests s, f = .abort := by
  intro f hf
  obtain ⟨harm | habort, i, hi, hq⟩ := mem_handedRequests hf
  · exact absurd (h i (hi.trans harm)) hq
  · exact habort

/-- ABORT requests leave an engine that is not ACTIVE. -/
theorem foldl_abort_armed {fs : List GpiFunction} (h : ∀ f ∈ fs, f = .abort) {s : State} (hs : s.engine.state = .armed) :
    fs.foldl engineRequest s = s := by
  induction fs with
  | nil => rfl
  | cons f fs ih =>
    have hf : engineRequest s f = s := by
      rw [h f List.mem_cons_self]
      unfold engineRequest
      rw [hs]
    rw [List.foldl_cons, hf]
    exact ih fun x hx => h x (List.mem_cons_of_mem _ hx)

/-- An ACTIVE engine takes of the requests that an abort is pending. -/
theorem foldl_active (fs : List GpiFunction) {s : State} (hs : s.engine.state = .active) : fs.foldl engineRequest s =
    s.setEngine { s.engine with pendingAbort := s.engine.pendingAbort || fs.contains .abort } := by
  induction fs generalizing s with
  | nil =>
    simp only [List.foldl_nil, List.contains_nil, Bool.or_false]
    rfl
  | cons f fs ih =>
    have hf : engineRequest s f = s.setEngine { s.engine with pendingAbort := s.engine.pendingAbort || f == .abort } := by
      unfold engineRequest
      rw [hs]
      by_cases habort : f = .abort
      · rw [habort, beq_self_eq_true, Bool.or_true]
      · rw [beq_eq_false_iff_ne.mpr habort, Bool.or_false]
        cases f with
        | abort => exact absurd rfl habort
        | off => rfl
        | mark => rfl
        | arm => rfl
    rw [List.foldl_cons, hf, ih (by exact hs), List.contains_cons, Bool.beq_comm (a := GpiFunction.abort), ← Bool.or_assoc]
    rfl

/-- With no ABORT among them, the requests leave an ACTIVE engine. -/
theorem foldl_active_none {fs : List GpiFunction} {s : State} (hs : s.engine.state = .active)
    (h : fs.contains .abort = false) : fs.foldl engineRequest s = s := by
  rw [foldl_active fs hs, h, Bool.or_false]
  rfl

/-! ## What a tick that produces nothing leaves -/

/-- The engine hands on nothing: the formatter, the output unit and the concealment unit stay. -/
structure Quiet (s t : State) : Prop where
  formatter : t.formatter = s.formatter
  output : t.output = s.output
  conceal : t.conceal = s.conceal

theorem Quiet.refl (s : State) : Quiet s s := ⟨rfl, rfl, rfl⟩

theorem Quiet.trans {s t u : State} (h : Quiet s t) (h' : Quiet t u) : Quiet s u :=
  ⟨h'.formatter.trans h.formatter, h'.output.trans h.output, h'.conceal.trans h.conceal⟩

theorem quiet_endEntry (r : SpliceRecord) (s : State) : Quiet s (endEntry r s) :=
  ⟨endEntry_formatter r s, endEntry_output r s, endEntry_conceal r s⟩

theorem Requested.quiet {s t : State} (h : Requested s t) : Quiet s t := ⟨h.formatter, h.output, h.conceal⟩

@[simp] theorem Engine.pointTo_lockAgeReq (e : Engine) (next : Option CueEntry) :
    (e.pointTo next).lockAgeReq = e.lockAgeReq := by
  unfold Engine.pointTo Engine.passLast
  (repeat' split) <;> rfl

theorem endEntry_lockAgeReq (r : SpliceRecord) (s : State) : (endEntry r s).engine.lockAgeReq = s.engine.lockAgeReq := by
  obtain ⟨_, _, _, hreq, he⟩ := endEntry_engine r s
  rw [he, Engine.pointTo_lockAgeReq, hreq]

theorem endEntry_state (r : SpliceRecord) (s : State) : (endEntry r s).engine.state ≠ .active := by
  obtain ⟨_, _, _, _, he⟩ := endEntry_engine r s
  rw [he]
  exact Engine.pointTo_state _ _

/-- Below the lock age required no entry starts, and none is refused. -/
theorem compareEntries_young (es : List CueEntry) {s : State} (hs : s.engine.state ≠ .active)
    (hage : s.position.age < s.engine.lockAgeReq) :
    Quiet s (compareEntries es s) ∧ (compareEntries es s).engine.state ≠ .active := by
  induction es generalizing s with
  | nil => exact ⟨.refl s, hs⟩
  | cons e es ih =>
    have hmissed (x : Reason) : Quiet s (compareEntries es (missEntry e x s)) ∧
        (compareEntries es (missEntry e x s)).engine.state ≠ .active := by
      obtain ⟨hquiet, hstate⟩ := ih (s := missEntry e x s) (endEntry_state _ s)
        (by rw [missEntry, endEntry_position, endEntry_lockAgeReq]; exact hage)
      exact ⟨(quiet_endEntry _ s).trans hquiet, hstate⟩
    unfold compareEntries
    dsimp only
    split
    · exact ⟨.refl s, hs⟩
    · split
      · exact hmissed _
      · exact hmissed _

/-! ## The tick without LOCKED (R118) -/

section
variable {s : State} (hinv : EngineInv s) (hlock : s.position.lock ≠ .locked) (hage : s.position.age = 0)
include hinv hlock hage

/-- The tick of the engine without LOCKED produces nothing, and leaves no entry ACTIVE. -/
theorem engineTick_unlocked (fs : List GpiFunction) :
    Quiet s (engineTick fs s) ∧ (engineTick fs s).engine.state ≠ .active := by
  have hfs := hinv.foldl_engineRequest fs
  have hrequested := requested_foldl fs s
  have hposition := hrequested.work.leaves.position
  unfold engineTick
  dsimp only
  generalize fs.foldl engineRequest s = u at hfs hrequested hposition
  rw [← hposition] at hlock hage
  split
  next hstate => exact ⟨hrequested.quiet, by rw [hstate]; nofun⟩
  next hstate =>
    obtain ⟨hlow, _⟩ := hfs.requirement
    obtain ⟨hquiet, hend⟩ := compareEntries_young (cuesFromCursor u) (s := u) (by rw [hstate]; nofun) (by omega)
    exact ⟨hrequested.quiet.trans hquiet, hend⟩
  next hstate =>
    obtain ⟨c, hc, hcursor, _⟩ := hfs.activeEntry hstate
    have hcue : cursorCue u = some c := by
      rw [cursorCue, hcursor]
      exact find_id hfs.cueList.ids hc
    rw [activeTick, hcue]
    dsimp only
    rw [if_pos hlock, endActive_eq hcue]
    exact ⟨hrequested.quiet.trans (quiet_endEntry _ u), endEntry_state _ u⟩

omit hage in
/-- An ACTIVE entry is aborted with LOST_LOCK. -/
theorem engineTick_lostLock (fs : List GpiFunction) (hactive : s.engine.state = .active) {c : CueEntry}
    (hc : c ∈ s.engine.cues) (hcursor : s.engine.cursor = .entry c.id) :
    Pends .editAborted (engineTick fs s) ∧ (engineTick fs s).engine.log.head? = some
      { id := c.id, mode := s.engine.arm.mode, outcome := .aborted, reason := some .lostLock, first := s.engine.run.first,
        last := s.engine.run.last, framesWritten := s.engine.run.framesWritten, degraded := c.degraded,
        openEnded := decide (s.engine.arm.mode = .execute) } := by
  have hfs := foldl_active fs hactive
  unfold engineTick
  dsimp only
  rw [hfs]
  have hcue : cursorCue (s.setEngine { s.engine with pendingAbort := s.engine.pendingAbort || fs.contains .abort }) =
      some c := by
    rw [cursorCue, State.setEngine_engine, hcursor]
    exact find_id hinv.cueList.ids hc
  have hrecord : activeRecord c .aborted (some .lostLock)
      (isExecute (s.setEngine { s.engine with pendingAbort := s.engine.pendingAbort || fs.contains .abort }))
      (s.setEngine { s.engine with pendingAbort := s.engine.pendingAbort || fs.contains .abort }) =
      { id := c.id, mode := s.engine.arm.mode, outcome := .aborted, reason := some .lostLock, first := s.engine.run.first,
        last := s.engine.run.last, framesWritten := s.engine.run.framesWritten, degraded := c.degraded,
        openEnded := decide (s.engine.arm.mode = .execute) } := rfl
  rw [State.setEngine_engine, hactive]
  dsimp only
  rw [activeTick, hcue]
  dsimp only
  rw [if_pos (by exact hlock), endActive_eq hcue, hrecord]
  exact ⟨endEntry_pends _ _, endEntry_log _ _⟩

end

/-! ## The emission after a tick that produces no splice frame -/

theorem recorded_emission {low : BitVec 4} {s : State} (hemission : s.formatter.emission = none) {e : Emission}
    (he : (recorded low s).formatter.emission = some e) : e.origin ≠ .splice := by
  have hcase (silenced : Bool) (pairs : List Pair) (r : Subcode)
      (h : some (recordEmission silenced pairs r) = some e) : e.origin ≠ .splice := by
    obtain rfl := Option.some.inj h
    nofun
  by_cases hidle : s.formatter.state = .idle
  · rw [recorded, formatterTick, ticked_formatter, hidle] at he
    dsimp only at he
    rw [ticked_formatter, hemission] at he
    cases he
  · rw [recorded_eq low hidle] at he
    cases hr : (captureFor ((ticked low s).position.w - 2) (ticked low s)).ruling with
    | permit mark => rw [recordFrame_permit_formatter hr] at he; exact hcase _ _ _ he
    | refuse =>
      cases ha : (ticked low s).lineage.action with
      | silence => rw [recordFrame_silence_formatter hr ha] at he; exact hcase _ _ _ he
      | halt =>
        rw [recordFrame_halt_formatter hr ha, ticked_formatter] at he
        dsimp only at he
        rw [hemission] at he
        cases he

/-- The engine's invariant as the engine's tick finds it. -/
theorem EngineInv.recorded {s : State} (h : EngineInv s) (low : BitVec 4) : EngineInv (recorded low s) := by
  obtain ⟨hengine, _, _, _, hrate, _⟩ := recorded_keeps low s
  have hstate := formatterTick_state (ticked low s)
  rw [ticked_formatter, ← Machine.recorded] at hstate
  exact h.formatterIdle hengine hrate hstate

end Sys2Proof.Machine
end

section
/-! PROOFS. The comparison of an ARMED engine (R115, R116), and the tick that leaves no entry ACTIVE without LOCKED (O57). -/

namespace Sys2Proof.Machine

/-! ## The start of an entry (R115) -/

/-- The entry as it starts. -/
def CueEntry.started (c : CueEntry) : CueEntry := { c with state := .active .fadeIn, degraded := 0 }

/-- The part at the start of an entry, before its first frame is produced. -/
def startedState (c : CueEntry) (s : State) : State :=
  raise .editStarted (changeCue c.id CueEntry.started
    (s.setEngine { s.engine with state := .active, cursor := .entry c.id, run := EntryRun.empty }))

theorem startEntry_eq (c : CueEntry) (s : State) : startEntry c s = produceFrame c.started (startedState c s) := rfl

section
variable {s : State} {pre post : List CueEntry} {c : CueEntry}

theorem startedState_engine (hcues : s.engine.cues = pre ++ c :: post) (hids : ∀ d ∈ pre ++ post, d.id ≠ c.id) :
    (startedState c s).engine = { s.engine with
      state := .active
      cursor := .entry c.id
      run := EntryRun.empty
      cues := pre ++ c.started :: post } := by
  rw [startedState, raise_engine]
  exact changeCue_of_split (s := s.setEngine { s.engine with state := .active, cursor := .entry c.id, run := EntryRun.empty })
    hcues hids CueEntry.started

theorem startedState_work (c : CueEntry) (s : State) : Work s (startedState c s) :=
  (((Work.refl s).engine _).changeCue _ _).raise _

/-- The start of an entry touches the engine and raises a cause. -/
theorem startedState_fetched (c : CueEntry) (s : State) : (startedState c s).formatter = s.formatter ∧
    (startedState c s).lineage = s.lineage ∧ (startedState c s).output = s.output ∧
    (startedState c s).conceal = s.conceal ∧ (startedState c s).query = s.query := by
  unfold startedState
  rw [raise_formatter, raise_lineage, raise_output, raise_conceal, raise_query]
  exact ⟨rfl, rfl, rfl, rfl, rfl⟩

/-! ## The last frame of an entry (R125) -/

theorem produceFrame_short {e : CueEntry} (h : s.position.w.toNat ≠ e.lastFrame (spf s.input.rate)) :
    produceFrame e s = produceInput e s := if_neg h

theorem produceFrame_execute {e : CueEntry} (h : s.position.w.toNat = e.lastFrame (spf s.input.rate))
    (hm : s.engine.arm.mode = .execute) : produceFrame e s = awaitEnd .complete (produceInput e s) :=
  (if_pos h).trans (if_pos (by rw [isExecute, hm]; rfl))

theorem produceFrame_rehearse {e : CueEntry} (h : s.position.w.toNat = e.lastFrame (spf s.input.rate))
    (hm : s.engine.arm.mode = .rehearse) : produceFrame e s = endActive .rehearsed none false (produceInput e s) :=
  (if_pos h).trans (if_neg (by rw [isExecute, hm]; nofun))

/-- The entry as the production of its frame leaves it. -/
def CueEntry.produced (e : CueEntry) (s : State) : CueEntry :=
  { e with state := .active (inputPhase e s), degraded := satAdd Config.max32 e.degraded (inputDegraded e s) }

/-- In REHEARSE the entry ends at the tick of its last frame. -/
theorem produceFrame_rehearsed {e : CueEntry} (hcues : s.engine.cues = pre ++ e :: post)
    (hids : ∀ d ∈ pre ++ post, d.id ≠ e.id) (hcursor : s.engine.cursor = .entry e.id)
    (h : s.position.w.toNat = e.lastFrame (spf s.input.rate)) (hm : s.engine.arm.mode = .rehearse) :
    produceFrame e s = endEntry (activeRecord (e.produced s) .rehearsed none false (produceInput e s)) (produceInput e s) ∧
    (produceFrame e s).engine = s.engine.ended (pre ++ { e with state := .pending, degraded := 0 } :: post) post
      (activeRecord (e.produced s) .rehearsed none false (produceInput e s)) := by
  obtain ⟨hmade, _⟩ := produceInput_made hcues hids
  have hsplit : (produceInput e s).engine.cues = pre ++ e.produced s :: post := by rw [hmade.engine]; rfl
  have hcue : cursorCue (produceInput e s) = some (e.produced s) :=
    cursorCue_of_split hsplit hids (by rw [hmade.engine]; exact hcursor)
  have hended := (produceFrame_rehearse h hm).trans (endActive_eq hcue .rehearsed none false)
  refine ⟨hended, ?_⟩
  rw [hended, endEntry_ended hsplit hids rfl, hmade.engine, if_neg (by rw [hm]; nofun)]
  rfl

/-! ## The cursor after an entry has ended -/

/-- The cursor's entry and those after it. -/
theorem cuesFromCursor_of_split (hcues : s.engine.cues = pre ++ c :: post) (hids : ∀ d ∈ pre ++ post, d.id ≠ c.id)
    (hcursor : s.engine.cursor = .entry c.id) : cuesFromCursor s = c :: post := by
  rw [cuesFromCursor, hcursor]
  dsimp only
  rw [hcues]
  exact dropWhile_of_split fun d hd => hids d (List.mem_append_left _ hd)

/-- The list splits at each of its entries, no other entry carrying its id. -/
theorem split_at {cues : List CueEntry} (hids : cues.Pairwise (fun a b => a.id ≠ b.id)) {c : CueEntry} (hc : c ∈ cues) :
    ∃ pre post, cues = pre ++ c :: post ∧ ∀ d ∈ pre ++ post, d.id ≠ c.id := by
  obtain ⟨pre, post, rfl⟩ := List.append_of_mem hc
  refine ⟨pre, post, rfl, ?_⟩
  obtain ⟨_, hpost, hacross⟩ := List.pairwise_append.mp hids
  intro d hd
  obtain hd | hd := List.mem_append.mp hd
  · exact hacross d hd c List.mem_cons_self
  · exact ((List.pairwise_cons.mp hpost).1 d hd).symm

/-- Once an entry has ended, the list from the cursor on is what followed it. -/
theorem cuesFromCursor_endEntry (hcues : s.engine.cues = pre ++ c :: post) (hids : ∀ d ∈ pre ++ post, d.id ≠ c.id)
    (hpairs : s.engine.cues.Pairwise (fun a b => a.id ≠ b.id)) {r : SpliceRecord} (hr : r.id = c.id) :
    cuesFromCursor (endEntry r s) = post := by
  have hended := endEntry_ended hcues hids hr
  cases post with
  | nil =>
    have hcursor : (endEntry r s).engine.cursor =
        if s.engine.arm.mode = .rehearse ∧ s.engine.arm.loop = true then .passed else .absent := by rw [hended]; rfl
    rw [cuesFromCursor, hcursor]
    by_cases hwaits : s.engine.arm.mode = .rehearse ∧ s.engine.arm.loop = true
    · rw [if_pos hwaits]
    · rw [if_neg hwaits]
  | cons d post =>
    rw [hcues] at hpairs
    obtain ⟨_, hafter, hacross⟩ := List.pairwise_append.mp hpairs
    have hpre (x : CueEntry) (hx : x ∈ pre) : x.id ≠ d.id := hacross x hx d (List.mem_cons_of_mem _ List.mem_cons_self)
    have hcd : c.id ≠ d.id := (List.pairwise_cons.mp hafter).1 d List.mem_cons_self
    have hcursor : (endEntry r s).engine.cursor = .entry d.id := by rw [hended]; rfl
    rw [cuesFromCursor, hcursor]
    dsimp only
    rw [hended]
    show List.dropWhile _ (if s.engine.arm.mode = .execute then pre ++ d :: post
      else pre ++ { c with state := .pending, degraded := 0 } :: d :: post) = _
    split
    · exact dropWhile_of_split hpre
    · rw [List.append_cons]
      refine dropWhile_of_split fun x hx => ?_
      obtain hx | hx := List.mem_append.mp hx
      · exact hpre x hx
      · rw [List.mem_singleton.mp hx]
        exact hcd

end

/-! ## The comparison -/

/-- An engine still ARMED waits for an entry that starts above W. -/
def Later (s : State) : Prop :=
  s.engine.state = .armed → ∀ d ∈ s.engine.cues, s.engine.cursor = .entry d.id →
    s.position.w.toNat < d.startFrame (spf s.input.rate)

section
variable {s : State} {pre post : List CueEntry} {c : CueEntry}

/-- An entry that starts and ends at one tick leaves an entry under the cursor that starts above W. -/
theorem startEntry_later (hfree : EngineFree s) (hcues : s.engine.cues = pre ++ c :: post)
    (hids : ∀ d ∈ pre ++ post, d.id ≠ c.id) : Later (startEntry c s) := by
  have hstarted := startedState_engine hcues hids
  have hleaves := (startedState_work c s).leaves
  have hwork : Work s (startEntry c s) := (Work.refl s).startEntry c
  obtain ⟨hmade, _⟩ := produceInput_made (s := startedState c s) (e := c.started) (by rw [hstarted]) hids
  have hactive : (produceInput c.started (startedState c s)).engine.state = .active := by
    rw [hmade.engine, hstarted]
  intro harmed d hd hcursor
  rw [hwork.leaves.position, hwork.leaves.input]
  rw [startEntry_eq] at harmed hd hcursor
  by_cases hlast : (startedState c s).position.w.toNat = c.started.lastFrame (spf (startedState c s).input.rate)
  · cases hm : (startedState c s).engine.arm.mode with
    | execute =>
      rw [produceFrame_execute hlast hm] at harmed
      rw [awaitEnd, State.setEngine_engine] at harmed
      rw [hactive] at harmed
      cases harmed
    | rehearse =>
      obtain ⟨_, hended⟩ := produceFrame_rehearsed (e := c.started) (by rw [hstarted]) hids (by rw [hstarted]; rfl) hlast hm
      have hpair := hfree.sound.cues
      rw [hcues] at hpair
      have hnew : CuesSound (spf s.input.rate) (pre ++ { c.started with state := .pending, degraded := 0 } :: post) := by
        have := hpair.map (f := fun x => if x.id = c.id then { x with state := .pending, degraded := 0 } else x)
          (KeepsCue.ite (by constructor <;> exact fun _ => rfl) c.id)
        rwa [map_of_split hids] at this
      rw [hended] at hcursor hd
      cases post with
      | nil =>
        have hno : (if (startedState c s).engine.arm.mode = .rehearse ∧ (startedState c s).engine.arm.loop = true
          then Cursor.passed else .absent) = .entry d.id := hcursor
        split at hno <;> cases hno
      | cons x post =>
        have hx : x.id = d.id := Cursor.entry.inj hcursor
        have hmem : x ∈ pre ++ { c.started with state := .pending, degraded := 0 } :: x :: post := by simp
        obtain rfl := eq_of_id hnew.ids hmem hd hx
        obtain ⟨_, hafter, _⟩ := List.pairwise_append.mp hpair.disjoint
        have hlt := (List.pairwise_cons.mp hafter).1 x List.mem_cons_self
        rw [hleaves.position, hleaves.input] at hlast
        have hsame : c.started.lastFrame (spf s.input.rate) = c.lastFrame (spf s.input.rate) := rfl
        omega
  · rw [produceFrame_short hlast, hactive] at harmed
    cases harmed

end

/-- The comparison passes an entry over at most; the entry under the cursor after it starts above W. -/
theorem compareEntries_later (es : List CueEntry) {s : State} (hfree : EngineFree s) (hs : s.engine.state ≠ .active)
    (hes : cuesFromCursor s = es) : Later (compareEntries es s) := by
  induction es generalizing s with
  | nil =>
    intro _ d hd hcursor
    obtain ⟨pre, post, hcues, hids⟩ := split_at hfree.sound.cues.ids hd
    rw [cuesFromCursor_of_split hcues hids hcursor] at hes
    cases hes
  | cons c rest ih =>
    obtain ⟨hcursor, hc⟩ := cuesFromCursor_head hes
    obtain ⟨pre, post, hcues, hids⟩ := split_at hfree.sound.cues.ids hc
    have hsplit := cuesFromCursor_of_split hcues hids hcursor
    rw [hes] at hsplit
    obtain rfl : rest = post := (List.cons.inj hsplit).2
    have hnext {u : State} {r : SpliceRecord} (hu : EngineFree u) (hustate : u.engine.state ≠ .active)
        (hucues : u.engine.cues = s.engine.cues) (hr : r.id = c.id) :
        Later (compareEntries rest (endEntry r u)) := by
      obtain ⟨hended, hstate, _⟩ := hu.endEntry (r := r) ((hu.sound.noneActive hustate).activeAt _)
      exact ih hended hstate (cuesFromCursor_endEntry (hucues.trans hcues) hids hu.sound.cues.ids hr)
    unfold compareEntries
    dsimp only
    split
    next hlater =>
      intro _ d hd hdcursor
      obtain rfl := eq_of_id hfree.sound.cues.ids hc hd (Cursor.entry.inj (hcursor.symm.trans hdcursor))
      exact hlater
    · split
      · exact hnext hfree hs rfl rfl
      · split
        · exact hnext hfree hs rfl rfl
        · split
          · exact hnext (hfree.refusedReport _ _) (by rw [refusedReport_engine]; exact hs) (by rw [refusedReport_engine]) rfl
          · exact startEntry_later hfree hcues hids

/-- The comparison stops at an entry that starts above W. -/
theorem compareEntries_stop {es : List CueEntry} {s : State}
    (h : ∀ d, es.head? = some d → s.position.w.toNat < d.startFrame (spf s.input.rate)) : compareEntries es s = s := by
  cases es with
  | nil => rfl
  | cons d es => exact if_pos (h d rfl)

/-- The reason of a MISSED entry at a tick (R115). -/
def missReason (c : CueEntry) (s : State) : Reason :=
  if c.startFrame (spf s.input.rate) < s.position.w.toNat then .passed else .noLock

/-- The comparison of an entry that is MISSED. -/
theorem compareEntries_miss {c : CueEntry} {s : State} (es : List CueEntry)
    (h : c.startFrame (spf s.input.rate) < s.position.w.toNat ∨
      (c.startFrame (spf s.input.rate) = s.position.w.toNat ∧ s.position.age < s.engine.lockAgeReq)) :
    compareEntries (c :: es) s = compareEntries es (missEntry c (missReason c s) s) := by
  have hnot : ¬ s.position.w.toNat < c.startFrame (spf s.input.rate) := by omega
  rw [compareEntries, missReason, if_neg hnot]
  obtain hlow | ⟨heq, hage⟩ := h
  · rw [if_pos hlow, if_pos hlow]
  · have hlow : ¬ c.startFrame (spf s.input.rate) < s.position.w.toNat := by omega
    rw [if_neg hlow, if_neg hlow, if_pos hage]

/-- The ids of the list come from the list before. -/
theorem Work.ids {s t : State} (h : Work s t) : ∀ d ∈ t.engine.cues, ∃ c ∈ s.engine.cues, c.id = d.id := by
  induction h with
  | refl => exact fun d hd => ⟨d, hd, rfl⟩
  | raise c _ ih => rw [raise_engine]; exact ih
  | refused w x _ ih => rw [refusedReport_engine]; exact ih
  | close _ ih => rw [closeSpan_engine]; exact ih
  | engine e _ hcues ih => rw [State.setEngine_engine, hcues]; exact ih
  | removeCue id _ ih => exact fun d hd => ih d (List.mem_of_mem_filter hd)
  | changeCue id f _ hkeeps ih =>
    intro d hd
    obtain ⟨x, hx, rfl⟩ := List.mem_map.mp hd
    obtain ⟨c, hc, hid⟩ := ih x hx
    exact ⟨c, hc, by rw [(hkeeps.ite id).id]; exact hid⟩
  | splice _ _ ih => exact ih
  | conceal _ _ _ _ ih => exact ih
  | emit _ _ _ _ ih => exact ih
  | endRecording _ _ ih => exact ih

/-- A release holds nothing anew. -/
theorem Work.held {s t : State} (h : Work s t) {id : Nat} (hs : ∀ q ∈ s.query.entries, q.state ≠ .held id) :
    ∀ q ∈ t.query.entries, q.state ≠ .held id := by
  obtain ⟨ids, hquery⟩ := h.query
  intro q hq
  rw [hquery] at hq
  obtain ⟨x, hx, rfl⟩ := List.mem_map.mp hq
  by_cases hheld : ∃ id, x.state = .held id
  · obtain ⟨y, hy⟩ := hheld
    obtain hr | hr := releaseAll_held hy ids <;> rw [hr]
    · rw [← hy]
      exact hs x hx
    · nofun
  · rw [releaseAll_of_not_held fun y hy => hheld ⟨y, hy⟩]
    exact hs x hx

/-- Once an entry has ended in EXECUTE, no query is HELD behind it. -/
theorem endEntry_held {r : SpliceRecord} {s : State} (hm : s.engine.arm.mode = .execute) :
    ∀ q ∈ (endEntry r s).query.entries, q.state ≠ .held r.id := by
  intro q hq
  rw [endEntry_query] at hq
  obtain ⟨x, _, rfl⟩ := List.mem_map.mp hq
  split
  · nofun
  next hno => exact fun hheld => hno ⟨hm, hheld⟩

/-! ## The tick around the engine -/

theorem captureTick_splice (s : State) : (captureTick s).output.fresh.splice = s.output.fresh.splice := by
  rw [captureTick_output]
  cases hg : s.input.gathering with
  | none => rw [closeCapture_none hg]
  | some g => exact congrArg (·.fresh.splice) ((congrArg (·.output) (closeCapture_some hg)).trans (raiseIf_output _ _ _))

/-- The output unit and the concealment unit as the engine's tick finds them. -/
theorem recorded_quiet (low : BitVec 4) (s : State) : (recorded low s).output.fresh.splice = s.output.fresh.splice ∧
    (recorded low s).conceal = s.conceal := by
  rw [recorded, formatterTick_output, formatterTick_conceal, ticked_conceal, ticked_output, captureTick_splice,
    positioned_output]
  exact ⟨rfl, rfl⟩

/-- An IDLE formatter takes no tick. -/
theorem recorded_idle (low : BitVec 4) {s : State} (h : s.formatter.state = .idle) : recorded low s = ticked low s := by
  rw [recorded, formatterTick, ticked_formatter, h]

/-- The lock age as the engine's tick finds it. -/
theorem recorded_age {s : State} (h : PositionInv s) (low : BitVec 4) : (recorded low s).position.age =
    if s.position.lock = .locked then min (s.position.age + 1) 65535 else 0 := by
  obtain ⟨_, _, _, hage, _, _⟩ := recorded_keeps low s
  rw [hage, ageAfter]
  split
  · rfl
  next hlock => exact h.ageZero hlock

/-- Settles O57: without LOCKED every end is an abort or a miss; and the comparison, entry by entry. -/
theorem noSpliceFrameWithoutLock : Obligations.NoSpliceFrameWithoutLock := by
  unfold Obligations.NoSpliceFrameWithoutLock
  refine ⟨fun s low hd hplay hinv hposition hlock hemission => ?_,
    fun s low hd hplay hinv hposition hemission harm hstate => ?_⟩
  · obtain ⟨hengine, _, hrlock, _, _, _⟩ := recorded_keeps low s
    have hrinv := hinv.recorded low
    have hage : (recorded low s).position.age = 0 := by rw [recorded_age hposition, if_neg hlock]
    obtain ⟨hquiet, hactive⟩ := engineTick_unlocked hrinv (by rw [hrlock]; exact hlock) hage (handedRequests s)
    obtain ⟨hsplice, hconceal⟩ := recorded_quiet low s
    have hexec := exec_frameTick hd hplay low
    rw [tickInPlay_of_no_emission hemission] at hexec
    refine ⟨_, hexec, hactive, fun e he => recorded_emission (low := low) hemission (hquiet.formatter ▸ he), ?_, ?_,
      fun c hc hactive hcursor => ?_⟩
    · exact (congrArg (·.fresh.splice) hquiet.output).trans hsplice
    · exact hquiet.conceal.trans hconceal
    · have hlost := engineTick_lostLock hrinv (by rw [hrlock]; exact hlock) (handedRequests s)
        (by rw [hengine]; exact hactive) (c := c) (by rw [hengine]; exact hc) (by rw [hengine]; exact hcursor)
      rw [hengine] at hlost
      exact hlost
  intro n w age execute
  obtain ⟨hengine, hw, _, _, hrate, _⟩ := recorded_keeps low s
  obtain ⟨hsplice, hconceal⟩ := recorded_quiet low s
  have hrinv := hinv.recorded low
  have hrage := recorded_age hposition low
  have hidle : s.formatter.state = .idle := by
    by_contra hno
    rw [hinv.exclusive hno] at hstate
    cases hstate
  have hformatter : (recorded low s).formatter = s.formatter := by rw [recorded_idle low hidle, ticked_formatter]
  have hexec := exec_frameTick hd hplay low
  have htick : spliced low s = compareEntries (cuesFromCursor (recorded low s)) (recorded low s) := by
    unfold spliced engineTick
    rw [foldl_abort_armed (handed_abort harm) (by rw [hengine]; exact hstate)]
    dsimp only
    rw [hengine, hstate]
  rw [tickInPlay_of_no_emission hemission, htick] at hexec
  have hrstate : (recorded low s).engine.state ≠ .active := by rw [hengine, hstate]; nofun
  have hfree : EngineFree (recorded low s) := hrinv.free (by rw [hengine, hstate]; nofun)
  generalize recorded low s = r at *
  refine ⟨_, hexec, fun hpassed => ?_, fun harmed d hd hcursor => ?_, fun c pre post hcues hcursor => ?_⟩
  · have hnone : cuesFromCursor r = [] := by rw [cuesFromCursor, hengine, hpassed]
    rw [hnone]
    exact hengine
  · have hlater := compareEntries_later (cuesFromCursor r) hfree hrstate rfl harmed d hd hcursor
    have hleaves := ((Work.refl r).compareEntries (cuesFromCursor r)).leaves
    rw [hleaves.position, hleaves.input, hw, hrate] at hlater
    exact hlater
  · have hids := hinv.cueList.split_ids hcues
    have hrcues : r.engine.cues = pre ++ c :: post := by rw [hengine]; exact hcues
    have hfrom : cuesFromCursor r = c :: post := cuesFromCursor_of_split hrcues hids (by rw [hengine]; exact hcursor)
    rw [hfrom]
    refine ⟨fun hlater => ?_, fun hmissed => ?_⟩
    · rw [compareEntries_stop fun d hd => by obtain rfl := Option.some.inj hd; rw [hw, hrate]; exact hlater]
      exact hengine
    · have hmiss := compareEntries_miss (c := c) (s := r) post (by rw [hw, hrate, hrage, hengine]; exact hmissed)
      have hreason : missReason c r = if c.startFrame n < w.toNat then .passed else .noLock := by
        rw [missReason, hw, hrate]
      have hrecord : missedRecord c (missReason c r) r =
          { id := c.id, mode := s.engine.arm.mode, outcome := .missed,
            reason := some (if c.startFrame n < w.toNat then .passed else .noLock), first := none, last := none,
            framesWritten := 0, degraded := 0, openEnded := false } := by
        rw [missedRecord, hreason, hengine]
      have hended := endEntry_ended hrcues hids (r := missedRecord c (missReason c r) r) rfl
      have hquiet := quiet_endEntry (missedRecord c (missReason c r) r) r
      have hheld := endEntry_held (r := missedRecord c (missReason c r) r) (s := r)
      have hcause := endEntry_pends (missedRecord c (missReason c r) r) r
      have hleaves := ((Work.refl r).endEntry (missedRecord c (missReason c r) r)).leaves
      have hwork (u : State) : Work u (compareEntries post u) := (Work.refl u).compareEntries post
      rw [missEntry] at hmiss
      rw [hmiss]
      refine ⟨(hwork _).raises.pends hcause, fun hexecute => ⟨fun d hd => ?_, ?_⟩, fun hwaits => ?_⟩
      · obtain ⟨x, hx, hid⟩ := (hwork _).ids d hd
        rw [hended, hengine] at hx
        have hx : x ∈ (if s.engine.arm.mode = .execute then pre ++ post
          else pre ++ { c with state := .pending, degraded := 0 } :: post) := hx
        rw [if_pos hexecute] at hx
        rw [← hid]
        exact hids x hx
      · exact (hwork _).held (hheld (by rw [hengine]; exact hexecute))
      · rw [compareEntries_stop fun d hd => by rw [hleaves.position, hleaves.input, hw, hrate]; exact hwaits d hd]
        refine ⟨?_, hquiet.formatter.trans hformatter, hquiet.conceal.trans hconceal,
          (congrArg (·.fresh.splice) hquiet.output).trans hsplice⟩
        show (endEntry (missedRecord c (missReason c r) r) r).engine = _
        rw [hended, hrecord, hengine]

end Sys2Proof.Machine
end

section
/-! PROOFS. The frame of an entry at its tick (O58): its samples, kind, mark, degraded count and phase (7.4). -/

namespace Sys2Proof.Machine

/-! ## The old side as the tick finds it -/

/-- The old side looks at the ring, the concealment unit and the rate. -/
theorem oldView_congr {s t : State} (w : FrameNo)
    (hring : t.ring.find? (fun e => e.number == w) = s.ring.find? (fun e => e.number == w))
    (hconceal : t.conceal = s.conceal) (hrate : t.input.rate = s.input.rate) : oldView w t = oldView w s := by
  rw [oldView, oldView, hring, hconceal, hrate]

/-- The sweep of a tick leaves the ring's frame of that number. -/
theorem find_sweep (w : FrameNo) (ring : List RingEntry) :
    (sweep w ring).find? (fun e => e.number == w) = ring.find? (fun e => e.number == w) := by
  rw [sweep, List.find?_filter]
  congr 1
  funext e
  by_cases h : e.number = w
  · simp [h]
  · simp [h]

theorem oldView_recorded (low : BitVec 4) (s : State) :
    oldView (s.position.w + 1) (recorded low s) = oldView (s.position.w + 1) s := by
  obtain ⟨_, _, _, _, hrate, _⟩ := recorded_keeps low s
  have hring : (recorded low s).ring = sweep (s.position.w + 1) s.ring := by rw [recorded, formatterTick_ring, ticked_ring]
  exact oldView_congr _ (by rw [hring, find_sweep]) (recorded_quiet low s).2 hrate

/-- The capture frame looks at the input unit. -/
theorem captureFor_congr {s t : State} (h : t.input = s.input) (x : FrameNo) : captureFor x t = captureFor x s := by
  rw [captureFor, captureFor, standIn, standIn, h]

/-! ## Samples by their regions (R104, R117) -/

theorem length_splicePairs (e : CueEntry) (base n : Nat) (olds news : List Pair) :
    (splicePairs e base n olds news).length = n := by simp [splicePairs]

theorem splicePairs_get (e : CueEntry) (base : Nat) {n i : Nat} (hi : i < n) (olds news : List Pair) :
    (splicePairs e base n olds news)[i]? = some (splicePair e.fade (olds.getD i Pair.zero) (news.getD i Pair.zero)
      (e.region (base + i))) := by
  simp only [splicePairs, List.getElem?_map, List.getElem?_range hi, Option.map_some, sideAt]

/-- A pair of a splice frame by the region of its position. -/
theorem splicePair_region (e : CueEntry) (o v : Pair) (p : Nat) : splicePair e.fade o v (e.region p) =
    if p < e.inPoint then o
    else if p < e.inPoint + e.fade then
      { l := crossfade o.l v.l (p - e.inPoint) e.fade, r := crossfade o.r v.r (p - e.inPoint) e.fade }
    else if p < e.outPoint then v
    else if p < e.outPoint + e.fade then
      { l := crossfade v.l o.l (p - e.outPoint) e.fade, r := crossfade v.r o.r (p - e.outPoint) e.fade }
    else o := by
  unfold CueEntry.region
  (repeat' split) <;> rfl

/-- The positions that take the old side: before the end of the fade-in, and beyond the out-point. -/
theorem takesOld_region {e : CueEntry} (hfade : 16 ≤ e.fade) (p : Nat) :
    takesOld e.fade (e.region p) = decide (p < e.inPoint + e.fade ∨ e.outPoint < p) := by
  unfold CueEntry.region
  split
  · simp only [takesOld]
    exact (decide_eq_true (.inl (by omega))).symm
  · split
    · simp only [takesOld]
      exact decide_eq_decide.mpr (by omega)
    · split
      · simp only [takesOld]
        exact (decide_eq_false (by omega)).symm
      · split
        · simp only [takesOld]
          exact decide_eq_decide.mpr (by omega)
        · simp only [takesOld]
          exact (decide_eq_true (by omega)).symm

/-! ## The frame from input, in the statement's terms -/

section
variable (e : CueEntry) (s : State)

/-- The old side of a frame from input; an INSERTED frame has none. -/
def inputView : OldView :=
  if inputInserted e s then { pairs := [], flags := [], mark := .free, conceal := s.conceal }
  else oldView s.position.w s

theorem inputOld_view : (inputOld e s).2.pairs = (inputView e s).pairs ∧ (inputOld e s).2.flags = (inputView e s).flags ∧
    (inputOld e s).1.conceal = (inputView e s).conceal := by
  unfold inputOld inputView
  split
  · exact ⟨rfl, rfl, rfl⟩
  · obtain ⟨hpairs, hflags, _, hconceal⟩ := fetchOld_view s
    exact ⟨hpairs, hflags, hconceal⟩

theorem inputInserted_iff : inputInserted e s = true ↔
    e.inPoint + e.fade ≤ s.position.w.toNat * spf s.input.rate ∧
      s.position.w.toNat * spf s.input.rate + spf s.input.rate ≤ e.outPoint := by
  simp [inputInserted, isInserted]

theorem inputFrame_pairs : (inputFrame e s).pairs = splicePairs e (s.position.w.toNat * spf s.input.rate) (spf s.input.rate)
    (inputView e s).pairs (captureFor (s.position.w - 2) s).pairs := by
  rw [← (inputOld_view e s).1]
  rfl

/-- The mark of the frame: the more restrictive of the new mark and the old one, an INSERTED frame having no old one. -/
theorem inputFrame_mark : (inputFrame e s).mark = stricter (captureFor (s.position.w - 2) s).ruling.mark (inputView e s).mark := by
  have hmark : (inputFrame e s).mark = if inputInserted e s then (captureFor (s.position.w - 2) s).ruling.mark
      else stricter (captureFor (s.position.w - 2) s).ruling.mark (inputOld e s).2.mark := rfl
  rw [hmark, inputView, inputOld]
  by_cases hinserted : inputInserted e s = true
  · rw [if_pos hinserted, if_pos hinserted]
    exact (if_neg (Nat.not_lt_zero _)).symm
  · rw [if_neg hinserted, if_neg hinserted, if_neg hinserted, (fetchOld_view s).2.2.1]

theorem inputFrame_kind : (inputFrame e s).kind = if inputInserted e s then .inserted else .splice := rfl

theorem inputDegraded_eq (hfade : 16 ≤ e.fade) :
     inputDegraded e s = (inputView e s).reduced (spf s.input.rate)
    (fun i => decide (s.position.w.toNat * spf s.input.rate + i < e.inPoint + e.fade ∨
      e.outPoint < s.position.w.toNat * spf s.input.rate + i)) := by
  rw [inputDegraded, (inputOld_view e s).2.1, degradedSamples_eq]
  simp only [takesOld_region hfade]

end

/-! ## An entry that plays at this tick -/

/-- The engine plays the entry `e`, on a part that has taken the tick up to the engine. -/
structure Plays (low : BitVec 4) (s v : State) (pre post : List CueEntry) (e : CueEntry) (run : EntryRun) : Prop where
  work : Work (recorded low s) v
  engine : v.engine = { s.engine with
    state := .active
    run := run
    cues := pre ++ e :: post }
  formatter : v.formatter = s.formatter
  lineage : v.lineage = (recorded low s).lineage
  output : v.output = (recorded low s).output
  conceal : v.conceal = s.conceal
  query : v.query = (recorded low s).query

section
variable {low : BitVec 4} {s v : State} {pre post : List CueEntry} {e : CueEntry} {run : EntryRun}

theorem Plays.w (h : Plays low s v pre post e run) : v.position.w = s.position.w + 1 := by
  rw [h.work.leaves.position]
  exact (recorded_keeps low s).2.1

theorem Plays.rate (h : Plays low s v pre post e run) : v.input.rate = s.input.rate := by
  obtain ⟨_, _, _, _, hrate, _⟩ := recorded_keeps low s
  rw [h.work.leaves.input, hrate]

theorem Plays.oldView (h : Plays low s v pre post e run) : oldView v.position.w v = oldView (s.position.w + 1) s := by
  rw [h.w, ← oldView_recorded low s]
  exact oldView_congr _ (by rw [h.work.leaves.ring]) (h.conceal.trans (recorded_quiet low s).2.symm)
    (by rw [h.work.leaves.input])

/-- The capture frame W − 2 of the tick. -/
theorem Plays.capture (h : Plays low s v pre post e run) (hinput : InputInv s) :
    (captureFor (v.position.w - 2) v).pairs = (nextCapture s).1 ∧
    (captureFor (v.position.w - 2) v).ruling = (nextCapture s).2 := by
  have hin : v.input = (ticked low s).input := by rw [h.work.leaves.input, recorded, formatterTick_input]
  rw [h.w, captureFor_congr hin, ← ticked_w low s]
  exact captureFor_ticked hinput low

theorem Plays.isExecute (h : Plays low s v pre post e run) : isExecute v = decide (s.engine.arm.mode = .execute) := by
  rw [Machine.isExecute, h.engine]
  rfl

end

/-- The stages of the tick before the engine leave the formatter of an engine that is not DISARMED as it is. -/
theorem recorded_formatter {s : State} (h : EngineInv s) (hs : s.engine.state ≠ .disarmed) (low : BitVec 4) :
    (recorded low s).formatter = s.formatter := by
  have hidle : s.formatter.state = .idle := by_contra fun hno => hs (h.exclusive hno)
  rw [recorded_idle low hidle, ticked_formatter]

/-- The capture frame W − 2 as an engine that is not DISARMED finds it. -/
theorem recorded_capture {s : State} (h : EngineInv s) (hs : s.engine.state ≠ .disarmed) (hinput : InputInv s) (low : BitVec 4) :
    (captureFor ((recorded low s).position.w - 2) (recorded low s)).pairs = (nextCapture s).1 ∧
    (captureFor ((recorded low s).position.w - 2) (recorded low s)).ruling = (nextCapture s).2 := by
  have hidle : s.formatter.state = .idle := by_contra fun hno => hs (h.exclusive hno)
  rw [recorded_idle low hidle]
  exact captureFor_ticked hinput low

/-- The comparison of an entry that starts at W. -/
theorem compareEntries_start {c : CueEntry} {s : State} (es : List CueEntry)
    (hstart : c.startFrame (spf s.input.rate) = s.position.w.toNat) (hage : s.engine.lockAgeReq ≤ s.position.age) :
    compareEntries (c :: es) s =
      if isExecute s ∧ (captureFor (s.position.w - 2) s).ruling = .refuse then compareEntries es (refuseEntry c s)
      else startEntry c s := by
  have hlater : ¬ s.position.w.toNat < c.startFrame (spf s.input.rate) := by omega
  have hearlier : ¬ c.startFrame (spf s.input.rate) < s.position.w.toNat := by omega
  rw [compareEntries, if_neg hlater, if_neg hearlier, if_neg (Nat.not_lt.mpr hage)]

section
variable {s : State} {pre post : List CueEntry} {c : CueEntry} (hinv : EngineInv s) (hinput : InputInv s) (low : BitVec 4)
  (hlock : s.position.lock = .locked) (hcues : s.engine.cues = pre ++ c :: post) (hcursor : s.engine.cursor = .entry c.id)
include hinv hinput hlock hcues hcursor

/-- The start tick of the cursor's entry. -/
theorem spliced_starts (harmed : s.engine.state = .armed)
    (harm : ∀ i : Fin 4, s.position.gpi[i].function = .arm → s.position.gpi[i].queue = [])
    (hstart : c.startFrame (spf s.input.rate) = (s.position.w + 1).toNat)
    (hage : s.engine.lockAgeReq ≤ min (s.position.age + 1) 65535)
    (hpermit : s.engine.arm.mode = .execute → (nextCapture s).2 ≠ .refuse) :
    spliced low s = produceFrame c.started (startedState c (recorded low s)) ∧
    Plays low s (startedState c (recorded low s)) pre post c.started EntryRun.empty ∧
    Pends .editStarted (spliced low s) := by
  have hs : s.engine.state ≠ .disarmed := by rw [harmed]; nofun
  obtain ⟨hengine, hw, _, hrage, hrate, _⟩ := recorded_keeps low s
  have hids := hinv.cueList.split_ids hcues
  have hrcues : (recorded low s).engine.cues = pre ++ c :: post := by rw [hengine]; exact hcues
  have hruling := (recorded_capture hinv hs hinput low).2
  obtain ⟨hformatter, hlineage, houtput, hconceal, hquery⟩ := startedState_fetched c (recorded low s)
  have hcompare : compareEntries (c :: post) (recorded low s) = startEntry c (recorded low s) := by
    have hage' : (recorded low s).engine.lockAgeReq ≤ (recorded low s).position.age := by
      rw [hrage, hengine, ageAfter, if_pos hlock]
      exact hage
    have hplays : ¬ (isExecute (recorded low s) = true ∧
        (captureFor ((recorded low s).position.w - 2) (recorded low s)).ruling = .refuse) := by
      rintro ⟨hm, hr⟩
      rw [isExecute, hengine, beq_iff_eq] at hm
      exact hpermit hm (hruling.symm.trans hr)
    rw [compareEntries_start post (by rw [hrate, hw]; exact hstart) hage', if_neg hplays]
  have htick : spliced low s = startEntry c (recorded low s) := by
    unfold spliced engineTick
    rw [foldl_abort_armed (handed_abort harm) (by rw [hengine]; exact harmed)]
    dsimp only
    rw [hengine, harmed]
    dsimp only
    rw [cuesFromCursor_of_split hrcues hids (by rw [hengine]; exact hcursor), hcompare]
  refine ⟨htick, ⟨startedState_work c _, ?_, ?_, hlineage, houtput, ?_, hquery⟩, ?_⟩
  · rw [startedState_engine hrcues hids, hengine, ← hcursor]
  · rw [hformatter, recorded_formatter hinv hs]
  · rw [hconceal, (recorded_quiet low s).2]
  · rw [htick, startEntry_eq]
    exact ((Work.refl _).produceFrame c.started).raises.pends (raise_hasCause_self _ _)

/-- A later tick of the entry, with no abort set or handed. -/
theorem spliced_goesOn (hactive : s.engine.state = .active)
    (habort : ∀ i : Fin 4, s.position.gpi[i].function = .abort → s.position.gpi[i].queue = [])
    (hpending : s.engine.pendingAbort = false) (hpermit : s.engine.arm.mode = .execute → (nextCapture s).2 ≠ .refuse) :
    spliced low s = produceFrame c (recorded low s) ∧ Plays low s (recorded low s) pre post c s.engine.run := by
  have hs : s.engine.state ≠ .disarmed := by rw [hactive]; nofun
  obtain ⟨hengine, hw, hrlock, _, hrate, _⟩ := recorded_keeps low s
  have hids := hinv.cueList.split_ids hcues
  have hrcues : (recorded low s).engine.cues = pre ++ c :: post := by rw [hengine]; exact hcues
  have hruling := (recorded_capture hinv hs hinput low).2
  have hcue := cursorCue_of_split hrcues hids (by rw [hengine]; exact hcursor)
  have hnone : (handedRequests s).contains .abort = false := by
    rw [List.contains_eq_mem, decide_eq_false_iff_not, abort_mem_handedRequests]
    exact fun ⟨i, hf, hq⟩ => hq (habort i hf)
  have hfold : (handedRequests s).foldl engineRequest (recorded low s) = recorded low s :=
    foldl_active_none (by rw [hengine]; exact hactive) hnone
  have hplays : ¬ (isExecute (recorded low s) = true ∧
      (captureFor ((recorded low s).position.w - 2) (recorded low s)).ruling = .refuse) := by
    rintro ⟨hm, hr⟩
    rw [isExecute, hengine, beq_iff_eq] at hm
    exact hpermit hm (hruling.symm.trans hr)
  refine ⟨?_, ⟨.refl _, ?_, recorded_formatter hinv hs low, rfl, rfl, (recorded_quiet low s).2, rfl⟩⟩
  · unfold spliced engineTick
    rw [hfold]
    dsimp only
    rw [hengine, hactive]
    dsimp only
    rw [activeTick, hcue]
    dsimp only
    rw [if_neg (by rw [hrlock]; exact not_not.mpr hlock), if_neg hplays, hengine, hpending, if_neg Bool.false_ne_true]
  · rw [hengine, ← hcues, ← hactive]

end

end Sys2Proof.Machine
end

section
/-! PROOFS. FRAME_TICK of an entry (O58): start, later ticks, last frame, and the start that finds REFUSE. -/

namespace Sys2Proof.Machine

/-! ## What follows the production of a frame -/

theorem awaitEnd_engine (x : Ending) (s : State) :
    (awaitEnd x s).engine = { s.engine with run := { s.engine.run with ending := some x } } := rfl

/-- The end of an entry at its last frame touches neither formatter, nor output unit, nor concealment unit. -/
theorem quiet_produceFrame (e : CueEntry) (s : State) : Quiet (produceInput e s) (produceFrame e s) := by
  have hend (o : EntryOutcome) (x : Option Reason) (b : Bool) (u : State) : Quiet u (endActive o x b u) :=
    ⟨endActive_formatter o x b u, endActive_output o x b u, endActive_conceal o x b u⟩
  by_cases hlast : s.position.w.toNat = e.lastFrame (spf s.input.rate)
  · cases hm : s.engine.arm.mode with
    | execute => rw [produceFrame_execute hlast hm]; exact ⟨rfl, rfl, rfl⟩
    | rehearse => rw [produceFrame_rehearse hlast hm]; exact hend _ _ _ _
  · rw [produceFrame_short hlast]
    exact .refl _

/-- In EXECUTE a frame from input closes the open span (R142). -/
theorem produceFrame_span {e : CueEntry} {s : State} (hm : s.engine.arm.mode = .execute)
    (h : (produceInput e s).lineage.span = none) : (produceFrame e s).lineage.span = none := by
  by_cases hlast : s.position.w.toNat = e.lastFrame (spf s.input.rate)
  · rw [produceFrame_execute hlast hm]
    exact h
  · rw [produceFrame_short hlast]
    exact h

/-- The run of an entry once its frame W is produced. -/
def EntryRun.after (run : EntryRun) (w : FrameNo) (execute last : Bool) (f : SpliceFrame) : EntryRun :=
  { run.produced w execute f with ending := if last then some .complete else run.ending }

theorem EntryRun.after_eq (run : EntryRun) (w : FrameNo) (p q : Prop) [Decidable p] [Decidable q] (f : SpliceFrame) :
    run.after w (decide p) (decide q) f = { run with
      first := some (run.first.getD w)
      last := if p then run.last else some w
      endPair := (f.pairs.getLast?).getD Pair.zero
      endMark := f.mark
      ending := if q then some .complete else run.ending } := by
  by_cases hp : p <;> by_cases hq : q <;> simp [EntryRun.after, EntryRun.produced, hp, hq]

section
variable {s : State} {pre post : List CueEntry} {e : CueEntry} (hcues : s.engine.cues = pre ++ e :: post)
  (hids : ∀ d ∈ pre ++ post, d.id ≠ e.id)
include hcues hids

/-- In EXECUTE, and before the last frame, the entry stays ACTIVE. -/
theorem produceFrame_engine
    (h : s.engine.arm.mode = .execute ∨ s.position.w.toNat ≠ e.lastFrame (spf s.input.rate)) :
    (produceFrame e s).engine = { s.engine with
      cues := pre ++ e.produced s :: post
      run := s.engine.run.after s.position.w (isExecute s)
        (decide (s.position.w.toNat = e.lastFrame (spf s.input.rate))) (inputFrame e s) } := by
  obtain ⟨hmade, _⟩ := produceInput_made hcues hids
  have hengine := hmade.engine
  by_cases hlast : s.position.w.toNat = e.lastFrame (spf s.input.rate)
  · have hm := h.resolve_right (not_not.mpr hlast)
    rw [produceFrame_execute hlast hm, awaitEnd_engine, hengine, EntryRun.after, decide_eq_true hlast, if_pos rfl]
    rfl
  · rw [produceFrame_short hlast, hengine, EntryRun.after, decide_eq_false hlast, if_neg Bool.false_ne_true]
    rfl

end

/-! ## The tick of an entry -/

section
variable {low : BitVec 4} {s v : State} {pre post : List CueEntry} {e : CueEntry} {run : EntryRun}

/-- The old side of the tick's frame. -/
theorem Plays.inputView (h : Plays low s v pre post e run) : inputView e v =
    if e.inPoint + e.fade ≤ (s.position.w + 1).toNat * spf s.input.rate ∧
        (s.position.w + 1).toNat * spf s.input.rate + spf s.input.rate ≤ e.outPoint
    then { pairs := [], flags := [], mark := .free, conceal := s.conceal }
    else Machine.oldView (s.position.w + 1) s := by
  have hinserted := inputInserted_iff e v
  rw [h.w, h.rate] at hinserted
  rw [Machine.inputView, h.oldView, h.conceal]
  by_cases hnew : inputInserted e v = true
  · rw [if_pos hnew, if_pos (hinserted.mp hnew)]
  · rw [if_neg hnew, if_neg (hinserted.not.mp hnew)]

theorem Plays.inputFrame_kind (h : Plays low s v pre post e run) : (inputFrame e v).kind =
    if e.inPoint + e.fade ≤ (s.position.w + 1).toNat * spf s.input.rate ∧
        (s.position.w + 1).toNat * spf s.input.rate + spf s.input.rate ≤ e.outPoint
    then .inserted else .splice := by
  have hinserted := inputInserted_iff e v
  rw [h.w, h.rate] at hinserted
  rw [Machine.inputFrame_kind]
  by_cases hnew : inputInserted e v = true
  · rw [if_pos hnew, if_pos (hinserted.mp hnew)]
  · rw [if_neg hnew, if_neg (hinserted.not.mp hnew)]

theorem Plays.inputPhase (h : Plays low s v pre post e run) : inputPhase e v =
    phaseAt e ((s.position.w + 1).toNat * spf s.input.rate + spf s.input.rate - 1) := by
  rw [Machine.inputPhase, h.w, h.rate]

theorem Plays.spliceSubcode (h : Plays low s v pre post e run) (f : SpliceFrame) : spliceSubcode f e v =
    { number := s.position.w + 1, program := e.program, take := e.take, mark := f.mark, rate := s.input.rate,
      kind := f.kind, refused := f.refused } := by
  rw [Machine.spliceSubcode, h.w, h.rate]

end

/-- A tick at which an entry starts, or goes on with no abort, produces its frame from input. -/
theorem entry_plays {s : State} {pre post : List CueEntry} {c : CueEntry} (hinv : EngineInv s) (hinput : InputInv s)
    (low : BitVec 4) (hlock : s.position.lock = .locked) (hcues : s.engine.cues = pre ++ c :: post)
    (hcursor : s.engine.cursor = .entry c.id)
    (hcase : (s.engine.state = .armed ∧
        (∀ i : Fin 4, s.position.gpi[i].function = .arm → s.position.gpi[i].queue = []) ∧
        c.startFrame (spf s.input.rate) = (s.position.w + 1).toNat ∧
        s.engine.lockAgeReq ≤ min (s.position.age + 1) 65535) ∨
      (s.engine.state = .active ∧
        (∀ i : Fin 4, s.position.gpi[i].function = .abort → s.position.gpi[i].queue = []) ∧
        s.engine.pendingAbort = false))
    (hpermit : s.engine.arm.mode = .execute → (nextCapture s).2 ≠ .refuse) :
    ∃ v e, spliced low s = produceFrame e v ∧
      Plays low s v pre post e (if s.engine.state = .armed then EntryRun.empty else s.engine.run) ∧
      e = { c with state := e.state, degraded := if s.engine.state = .armed then 0 else c.degraded } ∧
      (s.engine.state = .armed → Pends .editStarted (spliced low s)) := by
  obtain ⟨harmed, harm, hstart, hage⟩ | ⟨hactive, habort, hpending⟩ := hcase
  · obtain ⟨htick, hplays, hcause⟩ := spliced_starts hinv hinput low hlock hcues hcursor harmed harm hstart hage hpermit
    rw [if_pos harmed, if_pos harmed]
    exact ⟨_, _, htick, hplays, rfl, fun _ => hcause⟩
  · have hno : s.engine.state ≠ .armed := by rw [hactive]; nofun
    obtain ⟨htick, hplays⟩ := spliced_goesOn hinv hinput low hlock hcues hcursor hactive habort hpending hpermit
    rw [if_neg hno, if_neg hno]
    exact ⟨_, _, htick, hplays, rfl, fun h => absurd h hno⟩

/-! ## The start that finds REFUSE (R127) -/

/-- In EXECUTE the end of an entry is an end report to the guard, which finds the spans as they were. -/
theorem endEntry_closes (r : SpliceRecord) {s : State} (h : s.engine.arm.mode = .execute) :
    ∃ u, endEntry r s = closeSpan u ∧ u.lineage = s.lineage := by
  have hmode : (advanceCursor (follower r.id s.engine.cues)
      (leaveList r.id (raise (outcomeCause r.outcome) (logRecord r s)))).engine.arm.mode = .execute := by
    obtain ⟨_, _, harm, _, he⟩ := endEntry_engine r s
    rw [endEntry, reportEnd_engine] at he
    rw [he, Engine.pointTo_arm, harm, h]
  refine ⟨_, by rw [endEntry, reportEnd, hmode], ?_⟩
  show (leaveList r.id (raise (outcomeCause r.outcome) (logRecord r s))).lineage = _
  rw [leaveList_lineage, raise_lineage]
  rfl

/-- What a start refused in EXECUTE leaves: the entry ended, its refused span opened or extended, and closed. -/
structure RefusedStart (s t : State) (c : CueEntry) (pre post : List CueEntry) : Prop where
  work : Work s t
  quiet : Quiet s t
  engine : t.engine = s.engine.ended (pre ++ post) post
    { id := c.id, mode := .execute, outcome := .refused, reason := none, first := none, last := none,
      framesWritten := 0, degraded := 0, openEnded := false }
  aborted : Pends .editAborted t
  opened : s.lineage.span = none → Pends .copyRefused t
  resumed : Pends .copyResumed t
  span : t.lineage.span = none
  refusals : t.lineage.refusals = shutList (reportedSpan s.position.w (.edit c.id) s.lineage).listed s.position.w
    (reportedList s.position.w (.edit c.id) s.lineage)
  released : ∀ q ∈ t.query.entries, q.state ≠ .held c.id

theorem refuseEntry_refused {s : State} {pre post : List CueEntry} {c : CueEntry} (hcues : s.engine.cues = pre ++ c :: post)
    (hids : ∀ d ∈ pre ++ post, d.id ≠ c.id) (hm : s.engine.arm.mode = .execute) :
    RefusedStart s (refuseEntry c s) c pre post := by
  have hengine := refusedReport_engine s.position.w (.edit c.id) s
  have hspan := refusedReport_span s.position.w (.edit c.id) s
  have hrefusals := refusedReport_refusals s.position.w (.edit c.id) s
  have hopened := refusedReport_pends s.position.w (.edit c.id) s
  have hwork : Work s (refusedReport s.position.w (.edit c.id) s) := (Work.refl s).refused _ _
  have hquiet : Quiet s (refusedReport s.position.w (.edit c.id) s) :=
    ⟨refusedReport_formatter _ _ _, refusedReport_output _ _ _, refusedReport_conceal _ _ _⟩
  have hrecord : refusedRecord c (refusedReport s.position.w (.edit c.id) s) =
      { id := c.id, mode := .execute, outcome := .refused, reason := none, first := none, last := none,
        framesWritten := 0, degraded := 0, openEnded := false } := by rw [refusedRecord, hengine, hm]
  rw [refuseEntry, hrecord]
  generalize refusedReport s.position.w (.edit c.id) s = u at *
  have hmode : u.engine.arm.mode = .execute := by rw [hengine, hm]
  obtain ⟨x, hx, hlineage⟩ := endEntry_closes
    { id := c.id, mode := .execute, outcome := .refused, reason := none, first := none, last := none,
      framesWritten := 0, degraded := 0, openEnded := false } hmode
  obtain ⟨hshut, hlist, hresumed⟩ := closeSpan_reported x s.position.w (.edit c.id) (l := s.lineage)
    (by rw [hlineage, hspan]) (by rw [hlineage, hrefusals])
  rw [← hx] at hshut hlist hresumed
  have hended := endEntry_ended (s := u) (by rw [hengine]; exact hcues) hids (r :=
    { id := c.id, mode := .execute, outcome := .refused, reason := none, first := none, last := none,
      framesWritten := 0, degraded := 0, openEnded := false }) rfl
  rw [if_pos hmode, hengine] at hended
  exact ⟨hwork.endEntry _, hquiet.trans (quiet_endEntry _ _), hended, endEntry_pends _ _,
    fun h => ((Work.refl u).endEntry _).raises.pends (hopened h), hresumed, hshut, hlist, endEntry_held hmode⟩

/-- The tick of a refused start: the comparison passes on to an entry that starts above W. -/
theorem spliced_refused {s : State} {pre post : List CueEntry} {c : CueEntry} (hinv : EngineInv s) (hinput : InputInv s)
    (low : BitVec 4) (hlock : s.position.lock = .locked) (hcues : s.engine.cues = pre ++ c :: post)
    (hcursor : s.engine.cursor = .entry c.id) (harmed : s.engine.state = .armed)
    (harm : ∀ i : Fin 4, s.position.gpi[i].function = .arm → s.position.gpi[i].queue = [])
    (hstart : c.startFrame (spf s.input.rate) = (s.position.w + 1).toNat)
    (hage : s.engine.lockAgeReq ≤ min (s.position.age + 1) 65535)
    (hm : s.engine.arm.mode = .execute) (hrefuse : (nextCapture s).2 = .refuse) :
    spliced low s = refuseEntry c (recorded low s) := by
  have hs : s.engine.state ≠ .disarmed := by rw [harmed]; nofun
  obtain ⟨hengine, hw, _, hrage, hrate, _⟩ := recorded_keeps low s
  have hids := hinv.cueList.split_ids hcues
  have hruling := (recorded_capture hinv hs hinput low).2
  have habort := foldl_abort_armed (handed_abort harm) (s := recorded low s) (by rw [hengine]; exact harmed)
  have hlater (d : CueEntry) (hd : post.head? = some d) :
      (s.position.w + 1).toNat < d.startFrame (spf s.input.rate) := by
    have hdisjoint := hinv.cueList.disjoint
    rw [hcues] at hdisjoint
    obtain ⟨_, hafter, _⟩ := List.pairwise_append.mp hdisjoint
    have hlt := (List.pairwise_cons.mp hafter).1 d (List.mem_of_mem_head? hd)
    have hrange := (hinv.cueList.ranges c (by rw [hcues]; simp)).start_le_last
    omega
  unfold spliced engineTick
  rw [habort]
  dsimp only
  rw [hengine, harmed]
  dsimp only
  generalize recorded low s = r at *
  have hleaves := ((Work.refl r).refuseEntry c).leaves
  rw [cuesFromCursor_of_split (by rw [hengine]; exact hcues) hids (by rw [hengine]; exact hcursor),
    compareEntries_start post (by rw [hrate, hw]; exact hstart)
      (by rw [hrage, hengine, ageAfter, if_pos hlock]; exact hage),
    if_pos ⟨by rw [isExecute, hengine, hm]; rfl, hruling.trans hrefuse⟩]
  exact compareEntries_stop fun d hd => by rw [hleaves.position, hleaves.input, hw, hrate]; exact hlater d hd

/-- Settles O58: the frame of an entry that starts or goes on, and the start that finds REFUSE. -/
theorem entryStartsAtItsStartTick : Obligations.EntryStartsAtItsStartTick := by
  unfold Obligations.EntryStartsAtItsStartTick
  refine ⟨fun s low c pre post hd hplay hinv hinput hemission hlock hcues hcursor => ?_,
    fun s low c pre post hd hplay hinv hinput hemission hlock harmed harm hcues hcursor hstart hage hexecute hrefuse => ?_⟩
  · intro n w base execute free starts goesOn hcase hpermit inserted old newMark mark run degraded last phase
    have hids := hinv.cueList.split_ids hcues
    have hrange := hinv.cueList.ranges c (by rw [hcues]; simp)
    obtain ⟨v, e, htick, hplays, hentry, hstarted⟩ := entry_plays hinv hinput low hlock hcues hcursor hcase hpermit
    replace hplays : Plays low s v pre post e run := hplays
    have hexec := exec_frameTick hd hplay low
    rw [tickInPlay_of_no_emission hemission] at hexec
    have hin : e.inPoint = c.inPoint := by rw [hentry]
    have hout : e.outPoint = c.outPoint := by rw [hentry]
    have hfade : e.fade = c.fade := by rw [hentry]
    have hid : e.id = c.id := by rw [hentry]
    have hprogram : e.program = c.program := by rw [hentry]
    have htake : e.take = c.take := by rw [hentry]
    have heids : ∀ d ∈ pre ++ post, d.id ≠ e.id := by rw [hid]; exact hids
    have hvcues : v.engine.cues = pre ++ e :: post := by rw [hplays.engine]
    have hvmode : v.engine.arm.mode = s.engine.arm.mode := by rw [hplays.engine]
    have hlast : e.lastFrame n = c.lastFrame n := by rw [CueEntry.lastFrame, hout, hfade]; rfl
    obtain ⟨hpairs, hruling⟩ := hplays.capture hinput
    obtain ⟨hmade, hspan, _⟩ := produceInput_made hvcues heids
    have hquiet := quiet_produceFrame e v
    have hview : inputView e v = old := by rw [hplays.inputView, hin, hout, hfade]
    have hfpairs : (inputFrame e v).pairs = splicePairs e base n old.pairs (nextCapture s).1 := by
      rw [inputFrame_pairs, hview, hpairs, hplays.w, hplays.rate]
    have hfmark : (inputFrame e v).mark = mark := by
      rw [inputFrame_mark, hview, hruling]
      rfl
    have hfkind : (inputFrame e v).kind = if inserted then .inserted else .splice := by
      rw [hplays.inputFrame_kind, hin, hout, hfade]
    have hproduced : e.produced v = { c with state := .active phase, degraded := degraded } := by
      have hphase : inputPhase e v = phase := by
        rw [hplays.inputPhase, phaseAt, hin, hout, hfade]
      have hdegraded : satAdd Config.max32 e.degraded (inputDegraded e v) = degraded := by
        rw [inputDegraded_eq e v (by rw [hfade]; exact hrange.fadeLow), hview, hplays.w, hplays.rate, hin, hout, hfade,
          congrArg CueEntry.degraded hentry]
        rfl
      rw [CueEntry.produced, hphase, hdegraded, hentry]
    clear_value old mark degraded phase run
    have hexecute := hplays.isExecute
    refine ⟨_, (inputFrame e v).pairs, hexec, ?_, fun i hi => ?_, hstarted, ?_, ?_, ?_, fun hm => ?_, fun hstays => ?_,
      fun hends => ?_⟩
    · rw [hfpairs, length_splicePairs]
    · rw [hfpairs, splicePairs_get e base hi, splicePair_region, hin, hout, hfade]
    · show (spliced low s).conceal = _
      rw [htick, hquiet.conceal, hmade.conceal, (inputOld_view e v).2.2, hview]
    · show (spliced low s).output.fresh.splice = _
      rw [htick, hquiet.output, hmade.output, hfmark]
    · show (spliced low s).formatter.emission = _
      rw [htick, hquiet.formatter, hmade.formatter, hexecute, hplays.formatter, hplays.spliceSubcode, hplays.w, hfmark,
        hfkind, hprogram, htake]
      by_cases hm : s.engine.arm.mode = .execute
      · rw [decide_eq_true hm, if_pos rfl, if_pos hm]
        rfl
      · rw [decide_eq_false hm, if_neg Bool.false_ne_true, if_neg hm]
        exact hemission
    · show (spliced low s).lineage.span = _
      rw [htick]
      exact produceFrame_span (hvmode.trans hm) (hspan (hvmode.trans hm))
    · show (spliced low s).engine = _
      rw [htick, produceFrame_engine hvcues heids (by rw [hvmode, hplays.w, hplays.rate, hlast]; exact hstays), hproduced,
        hexecute, hplays.w, hplays.rate, hplays.engine, EntryRun.after_eq, hfmark, hlast]
    · obtain ⟨hm, hends⟩ := hends
      have hrehearse : s.engine.arm.mode = .rehearse := by
        cases h : s.engine.arm.mode with
        | execute => exact absurd h hm
        | rehearse => rfl
      obtain ⟨hended, hengine⟩ := produceFrame_rehearsed (e := e) hvcues heids (by rw [hplays.engine, hid]; exact hcursor)
        (by rw [hplays.w, hplays.rate, hlast]; exact hends) (hvmode.trans hrehearse)
      refine ⟨?_, ?_⟩
      · show (spliced low s).engine = _
        have hback : ({ e with state := .pending, degraded := 0 } : CueEntry) = { c with state := .pending, degraded := 0 } := by
          rw [hentry]
        have hrecord : activeRecord (e.produced v) .rehearsed none false (produceInput e v) =
            { id := c.id, mode := .rehearse, outcome := .rehearsed, reason := none, first := some (run.first.getD w),
              last := some w, framesWritten := run.framesWritten, degraded := degraded, openEnded := false } := by
          rw [activeRecord, hmade.engine, hproduced, hexecute, hplays.w, hplays.engine, hrehearse]
          rfl
        rw [htick, hengine, hback, hrecord, hplays.engine]
        rfl
      · show Pends _ (spliced low s)
        rw [htick, hended]
        exact endEntry_pends _ _
  · have hs : s.engine.state ≠ .disarmed := by rw [harmed]; nofun
    have hids := hinv.cueList.split_ids hcues
    obtain ⟨hengine, hw, _, _, _, _⟩ := recorded_keeps low s
    obtain ⟨hsplice, hconceal⟩ := recorded_quiet low s
    have hformatter := recorded_formatter hinv hs low
    have hidle : s.formatter.state = .idle := by_contra fun hno => hs (hinv.exclusive hno)
    have hspan : (recorded low s).lineage.span = s.lineage.span := by rw [recorded_idle low hidle, ticked_span]
    have hrefusals : (recorded low s).lineage.refusals = s.lineage.refusals := by
      rw [recorded_idle low hidle, ticked_refusals]
    have hexec := exec_frameTick hd hplay low
    rw [tickInPlay_of_no_emission hemission,
      spliced_refused hinv hinput low hlock hcues hcursor harmed harm hstart hage hexecute hrefuse] at hexec
    have hrefused := refuseEntry_refused (c := c) (by rw [hengine]; exact hcues) hids (by rw [hengine]; exact hexecute)
    generalize recorded low s = r at *
    refine ⟨_, hexec, ?_, ?_, ?_, ?_, hrefused.aborted, fun h => hrefused.opened (hspan.trans h), hrefused.resumed,
      hrefused.span, fun hno hroom => ?_, hrefused.released⟩
    · exact hrefused.engine.trans (by rw [hengine])
    · exact (congrArg (·.emission) (hrefused.quiet.formatter.trans hformatter)).trans hemission
    · exact (congrArg (·.fresh.splice) hrefused.quiet.output).trans hsplice
    · exact hrefused.quiet.conceal.trans hconceal
    · show (refuseEntry c r).lineage.refusals.getLast? = _
      rw [hrefused.refusals, reportedSpan_none (hspan.trans hno), reportedList_none (hspan.trans hno), hrefusals,
        if_pos hroom, hw, shutList]
      simp [hroom]

end Sys2Proof.Machine
end

section
/-! PROOFS. Crossfades (R117) and the emergency fade of an ACTIVE entry (R126, R130; O56). -/

namespace Sys2Proof.Machine

/-! ## The nearest rounding -/

/-- Rounding away from zero gives the nearest integer, and of two equally near ones the greater in magnitude. -/
theorem roundAway_near (num : Int) {den : Nat} (h : 1 ≤ den) :
    2 * (den * roundAway num den - num).natAbs ≤ den ∧
    (2 * (den * roundAway num den - num).natAbs = den → num.natAbs < (den * roundAway num den).natAbs) := by
  have hlow := Nat.mul_div_le (2 * num.natAbs + den) (2 * den)
  have hhigh := Nat.lt_mul_div_succ (2 * num.natAbs + den) (b := 2 * den) (by omega)
  unfold roundAway
  generalize (2 * num.natAbs + den) / (2 * den) = m at hlow hhigh
  have hcast : (den : Int) * (m : Int) = ((den * m : Nat) : Int) := (Int.natCast_mul den m).symm
  rw [Nat.mul_assoc] at hlow
  rw [Nat.mul_add, Nat.mul_assoc] at hhigh
  split
  · rw [Int.mul_neg, hcast]
    omega
  · rw [hcast]
    omega

/-- The rounding of an exact quotient is that quotient. -/
theorem roundAway_mul (a : Int) {den : Nat} (h : 1 ≤ den) : roundAway (a * den) den = a := by
  obtain ⟨hnear, _⟩ := roundAway_near (a * den) h
  rw [Int.mul_comm a, ← Int.mul_sub, Int.natAbs_mul, Int.natAbs_natCast] at hnear
  rw [Int.mul_comm a]
  generalize roundAway (den * a) den = q at hnear
  by_contra hne
  have hpos : 1 ≤ (q - a).natAbs := by omega
  have := Nat.le_mul_of_pos_right den hpos
  omega

/-- A rounded quotient lies between integers that the exact one lies between. -/
theorem roundAway_between {num lo hi : Int} {den : Nat} (h : 1 ≤ den) (hlo : den * lo ≤ num) (hhi : num ≤ den * hi) :
    lo ≤ roundAway num den ∧ roundAway num den ≤ hi := by
  obtain ⟨hnear, _⟩ := roundAway_near num h
  generalize roundAway num den = q at hnear
  refine ⟨?_, ?_⟩
  · by_contra hlt
    have hstep : (den : Int) * (q + 1) ≤ den * lo := Int.mul_le_mul_of_nonneg_left (by omega) (by omega)
    rw [Int.mul_add] at hstep
    omega
  · by_contra hlt
    have hstep : (den : Int) * (hi + 1) ≤ den * q := Int.mul_le_mul_of_nonneg_left (by omega) (by omega)
    rw [Int.mul_add] at hstep
    omega

section
variable (a b : Sample) {k f : Nat} (hf : 1 ≤ f) (hk : k ≤ f)
include hk

/-- The exact crossfade, times F, lies between F times its inputs. -/
theorem mix_between : f * min a.toInt b.toInt ≤ a.toInt * ((f : Int) - k) + b.toInt * k ∧
    a.toInt * ((f : Int) - k) + b.toInt * k ≤ f * max a.toInt b.toInt := by
  have hweight : (0 : Int) ≤ (f : Int) - k := by omega
  have hsplit (x : Int) : (f : Int) * x = x * ((f : Int) - k) + x * k := by ring
  rw [hsplit, hsplit]
  exact ⟨Int.add_le_add (Int.mul_le_mul_of_nonneg_right (min_le_left _ _) hweight)
      (Int.mul_le_mul_of_nonneg_right (min_le_right _ _) (Int.natCast_nonneg k)),
    Int.add_le_add (Int.mul_le_mul_of_nonneg_right (le_max_left _ _) hweight)
      (Int.mul_le_mul_of_nonneg_right (le_max_right _ _) (Int.natCast_nonneg k))⟩

include hf

theorem mix_round_between : min a.toInt b.toInt ≤ roundAway (a.toInt * ((f : Int) - k) + b.toInt * k) f ∧
    roundAway (a.toInt * ((f : Int) - k) + b.toInt * k) f ≤ max a.toInt b.toInt := by
  obtain ⟨hlow, hhigh⟩ := mix_between a b hk
  exact roundAway_between hf hlow hhigh

/-- The rounding stays in the sample range. -/
theorem toInt_crossfade : (crossfade a b k f).toInt = roundAway (a.toInt * ((f : Int) - k) + b.toInt * k) f := by
  obtain ⟨hlow, hhigh⟩ := mix_round_between a b hf hk
  obtain ⟨ha, ha'⟩ := sample_range a
  obtain ⟨hb, hb'⟩ := sample_range b
  exact toInt_sampleOf (by omega) (by omega)

end

theorem crossfade_first (a b : Sample) {f : Nat} (hf : 1 ≤ f) : crossfade a b 0 f = a := by
  have hexact : a.toInt * ((f : Int) - (0 : Nat)) + b.toInt * (0 : Nat) = a.toInt * f := by simp
  rw [crossfade, hexact, roundAway_mul _ hf, sampleOf, BitVec.ofInt_toInt]

theorem crossfade_last (a b : Sample) {f : Nat} (hf : 1 ≤ f) : crossfade a b f f = b := by
  have hexact : a.toInt * ((f : Int) - f) + b.toInt * f = b.toInt * f := by simp
  rw [crossfade, hexact, roundAway_mul _ hf, sampleOf, BitVec.ofInt_toInt]

/-! ## The emergency fade's frame (R126) -/

theorem length_fadePairs (hc : Pair) (n : Nat) (olds : List Pair) : (fadePairs hc n olds).length = n := by simp [fadePairs]

theorem fadePairs_get (hc : Pair) {n i : Nat} (hi : i < n) (olds : List Pair) : (fadePairs hc n olds)[i]? = some
    (if i < 16 then { l := crossfade hc.l (olds.getD i Pair.zero).l i 16, r := crossfade hc.r (olds.getD i Pair.zero).r i 16 }
      else olds.getD i Pair.zero) := by
  simp only [fadePairs, List.getElem?_map, List.getElem?_range hi, Option.map_some, sideAt, fadeSample]
  split <;> rfl

section
variable (s : State) (refusal : Bool)

theorem fadeFrame_pairs : (fadeFrame s refusal).pairs =
    fadePairs s.engine.run.endPair (spf s.input.rate) (oldView s.position.w s).pairs := by
  rw [← (fetchOld_view s).1]
  rfl

theorem fadeFrame_mark : (fadeFrame s refusal).mark = stricter s.engine.run.endMark (oldView s.position.w s).mark := by
  rw [← (fetchOld_view s).2.2.1]
  rfl

theorem fadeDegraded_eq : fadeDegraded s =
    (oldView s.position.w s).reduced (spf s.input.rate) (fun i => decide (1 ≤ i)) := by
  rw [fadeDegraded, (fetchOld_view s).2.1, degradedSamples_eq]

end

/-- A report to the guard leaves what a splice frame made. -/
theorem SpliceMade.refused {s t : State} {f : SpliceFrame} {e : CueEntry} {cues : List CueEntry} {c : Conceal}
    (h : SpliceMade s t f e cues c) (w : FrameNo) (x : SpanContext) : SpliceMade s (refusedReport w x t) f e cues c :=
  ⟨h.work.refused w x, (refusedReport_engine w x t).trans h.engine, (refusedReport_formatter w x t).trans h.formatter,
    (refusedReport_output w x t).trans h.output, (refusedReport_conceal w x t).trans h.conceal,
    (refusedReport_query w x t).trans h.query⟩

/-! ## The tick that aborts the ACTIVE entry (R118, R130) -/

/-- The part as the ACTIVE engine's tick finds it, the GPI requests taken. -/
def requested (low : BitVec 4) (s : State) : State :=
  (recorded low s).setEngine { s.engine with
    pendingAbort := s.engine.pendingAbort || (handedRequests s).contains .abort }

theorem requested_engine (low : BitVec 4) (s : State) : (requested low s).engine = { s.engine with
    pendingAbort := s.engine.pendingAbort || (handedRequests s).contains .abort } := rfl

/-- An abort is pending at the tick when it was set before, or an ABORT request is handed. -/
theorem requested_pendingAbort (low : BitVec 4) (s : State) : (requested low s).engine.pendingAbort = true ↔
    s.engine.pendingAbort = true ∨ ∃ i : Fin 4, s.position.gpi[i].function = .abort ∧ s.position.gpi[i].queue ≠ [] := by
  rw [requested_engine, Bool.or_eq_true, List.contains_iff_mem, abort_mem_handedRequests]

theorem requested_w (low : BitVec 4) (s : State) : (requested low s).position.w = s.position.w + 1 := by
  obtain ⟨_, hw, _⟩ := recorded_keeps low s
  rw [requested, State.setEngine_position, hw]

theorem requested_rate (low : BitVec 4) (s : State) : (requested low s).input.rate = s.input.rate := by
  obtain ⟨_, _, _, _, hrate, _⟩ := recorded_keeps low s
  rw [requested, State.setEngine_input, hrate]

theorem requested_oldView (low : BitVec 4) (s : State) :
    oldView (s.position.w + 1) (requested low s) = oldView (s.position.w + 1) s := by
  rw [← oldView_recorded low s, requested]
  exact oldView_congr _ (by rw [State.setEngine_ring]) (State.setEngine_conceal _ _) (by rw [State.setEngine_input])

section
variable {s : State} (hinv : EngineInv s) (hactive : s.engine.state = .active) (low : BitVec 4)
include hinv hactive

theorem requested_formatter : (requested low s).formatter = s.formatter := by
  rw [requested, State.setEngine_formatter, recorded_formatter hinv (by rw [hactive]; nofun)]

theorem requested_spans : (requested low s).lineage.span = s.lineage.span ∧
    (requested low s).lineage.refusals = s.lineage.refusals := by
  have hidle : s.formatter.state = .idle := by
    by_contra hno
    rw [hinv.exclusive hno] at hactive
    cases hactive
  rw [requested, State.setEngine_lineage, recorded_idle low hidle, ticked_span, ticked_refusals]
  exact ⟨rfl, rfl⟩

/-- A LOCKED tick of an ACTIVE engine: a REFUSE on capture frame W − 2 goes before a pending abort. -/
theorem spliced_aborts (hinput : InputInv s) (hlock : s.position.lock = .locked) {pre post : List CueEntry} {c : CueEntry}
    (hcues : s.engine.cues = pre ++ c :: post) (hcursor : s.engine.cursor = .entry c.id)
    (h : (s.engine.arm.mode = .execute ∧ (nextCapture s).2 = .refuse) ∨ (requested low s).engine.pendingAbort = true) :
    spliced low s = if s.engine.arm.mode = .execute ∧ (nextCapture s).2 = .refuse
      then abortRefused c (requested low s) else abortRequested c (requested low s) := by
  have hids := hinv.cueList.split_ids hcues
  obtain ⟨hengine, _, hrlock, _⟩ := recorded_keeps low s
  have hruling := (recorded_capture hinv (by rw [hactive]; nofun) hinput low).2
  have hfold : (handedRequests s).foldl engineRequest (recorded low s) = requested low s := by
    rw [foldl_active _ (by rw [hengine]; exact hactive), hengine]
    rfl
  have hcue := cursorCue_of_split (s := requested low s) hcues hids hcursor
  have hcapture : (captureFor ((requested low s).position.w - 2) (requested low s)).ruling = (nextCapture s).2 := by
    rw [← hruling, requested, State.setEngine_position]
    exact congrArg (·.ruling) (captureFor_congr (State.setEngine_input _ _) _)
  have hexecute : isExecute (requested low s) = true ↔ s.engine.arm.mode = .execute := by
    rw [isExecute, requested_engine, beq_iff_eq]
  have hlocked : (requested low s).position.lock = .locked := by rw [requested, State.setEngine_position, hrlock, hlock]
  unfold spliced engineTick
  rw [hfold]
  dsimp only
  have hstate : (requested low s).engine.state = .active := hactive
  rw [hstate]
  dsimp only
  rw [activeTick, hcue]
  dsimp only
  rw [if_neg (not_not.mpr hlocked), hcapture]
  by_cases hrefuse : s.engine.arm.mode = .execute ∧ (nextCapture s).2 = .refuse
  · rw [if_pos ⟨hexecute.mpr hrefuse.1, hrefuse.2⟩, if_pos hrefuse]
  · rw [if_neg fun hno => hrefuse ⟨hexecute.mp hno.1, hno.2⟩, if_neg hrefuse, if_pos (h.resolve_left hrefuse)]

end

/-- An abort on request in EXECUTE makes the fade and waits. -/
theorem abortRequested_execute {s : State} {e : CueEntry} (hm : s.engine.arm.mode = .execute) :
    abortRequested e s = awaitEnd .request (produceFade e false s) := if_pos (by rw [isExecute, hm]; rfl)

section
variable {s : State} {pre post : List CueEntry} {e : CueEntry} (hcues : s.engine.cues = pre ++ e :: post)
  (hids : ∀ d ∈ pre ++ post, d.id ≠ e.id)
include hcues hids

/-- An abort for refusal makes the fade with the refused flag, opens or extends the refused span, and waits. -/
theorem abortRefused_made : ∃ v, abortRefused e s = awaitEnd .refusal v ∧
    SpliceMade s v (fadeFrame s true) e
      (pre ++ { e with degraded := satAdd Config.max32 e.degraded (fadeDegraded s) } :: post) (fetchOld s).1.conceal ∧
    v.lineage.span = some (reportedSpan s.position.w (.edit e.id) s.lineage) ∧
    (s.lineage.span = none → Pends .copyRefused v) := by
  obtain ⟨hmade, hlineage⟩ := produceFade_made hcues hids true
  refine ⟨_, rfl, hmade.refused _ _, ?_, fun hno => refusedReport_pends _ _ _ (by rw [hlineage]; exact hno)⟩
  rw [refusedReport_span, hlineage]

/-- In EXECUTE an abort makes the fade and waits; one for refusal reports a refused frame to the guard besides. -/
theorem abort_execute_made (hm : s.engine.arm.mode = .execute) (p : Prop) [Decidable p] :
    ∃ v, (if p then abortRefused e s else abortRequested e s) = awaitEnd (if p then .refusal else .request) v ∧
      SpliceMade s v (fadeFrame s (decide p)) e
        (pre ++ { e with degraded := satAdd Config.max32 e.degraded (fadeDegraded s) } :: post) (fetchOld s).1.conceal ∧
      (¬p → v.lineage = s.lineage) ∧
      (p → v.lineage.span = some (reportedSpan s.position.w (.edit e.id) s.lineage) ∧
        (s.lineage.span = none → Pends .copyRefused v)) := by
  by_cases hp : p
  · obtain ⟨v, hends, hmade, hopened⟩ := abortRefused_made hcues hids
    refine ⟨v, ?_, ?_, fun hno => absurd hp hno, fun _ => hopened⟩
    · rw [if_pos hp, if_pos hp, hends]
    · rw [decide_eq_true hp]
      exact hmade
  · obtain ⟨hmade, hlineage⟩ := produceFade_made hcues hids false
    refine ⟨produceFade e false s, ?_, ?_, fun _ => hlineage, fun hyes => absurd hyes hp⟩
    · rw [if_neg hp, if_neg hp, abortRequested_execute hm]
    · rw [decide_eq_false hp]
      exact hmade

/-- An abort on request in REHEARSE ends the entry at the tick. -/
theorem abortRequested_rehearse (hcursor : s.engine.cursor = .entry e.id) (hm : s.engine.arm.mode = .rehearse) :
    abortRequested e s = endEntry
      { id := e.id, mode := .rehearse, outcome := .aborted, reason := some .requested,
        first := some (s.engine.run.first.getD s.position.w), last := some s.position.w,
        framesWritten := s.engine.run.framesWritten,
        degraded := satAdd Config.max32 e.degraded (fadeDegraded s), openEnded := false } (produceFade e false s) := by
  obtain ⟨hmade, _⟩ := produceFade_made hcues hids false
  have hexecute : isExecute s = false := by rw [isExecute, hm]; rfl
  have hcue : cursorCue (produceFade e false s) =
      some { e with degraded := satAdd Config.max32 e.degraded (fadeDegraded s) } :=
    cursorCue_of_split (by rw [hmade.engine]) hids (by rw [hmade.engine]; exact hcursor)
  have hended : abortRequested e s = endActive .aborted (some .requested) false (produceFade e false s) :=
    if_neg (by rw [hexecute]; exact Bool.false_ne_true)
  rw [hended, endActive_eq hcue, activeRecord, hmade.engine, hexecute, hm]
  rfl

end

/-- Settles O56: the rounding of a crossfade; the emergency fade by the engine's mode, a refusal first. -/
theorem crossfadeLiesBetween : Obligations.CrossfadeLiesBetween := by
  unfold Obligations.CrossfadeLiesBetween
  refine ⟨fun a b k f hf hk => ?_, fun s low c pre post hd hplay hinv hinput hemission hlock hactive hcues hcursor => ?_⟩
  · intro x exact
    obtain ⟨hlow, hhigh⟩ := mix_round_between a b hf hk
    obtain ⟨hnear, htie⟩ := roundAway_near exact hf
    have hx : x = roundAway exact f := toInt_crossfade a b hf hk
    rw [hx]
    exact ⟨hlow, hhigh, hnear, htie, crossfade_first a b hf, crossfade_last a b hf⟩
  · intro n w execute refusal request hcase old mark degraded
    have hids := hinv.cueList.split_ids hcues
    have hpending := requested_pendingAbort low s
    have htick := spliced_aborts hinv hactive low hinput hlock hcues hcursor (hcase.imp_right hpending.mpr)
    have hexec := exec_frameTick hd hplay low
    rw [tickInPlay_of_no_emission hemission, htick] at hexec
    have hengine := requested_engine low s
    have hformatter := requested_formatter hinv hactive low
    obtain ⟨hspan, hrefusals⟩ := requested_spans hinv hactive low
    have hw := requested_w low s
    have hrate := requested_rate low s
    have hview : oldView (requested low s).position.w (requested low s) = old := by rw [hw, requested_oldView]
    have hucues : (requested low s).engine.cues = pre ++ c :: post := hcues
    have hucursor : (requested low s).engine.cursor = .entry c.id := hcursor
    clear htick
    generalize requested low s = u at *
    have hpairs (b : Bool) : (fadeFrame u b).pairs = fadePairs s.engine.run.endPair n old.pairs := by
      rw [fadeFrame_pairs, hview, hrate, hengine]
    have hmark (b : Bool) : (fadeFrame u b).mark = mark := by
      rw [fadeFrame_mark, hview, hengine]
      rfl
    have hdegraded : satAdd Config.max32 c.degraded (fadeDegraded u) = degraded := by
      rw [fadeDegraded_eq, hview, hrate]
      rfl
    have hconceal : (fetchOld u).1.conceal = old.conceal := by rw [(fetchOld_view u).2.2.2, hview]
    clear_value old mark degraded
    by_cases hm : s.engine.arm.mode = .execute
    · have hmode : u.engine.arm.mode = .execute := by rw [hengine]; exact hm
      obtain ⟨v, hends, hmade, hkept, hopened⟩ := abort_execute_made hucues hids hmode refusal
      rw [hends] at hexec
      have hexecute : isExecute u = true := by rw [isExecute, hmode]; rfl
      refine ⟨_, fadePairs s.engine.run.endPair n old.pairs, hexec, length_fadePairs _ _ _,
        fun i hi => fadePairs_get _ hi _, hmade.conceal.trans hconceal, ?_, fun _ => ⟨?_, ?_, ?_,
          fun hr => (congrArg (·.span) (hkept hr)).trans hspan, fun hr => ?_⟩,
        fun hno => absurd hm hno⟩
      · show v.output.fresh.splice = _
        rw [hmade.output, hpairs, hmark]
      · show v.formatter.emission = _
        rw [hmade.formatter, hexecute, if_pos rfl, hpairs, spliceSubcode, hmark, hw, hrate]
        rfl
      · rw [State.setOutput_engine, awaitEnd_engine, hmade.engine, EntryRun.produced, hexecute, hpairs, hmark, hdegraded, hw, hengine]
        rfl
      · rw [State.setOutput_engine, awaitEnd_engine, hmade.engine]
        exact hpending
      · obtain ⟨hopen, hcause⟩ := hopened hr
        refine ⟨_, hopen, ?_, fun o ho => ?_, fun hno => ?_⟩
        · rw [reportedSpan_last, hw]
        · rw [reportedSpan_some (hspan.trans ho), hw]
        · rw [reportedSpan_none (hspan.trans hno), hw, hrefusals]
          exact ⟨rfl, rfl, rfl, hcause (hspan.trans hno)⟩
    · have hrehearse : u.engine.arm.mode = .rehearse := by
        rw [hengine]
        cases h : s.engine.arm.mode with
        | execute => exact absurd h hm
        | rehearse => rfl
      obtain ⟨hmade, hlineage⟩ := produceFade_made hucues hids false
      have hexecute : isExecute u = false := by rw [isExecute, hrehearse]; rfl
      rw [if_neg fun hr => hm hr.1, abortRequested_rehearse hucues hids hucursor hrehearse, hdegraded, hw] at hexec
      have hvmode : (produceFade c false u).engine.arm.mode = .rehearse := by rw [hmade.engine]; exact hrehearse
      have hvcues : (produceFade c false u).engine.cues =
          pre ++ { c with degraded := satAdd Config.max32 c.degraded (fadeDegraded u) } :: post := by rw [hmade.engine]
      generalize produceFade c false u = v at *
      generalize hr : SpliceRecord.mk _ _ _ _ _ _ _ _ _ = r at hexec
      have hquiet := quiet_endEntry r v
      have hended := endEntry_ended hvcues hids (r := r) (by rw [← hr])
      have hcause := endEntry_pends r v
      refine ⟨_, fadePairs s.engine.run.endPair n old.pairs, hexec, length_fadePairs _ _ _,
        fun i hi => fadePairs_get _ hi _, ?_, ?_, fun hyes => absurd hyes hm, fun _ => ⟨?_, ?_, ?_, ?_⟩⟩
      · exact hquiet.conceal.trans (hmade.conceal.trans hconceal)
      · show (endEntry r v).output.fresh.splice = _
        rw [hquiet.output, hmade.output, hpairs, hmark]
      · show (endEntry r v).formatter.emission = _
        rw [hquiet.formatter, hmade.formatter, hexecute, if_neg Bool.false_ne_true, hformatter]
        exact hemission
      · show (endEntry r v).engine = _
        rw [hended, hmade.engine, if_neg (by rw [hrehearse]; nofun), ← hr, hengine]
        rfl
      · rw [← hr] at hcause
        rw [← hr]
        exact hcause
      · exact (congrArg (·.span) (endEntry_lineage r hvmode)).trans ((congrArg (·.span) hlineage).trans hspan)

end Sys2Proof.Machine
end
